-- ==== Sys2Proof/Word.lean ====
section
/-! DEFINITION. The word types of the Burcel: 32-bit registers, bytes of the stores, and sparse maps held in one
canonical form. -/
namespace Sys2Proof

/-- A BAR0 register, 32 bits (00_scope.md R9). -/
abbrev Word := BitVec 32
/-- A byte of a store (00_scope.md R8). -/
abbrev Byte := BitVec 8
/-- A sparse map: the entries that differ from a default, by strictly rising key. -/
abbrev SMap (α : Type) := List (Nat × α)

end Sys2Proof
end

