-- ==== Sys2Proof/Syntax.lean ====
section
/-! DEFINITION. The commands the Burcel takes: spec/opcode_table.json row by row, with the operands the spec's text gives
them. A command that the environment delivers (a measured value, the verdict of a signature check, the bytes of a frame)
carries what the environment knows and the block cannot compute. -/
namespace Sys2Proof

/-- Who writes a register (23_register_reference.md Table 23-2, SYS_DENY_STATUS.MASTER). -/
inductive Master where
  | host | dap | clerk (core : Nat)
  deriving DecidableEq, Repr

/-- A BAR0 write: its master, whether its byte enables cover the whole word (R437), and its data. -/
structure BusWrite where
  master : Master
  whole : Bool
  data : Word
  deriving DecidableEq, Repr

/-- What a unit's report bus names (19_faults_and_interrupts.md R518, R522, R523): unit code, cause of Table 19-7, class of
Table 19-2, DETAIL, and whether the signalled state that raised it still holds (R537). -/
structure FaultReport where
  unit : Nat
  cause : Nat
  cls : Nat
  detail : Nat := 0
  held : Bool := false
  deriving DecidableEq, Repr

/-- A frame as a port receives it (14_weafy_lanes.md Table 14-4): virtual channel, type, addresses, sequence number, tag,
argument, the bytes from 0x10 without FCRC, and whether each check word is good. -/
structure Frame where
  vc : Nat
  kind : Nat
  src : Nat := 0
  dst : Nat := 0
  bcast : Bool := false
  seq : Nat := 0
  tag : Nat := 0
  arg : Nat := 0
  payload : List Byte := []
  hcrcOk : Bool := true
  fcrcOk : Bool := true
  deriving DecidableEq, Repr

/-- What the sync master knows of its group when it decides an Arm (15_lockstep_groups.md R415, R416, R421): the parent of each
member on the tree links; a member whose routes break R429, with the destination; each member's measured request-to-data latency in
ns. -/
structure GroupView where
  parents : List (Nat × Nat) := []
  routeFail : Option (Nat × Nat) := none
  lats : List (Nat × Nat) := []
  deriving DecidableEq, Repr

/-- What the comparator outputs showed at a strobe, or throughout a window (03_pin_channels.md R75, R112): CMP_H and CMP_L at
the instant or throughout; for a window also whether either was 1 at any time, whether both were 0 at any time, and whether a
verify symbol saw the wrong output for the driven level at any time. -/
structure Strobed where
  h : Bool
  l : Bool
  anyHigh : Bool := false
  anyLow : Bool := false
  gap : Bool := false
  verifyBad : Bool := false
  deriving DecidableEq, Repr

/-- What the checks of a bundle found that need keys or the decrypted body (07_reader_microcode.md Table 7-5): signature, GCM tag,
body and read-back digest good, and the digest taken. -/
structure BundleCheck where
  sig : Bool := true
  tag : Bool := true
  body : Bool := true
  readBack : Bool := true
  digest : Nat := 0
  deriving DecidableEq, Repr

/-- What Boot meets that no register or store tells it (02_modes_and_startup.md Table 2-11): the SHA-384 of the image in partition A
and in partition B where signature, tag and body digest pass; CONFIG's BAR4 and Subsystem IDs; REFCLK_P/N; the keyed checks of the
errata bundle in the active and in the previous slot; the training of stacks 0 and 1 and the RFM threshold each reports; and the
licence bodies of slots 0 and 1 whose keyed checks pass. -/
structure BootReport where
  imageA : Option Nat := none
  imageB : Option Nat := none
  bar4 : Bool := false
  subsys : Nat := 0
  refclk : Bool := true
  errata : BundleCheck := {}
  errataOld : BundleCheck := {}
  stack0 : Bool := true
  stack1 : Bool := true
  rfm0 : Nat := 0
  rfm1 : Nat := 0
  licence0 : Option (List (BitVec 8)) := none
  licence1 : Option (List (BitVec 8)) := none
  deriving DecidableEq, Repr

/-- What a register access meets outside the block where its command has further operands: those of the commands that name them
(`ecc` of SPD accesses, `sync`, `view` and `hops` of GRP_CTRL, `ref` of CAL_CMD, `ok` and `body` of LICENCE_INSTALL, `gone` of
FCL_CLEAR, `bits` and `errs` of LNK_DL_BITS). -/
structure Facts where
  ecc : Nat := 0
  sync : Bool := false
  view : GroupView := {}
  hops : List (Nat × Nat × Nat) := []
  ref : Bool := true
  ok : Bool := false
  body : List (BitVec 8) := []
  gone : List (Nat × Nat) := []
  bits : Nat := 0
  errs : Nat := 0
  deriving DecidableEq, Repr

/-- The commands of the Burcel, one constructor per row of spec/opcode_table.json, in the table's order but that the rows without
operands, and before them some of the rarer rows, stand last (Lean gives code to the first 245 constructors with operands). -/
inductive Instr where
  /-- REGISTER_WRITE (R10): A BAR0 write to a register that has no row of its own takes effect under its access code, or is denied and recorded. `a` is the BAR0 offset. -/
  | registerWrite (a : Nat) (w : BusWrite) (x : Facts)
  /-- SYS_DENY_CLEAR (R610): Writing 1 to SYS_DENY_STATUS.DENIED clears the denied-write record. -/
  | sysDenyClear (w : BusWrite)
  /-- FIRST_RAIL_RAMP (R48): The first supply ramp takes the device from no supply into Cold with every ball high-impedance. `inOrder`: the groups rose in the order of R52. -/
  | firstRailRamp (inOrder : Bool)
  /-- RAIL_LOSS (R53): A rail of groups 1 to 5 outside its good threshold for 1 µs after Cold exit puts the device into Cold. -/
  | railLoss (aonBelow720mV : Bool)
  /-- BAY_RAIL_LOSS (R53): A group-6 rail of one bay out of threshold for 1 µs turns that bay's pin-die analogue domain and its dependents OFF and raises a Unit-fatal fault. `vdh`: the VDH rail, else VDL. -/
  | bayRailLoss (b : Nat) (vdh : Bool)
  /-- COLD_EXIT (R55): Once rails are good for 10 ms, the crystal is stable and PERST_N is high, Cold ends and Boot begins. `vdh`, `vdl`: bit b, the VDH or VDL rail of bay b is good. -/
  | coldExit (vdh vdl : Nat)
  /-- BOOT_COMPLETE (R60): Completion of Boot step 8 sets the power domains, enables MSI-X and enters Idle. -/
  | bootComplete (r : BootReport)
  /-- MODE_REQ_IDLE (R48): A mode request for Idle runs the matching transition of Table 2-6 or is refused. -/
  | modeReqIdle (w : BusWrite)
  /-- MODE_REQ_STANDBY (R62): A mode request for Standby checks for outstanding work and starts Standby entry or is refused. -/
  | modeReqStandby (w : BusWrite)
  /-- MODE_REQ_CALIBRATE (R48): A mode request for Calibrate from Idle starts the transition or is refused. -/
  | modeReqCalibrate (w : BusWrite)
  /-- MODE_REQ_LOAD (R48): A mode request for Load from Idle starts the transition or is refused. -/
  | modeReqLoad (w : BusWrite)
  /-- MODE_REQ_CHARACTERISE (R48): A mode request for Characterise from Idle starts the transition or is refused. -/
  | modeReqCharacterise (w : BusWrite)
  /-- MODE_REQ_SELFTEST (R644): A mode request for Self-test starts the transition and the selected tests, or is refused. -/
  | modeReqSelftest (w : BusWrite)
  /-- MODE_REQ_SAFE (R50): A mode request for Safe enters Safe, stopping every context and taking the Safe pin state. -/
  | modeReqSafe (w : BusWrite)
  /-- MODE_REQ_WARM_REBOOT (R48): A mode request for Boot from Idle or Safe starts a warm reboot. -/
  | modeReqWarmReboot (w : BusWrite)
  /-- WAKE_SOURCE (R63): A BAR0 access, an enabled EVT rising edge or a fabric wake message wakes the device into Boot or aborts Standby entry. `src`: 0 a host access to BAR0, 1 a wake message on fabric port 0, 2 + i a rising edge at EVT[i]. -/
  | wakeSource (src : Nat)
  /-- SELFTEST_TEST_END (R644): A running self-test ends, updates SYS_SELFTEST_STATUS and starts the next selected test or sets DONE. `bad`: the units that failed, in ascending unit code, each with its cause (test 0), with the DETAIL of its fault (test 7), or 0. -/
  | selftestTestEnd (bad : List (Nat × Nat))
  /-- DOM_REQ_ON (R65): A PWR_DOM_CTRL request for ON checks dependencies and starts the domain's ramp or is refused. -/
  | domReqOn (d : Nat) (w : BusWrite)
  /-- DOM_REQ_OFF (R65): A PWR_DOM_CTRL request for OFF checks dependants and ownership and loses the domain's state, or is refused. -/
  | domReqOff (d : Nat) (w : BusWrite)
  /-- DOM_REQ_ISO (R65): A PWR_DOM_CTRL request for ISO isolates a powered domain or is refused. -/
  | domReqIso (d : Nat) (w : BusWrite)
  /-- DOM_REQ_LOW (R65): A PWR_DOM_CTRL request for LOW puts domain 42 into its low state or is refused as UNSUPPORTED. -/
  | domReqLow (d : Nat) (w : BusWrite)
  /-- DOM_RAMP_DONE (R642): A ramping domain reaches ON or ISO within its switch-on time. -/
  | domRampDone (d : Nat)
  /-- CHN_CTRL_WRITE (R85): A write to CHN_CTRL changes context, path or mode, connecting or disconnecting the ball and starting settling. -/
  | chnCtrlWrite (ch : Nat) (w : BusWrite)
  /-- CHN_LEVEL_WRITE (R71): A write to a level register changes the applied level, with clipping under R72, and starts settling. `i`: 0 VIH, 1 VIL, 2 VTT, 3 VOH, 4 VOL. -/
  | chnLevelWrite (ch i : Nat) (w : BusWrite)
  /-- CHN_STATIC_WRITE (R84): A CHN_STATIC write changes the static symbol applied within 50 ns. -/
  | chnStaticWrite (ch : Nat) (w : BusWrite)
  /-- CHN_PARK_WRITE (R87): A LIVE CHN_PARK write changes the park mode at the next leaf boundary. -/
  | chnParkWrite (ch : Nat) (w : BusWrite)
  /-- CHN_TERM_WRITE (R80): A CHN_TERM write changes active termination and starts settling. -/
  | chnTermWrite (ch : Nat) (w : BusWrite)
  /-- SETTLING_DONE (R96): A channel change reaches the end of its settling time and CHN_STATUS.SETTLED returns to 1. -/
  | settlingDone (ch : Nat)
  /-- CHN_FENCE_SET (R89): CHN_FENCE.SET fences the channel with cause HOST and parks it. -/
  | chnFenceSet (ch : Nat) (w : BusWrite)
  /-- CHN_FENCE_CLEAR (R93): CHN_FENCE.CLEAR sets CLEAR_PENDING and clears the fence once its conditions hold. -/
  | chnFenceClear (ch : Nat) (w : BusWrite)
  /-- CHN_FENCE_RELEASE (R93): A pending channel clear takes effect once no fault remains and its context is IDLE, STOPPED or OFF. -/
  | chnFenceRelease (ch : Nat)
  /-- OVERVOLT (R91): A fast-mode ball outside −0.5 V to +2.0 V for 100 ns opens the fast path and fences the channel with cause OVERVOLT. -/
  | overvolt (ch : Nat)
  /-- ILIM_REACHED (R92): The driver reaches its current limit, limits its output and sets CHN_STATUS.ILIM. -/
  | ilimReached (ch : Nat)
  /-- OVERCURRENT (R92): A current limit held for 10 µs fences the channel with cause OVERCURRENT. -/
  | overcurrent (ch : Nat)
  /-- LEAF_BOUNDARY (R20): A leaf boundary of a context takes every decision due there and starts the next leaf. `rx`: the bits each FOLIO receiver took in the leaf that ends, after the slip. -/
  | leafBoundary (c : Nat) (rx : List (Nat × List Byte))
  /-- DRIVER_EVENT (R118): A drive event reaches its computed time and makes the driver transition its format assigns. -/
  | driverEvent (ch : Nat)
  /-- STROBE (R112): A strobe or window evaluates the expectation of the vector that scheduled it and records capture bits. -/
  | strobe (ch : Nat) (r : Strobed)
  /-- CHARACTERISE_TIMING_WRITE (R125): An EDG or RDR_PER write in Characterise is checked against Table 4-12 and applied at the next leaf boundary or denied. `a` is the BAR0 offset of an EDG or RDR_PER register. -/
  | characteriseTimingWrite (a : Nat) (w : BusWrite)
  /-- RDR_CTRL_ARM (R187): RDR_CTRL.ARM starts the Arm check of the context. -/
  | rdrCtrlArm (c : Nat) (w : BusWrite)
  /-- ARM_CHECK_COMPLETE (R187): The Arm check ends, reporting its status and entering ARMED or leaving the context IDLE. `start`: the master-clock count at which the idle folio's first leaf starts. -/
  | armCheckComplete (c start : Nat)
  /-- RDR_CTRL_START (R178): RDR_CTRL.START takes an ARMED context into PLAY or WAIT from leaf L+3. -/
  | rdrCtrlStart (c : Nat) (w : BusWrite)
  /-- RDR_CTRL_HALT (R180): RDR_CTRL.HALT pauses the context from leaf L+2 without losing a leaf. -/
  | rdrCtrlHalt (c : Nat) (w : BusWrite)
  /-- FORCED_HALT (R181): HALT with FORCE stops the context with FORCED_HALT, leaving any group and invalidating its sites. -/
  | forcedHalt (c : Nat) (w : BusWrite)
  /-- RDR_CTRL_RESUME (R180): RDR_CTRL.RESUME returns a PAUSED context to its previous state from leaf L+3. -/
  | rdrCtrlResume (c : Nat) (w : BusWrite)
  /-- RDR_CTRL_DISARM (R178): RDR_CTRL.DISARM returns an ARMED or PAUSED context to IDLE. -/
  | rdrCtrlDisarm (c : Nat) (w : BusWrite)
  /-- RDR_CTRL_ACK (R183): RDR_CTRL.ACK returns a STOPPED context to IDLE. -/
  | rdrCtrlAck (c : Nat) (w : BusWrite)
  /-- RDR_HOSTFLAG_WRITE (R165): A write of 1 to a bit of RDR_HOSTFLAG sets the host flag latch. -/
  | rdrHostflagWrite (c : Nat) (w : BusWrite)
  /-- RDR_VCNT_READ (R189): A read of a counter's _LO latches its upper bits and WRAP into _HI. `leaves`: RDR_LCNT_LO, else RDR_VCNT_LO. -/
  | rdrVcntRead (c : Nat) (leaves : Bool)
  /-- NOP (R156): The NOP sequence word does nothing. -/
  | wordNop (c : Nat)
  /-- PLAY (R158): The PLAY word resolves and plays a folio, or its first n leaves and suspends it. -/
  | wordPlay (c : Nat)
  /-- PLAYC (R158): The PLAYC word continues the folio suspended at the current call level. -/
  | wordPlayc (c : Nat)
  /-- LOOP (R160): The LOOP word plays its body COUNT times, later iterations from the loop buffer. -/
  | wordLoop (c : Nat)
  /-- ENDLOOP (R160): The ENDLOOP word closes the innermost loop body and repeats or leaves it. -/
  | wordEndloop (c : Nat)
  /-- CALL (R159): The CALL word pushes its return point and suspended folio and continues at TARGET. -/
  | wordCall (c : Nat)
  /-- RETURN (R159): The RETURN word pops the return point and suspended folio. -/
  | wordReturn (c : Nat)
  /-- WAIT (R166): The WAIT word plays the wait folio until its source releases it or the timeout expires. -/
  | wordWait (c : Nat)
  /-- MATCH (R173): The MATCH word repeats a folio until an iteration matches or MAX iterations end. -/
  | wordMatch (c : Nat)
  /-- BRANCH (R170): The BRANCH word watches the following leaves for fails and transfers to TARGET. -/
  | wordBranch (c : Nat)
  /-- SYNC (R176): The SYNC word waits at a local or group barrier until it completes. -/
  | wordSync (c : Nat)
  /-- SITEMASK (R153): The SITEMASK word replaces half of the active site mask, parking inactive sites if PARK is set. -/
  | wordSitemask (c : Nat)
  /-- TSET (R107): The TSET word sets or releases a timing-set override from the first vector of a leaf. -/
  | wordTset (c : Nat)
  /-- PERIOD (R108): The PERIOD word replaces a period-table entry from a leaf, or stops the context with PERIOD_INVALID. -/
  | wordPeriod (c : Nat)
  /-- MARK (R188): The MARK word writes a marker record and pulses the marker output. -/
  | wordMark (c : Nat)
  /-- HOLD (R168): The HOLD word plays the hold folio for Y leaves. -/
  | wordHold (c : Nat)
  /-- HALT (R178): The HALT word puts the context into PAUSED at its position. -/
  | wordHalt (c : Nat)
  /-- END (R182): The END word ends the run, returning to ARMED with REARM or to IDLE. -/
  | wordEnd (c : Nat)
  /-- LEAF_FETCH_DONE (R219): A leaf record fetch returns, is checked into the folio cache, or stops the context on invalid or poisoned data. -/
  | leafFetchDone (c : Nat)
  /-- HOLD_RESUME (R185): Once leaf M and its followers are present, a HOLD context resumes with leaf M at L+3. -/
  | holdResume (c : Nat)
  /-- HOLD_LIMIT_EXPIRED (R185): A starvation hold lasting RDR_HOLD_LIMIT leaves ends the context STOPPED with STARVED. -/
  | holdLimitExpired (c : Nat)
  /-- WAIT_TIMEOUT (R166): A WAIT or SYNC whose TIMEOUT leaves pass without release ends the context STOPPED. -/
  | waitTimeout (c : Nat)
  /-- WAIT_TIMER_EXPIRY (R167): A WAIT on TIMER releases at the first boundary after Y × 10 ns have passed. -/
  | waitTimerExpiry (c : Nat)
  /-- UCS_RELOAD (R203): UCS_CMD.RELOAD puts the cluster's contexts OFF and starts loading a bundle, or is refused. -/
  | ucsReload (b : Nat) (w : BusWrite)
  /-- UCS_RELOAD_DONE (R202): A reload ends DONE with the contexts IDLE, or refused with the active slot reloaded or the cluster fenced. The keyed checks of the source's bundle and of the active slot's. -/
  | ucsReloadDone (b : Nat) (v v2 : BundleCheck)
  /-- STATE_PARITY (R195): A parity error in a thread's state fences the cluster. -/
  | stateParity (c : Nat)
  /-- CONC_LOAD (R140): LIB_CONC_CMD.GO starts a concordance load into the named bays, or is refused. -/
  | concLoad (w : BusWrite)
  /-- LIB_CMD_NONE (R235): GO with OP 0 completes with DONE. -/
  | libCmdNone (w : BusWrite)
  /-- INVALIDATE (R227): INVALIDATE removes call number N from every catalogue cache and the prefetcher. -/
  | libInvalidate (w : BusWrite)
  /-- INVALIDATE_ALL (R227): INVALIDATE_ALL removes every entry from every catalogue cache and the prefetcher. -/
  | libInvalidateAll (w : BusWrite)
  /-- LOAD (R231): LOAD reads a folio from its ORIGIN and writes one part per TARGETS bit. -/
  | libLoad (w : BusWrite)
  /-- EVICT (R234): EVICT clears the named RES_MAP bits in both table copies and invalidates N. -/
  | libEvict (w : BusWrite)
  /-- LOAD_PART_DONE (R231): A LOAD part finishes writing and checking, or fails. -/
  | loadPartDone (part : Nat) (ok : Bool)
  /-- LOAD_PART_TIMEOUT (R233): A LOAD part that makes no progress for 1 s fails with TIMEOUT. -/
  | loadPartTimeout (part : Nat)
  /-- PREFETCH_REQUEST (R220): The prefetcher requests a streamed leaf's bytes from ORIGIN D leaves before it plays. `part`: 0 the folio's header, k + 1 leaf record k; `off`, `len`: where it lies in the folio. -/
  | prefetchRequest (c cn part off len : Nat)
  /-- STAGED_DATA_ARRIVAL (R221): Remote bytes arrive in the staging ring tagged with their entry snapshot. -/
  | stagedDataArrival (c cn part : Nat)
  /-- STACK_INTERVAL (R238): Each 100 ns scheduler interval serves reservations then round-robin capacity. `reqs`: the requests that reach the scheduler, each a class of Table 9-1, an OFFSET, and whether it writes. -/
  | stackInterval (st : Nat) (reqs : List (Nat × Nat × Bool))
  /-- STACK_READ (R255): A stack read completes with an outcome combining on-die ECC and the end-to-end code. `die`: on-die severity, 0 none, 1 corrected, 2 uncorrected; `code`: the controller's code, 0 clean, 1 one symbol corrected, 2 uncorrectable or address mismatch; `sym`: the symbol; `die2`, `code2`: the same of the twin in a mirror window. -/
  | stackRead (a cls die code sym die2 code2 : Nat)
  /-- STACK_WRITE (R258): A stack write completes, retrying up to 3 times on a parity error. `tries`, `tries2`: how many attempts met a parity error on the stack and on its twin. -/
  | stackWrite (a cls : Nat) (data : List Byte) (bad : Bool) (tries tries2 : Nat)
  /-- REFRESH_DUE (R246): A bank's refresh interval expires and the controller refreshes it. `k`: 64 times the pseudo-channel plus the bank. -/
  | refreshDue (st k postponed : Nat)
  /-- STACK_TEMP_READ (R246): The controller reads the stack temperature every 1 ms, setting HOT or OVERTEMP. In °C. -/
  | stackTempRead (st : Nat) (temp : Int)
  /-- TRACKER_WINDOW_END (R248): At each 32 ms window boundary every tracker clears and every throttle lifts. -/
  | trackerWindowEnd (st : Nat)
  /-- STK_FREQ_GO (R253): STK_FREQ.GO starts a frequency change now, records it for the next training, or is refused. -/
  | stkFreqGo (st : Nat) (w : BusWrite)
  /-- FREQ_CHANGE_DONE (R254): A frequency change ends DONE, TRAIN_BACK or with the stack fenced. -/
  | freqChangeDone (st : Nat) (ok back : Bool)
  /-- STK_FENCE (R267): STK_CTRL.FENCE fences a stack with cause HOST, or is refused. -/
  | stkFence (st : Nat) (w : BusWrite)
  /-- STK_RETRAIN (R267): STK_CTRL.RETRAIN starts retraining a stack, or is refused. -/
  | stkRetrain (st : Nat) (w : BusWrite)
  /-- STK_CLR_CNT (R269): STK_CTRL.CLR_CNT clears the stack counters. -/
  | stkClrCnt (st : Nat) (w : BusWrite)
  /-- STACK_RETRAIN_DONE (R267): A retrain ends ACTIVE with copies usable again, or FENCED with TRAIN_FAIL. -/
  | stackRetrainDone (st : Nat) (ok : Bool)
  /-- SCRUB_PASS (R260): Patrol scrub reads each granule once per SCRUB_H hours and rewrites corrected ones. -/
  | scrubPass (a die code sym : Nat)
  /-- MIRROR_ENABLE (R263): Setting EN on a mirror window starts the copy and double writes. -/
  | mirrorEnable (win : Nat) (w : BusWrite)
  /-- MIRROR_SYNC_DONE (R263): The mirror copy ends and the window's SYNC reads 1. -/
  | mirrorSyncDone (win : Nat)
  /-- STK_LOG_CLR (R261): STK_LOG_STATUS.CLR clears the DROPPED count. -/
  | stkLogClr (w : BusWrite)
  /-- RECORD_STORED (R274): A record's store completes and WR advances past it. `k`: 21 times the bay plus the stream index; `failed`: the stack ended the write with WRITE_ERROR. -/
  | recordStored (k : Nat) (failed : Bool)
  /-- LDG_STR_ENABLE (R272): Setting LDG_STR_CFG.EN resets WR, DR, SEQ and the lost count of the stream. -/
  | ldgStrEnable (k : Nat) (w : BusWrite)
  /-- LDG_STR_DR_WRITE (R274): A DR write frees stream bytes, or is ignored with DR_ERR. -/
  | ldgStrDrWrite (k : Nat) (w : BusWrite)
  /-- LDG_SITE_QUOTA_WRITE (R293): A QUOTA write takes effect at once and may put the site over-quota. -/
  | ldgSiteQuotaWrite (site : Nat) (w : BusWrite)
  /-- LDG_SITE_FAIL_READ (R300): A consuming read of LDG_SITE_FAIL latches the drop count and saturation flags. `peek`: a debug peek. -/
  | ldgSiteFailRead (site : Nat) (peek : Bool)
  /-- LDG_SITE_FAIL_WRITE (R301): A write to LDG_SITE_FAIL loads the counter. -/
  | ldgSiteFailWrite (site : Nat) (w : BusWrite)
  /-- LDG_SITE_DROP_WRITE (R301): A write to LDG_SITE_DROP loads the drop counter. -/
  | ldgSiteDropWrite (site : Nat) (w : BusWrite)
  /-- FF_CLR (R279): LDG_SITE_STATUS.FF_CLR clears the first-fail registers. -/
  | ffClr (site : Nat) (w : BusWrite)
  /-- PMU_CTRL_WRITE (R304): A PMU_CTRL write changes mode or range and starts PMU settling. -/
  | pmuCtrlWrite (ch : Nat) (w : BusWrite)
  /-- PMU_FORCE_WRITE (R306): A LIVE PMU_FORCE write changes the forced value at the next leaf boundary or at once. -/
  | pmuForceWrite (ch : Nat) (w : BusWrite)
  /-- PMU_CLAMP_WRITE (R308): A LIVE PMU_CLAMP write changes the clamps. -/
  | pmuClampWrite (ch : Nat) (w : BusWrite)
  /-- PMU_SENSE_WRITE (R310): A PMU_SENSE write routes a SENSE ball to a channel, or is denied. -/
  | pmuSenseWrite (b k : Nat) (w : BusWrite)
  /-- SENSE_OPEN (R311): More than 200 mV between ball and SENSE for 10 µs reverts to local regulation. -/
  | senseOpen (ch : Nat)
  /-- PMU_SETTLED (R312): A PMU change reaches its settling time and PMU_STATUS.SETTLED returns to 1. -/
  | pmuSettled (ch : Nat)
  /-- FLT_CH_WRITE (R320): A FLT_CH write that changes EN, PRESET or PHASE restarts the channel's chain. -/
  | fltChWrite (ch : Nat) (w : BusWrite)
  /-- DECIMATION_SAMPLE (R316): A channel's chain produces a sample word at a grid count multiple of its decimation. `g`: the grid count; `value`: the result in measured LSB; the flags: whether the modulator overloaded, a clamp engaged or the PMU settled in a period of the decimation interval. -/
  | decimationSample (ch g : Nat) (value : Int) (overload clamped settling : Bool)
  /-- FLT_BANK_SWAP (R326): FLT_BANK.SWAP sets PENDING for a coefficient bank swap. -/
  | fltBankSwap (b : Nat) (w : BusWrite)
  /-- BANK_SWAP_APPLY (R326): At the next grid count multiple of N_max the active bank changes. -/
  | bankSwapApply (b g : Nat)
  /-- ACQ_ARM (R351): ACQ_CTRL.ARM checks the engine and enters ARMED in S0. -/
  | acqArm (e : Nat) (w : BusWrite)
  /-- ACQ_STOP (R346): ACQ_CTRL.STOP stops the engine with cause HOST. -/
  | acqStop (e : Nat) (w : BusWrite)
  /-- ACQ_SAMPLE_STEP (R337): An arriving sample is evaluated in one engine step. -/
  | acqSampleStep (e : Nat)
  /-- ACQ_TIMER_STEP (R335): A TIMER transition becoming due in a tick without samples runs a timer step. -/
  | acqTimerStep (e : Nat)
  /-- HOLDOFF_END (R341): A hold-off completes its count of ticks, samples or events. -/
  | holdoffEnd (e : Nat)
  /-- TIM_ARM (R369): TIM_CTRL.ARM checks the TIM and enters ARMED. -/
  | timArm (t : Nat) (w : BusWrite)
  /-- TIM_STOP (R370): TIM_CTRL.STOP stops the TIM with cause HOST. -/
  | timStop (t : Nat) (w : BusWrite)
  /-- TIM_STAMP (R358): A source event is stamped, or counted missed if too close to the previous one. `time`: the raw time of the event in FU; `start`, `stop`: whose source it is. -/
  | timStamp (t : Nat) (time : Int) (start stop : Bool)
  /-- TIM_MEASURE_TIMEOUT (R359): A measurement's timeout passes with fewer than NSTOP stops and it ends. -/
  | timMeasureTimeout (t : Nat)
  /-- TIM_GATE_CLOSE (R363): The frequency gate closes and the fit is made. -/
  | timGateClose (t : Nat)
  /-- TIM_RESULT_WRITE (R365): A completed result set is written, the TIM latch set and a record written. -/
  | timResultWrite (t : Nat)
  /-- TIM_RES_SEQ_READ (R366): A read of TIM_RES_SEQ latches one result set into the readout registers. -/
  | timResSeqRead (t : Nat) (peek : Bool)
  /-- TIM_XO_WRITE (R374): A host write to TIM_XO_OFF or TIM_XO_AGE sets the term and its VALID bit. -/
  | timXoWrite (age : Bool) (w : BusWrite)
  /-- LANE_LOCK (R380): A receiving lane declares lock after 64 blocks with valid headers. -/
  | laneLock (p l : Nat)
  /-- LANE_LOCK_LOST (R380): A window of 64 blocks with 16 invalid headers ends lock and restarts the hunt. -/
  | laneLockLost (p l : Nat)
  /-- ALIGN (R381): An ALIGN row deskews the lanes and reseeds the scramblers. `skews`: the lanes' skews in blocks. -/
  | rowAlign (p : Nat) (skews : List Nat)
  /-- NEG (R384): A NEG row carries PROPOSE or ACCEPT of the rate negotiation. The content of Table 14-3. -/
  | rowNeg (p version st maxRate rate peerPort identity : Nat)
  /-- CREDIT (R393): A CREDIT row returns freed credits and acknowledges frames or requests a NAK replay. The content of R393. -/
  | rowCredit (p : Nat) (freed : List Nat) (ack : Nat) (nak : Bool)
  /-- PORT_TRAIN_DONE (R384): Training and the PRBS check end, entering UP or lowering the rate. The lanes that showed a bit error or did not train; 0: none. -/
  | portTrainDone (p badLanes : Nat)
  /-- LNK_PORT_RETRAIN (R386): LNK_PORT_CTRL.RETRAIN starts a retrain, or is refused with PRECONDITION. -/
  | lnkPortRetrain (p : Nat) (w : BusWrite)
  /-- LNK_PORT_FENCE (R386): LNK_PORT_CTRL.FENCE fences the port, or is refused with PRECONDITION. -/
  | lnkPortFence (p : Nat) (w : BusWrite)
  /-- LNK_PORT_CLEAR (R387): LNK_PORT_CTRL.CLEAR clears a fence and the port climbs the ladder. -/
  | lnkPortClear (p : Nat) (w : BusWrite)
  /-- LNK_PORT_COUNT_WRITE (R395): A write to a port event count clears it. Counter `k` of the six from LNK_PORT_CRC on. -/
  | lnkPortCountWrite (p k : Nat) (w : BusWrite)
  /-- LIB_READ (R393): A LIB_READ frame is answered with LIB_DATA frames. -/
  | frameLibRead (p : Nat) (f : Frame)
  /-- LIB_DATA (R393): A LIB_DATA frame delivers library data for a request. -/
  | frameLibData (p : Nat) (f : Frame)
  /-- LIB_WRITE (R231): A LIB_WRITE frame writes a part of a LOAD on a member. -/
  | frameLibWrite (p : Nat) (f : Frame)
  /-- LIB_ACK (R232): A LIB_ACK frame acknowledges a part or a commit. -/
  | frameLibAck (p : Nat) (f : Frame)
  /-- KEEPALIVE (R388): A KEEPALIVE frame is received on VC3. -/
  | frameKeepalive (p : Nat) (f : Frame)
  /-- LNK_DL_SEARCH (R402): LNK_DL_SEARCH.GO starts the slip search. -/
  | lnkDlSearch (j : Nat) (w : BusWrite)
  /-- SEARCH_DONE (R402): The slip search ends FOUND, NOT_FOUND or NO_DATA. The first slip with two clean windows; whether 1 ms passed without WINDOW compared bits. -/
  | searchDone (j : Nat) (found : Option Nat) (noData : Bool)
  /-- LNK_DL_ERR_WRITE (R404): A write to LNK_DL_ERR clears both lane counters. -/
  | lnkDlErrWrite (j : Nat) (w : BusWrite)
  /-- LNK_DL_BITS_READ (R404): A read of LNK_DL_BITS_LO latches the upper bits, WRAP and LNK_DL_ERR. The bits received and the mismatches since the last read. -/
  | lnkDlBitsRead (j bits errs : Nat)
  /-- GRP_ARM (R415): GRP_CTRL.ARM at the sync master starts the two-phase group Arm. `sync`: a SYNC_IN pulse came within two periods; `v` serves a group whose members have all answered. -/
  | grpArm (w : BusWrite) (sync : Bool) (v : GroupView)
  /-- GRP_START (R426): GRP_CTRL.START sets START in a DOWN summary. -/
  | grpStart (w : BusWrite)
  /-- GRP_RESUME (R424): GRP_CTRL.RESUME resumes a uniformly frozen or paused group, or is refused. `hops`: member, LNK_PORT_LAT and row time of each PARENT port that retrained. -/
  | grpResume (w : BusWrite) (hops : List (Nat × Nat × Nat))
  /-- GRP_DISARM (R434): GRP_CTRL.DISARM returns every group context to IDLE. -/
  | grpDisarm (w : BusWrite)
  /-- GRP_CONFIRM (R433): GRP_CTRL.CONFIRM removes lost members after a split. -/
  | grpConfirm (w : BusWrite)
  /-- GRP_DECLINE (R433): GRP_CTRL.DECLINE stops the master half after a split. -/
  | grpDecline (w : BusWrite)
  /-- PREPARE (R415): A PREPARE frame runs the member's Arm checks and answers READY or REFUSE. `sync`: a SYNC_IN pulse came within two periods. -/
  | framePrepare (p : Nat) (f : Frame) (sync : Bool)
  /-- READY (R415): A READY frame reports a member's digest, latency and site map. -/
  | frameReady (p : Nat) (f : Frame) (v : GroupView)
  /-- COMMIT (R416): A COMMIT frame arms the group contexts and schedules alignment. `late`: pulse p + 1 came before the COMMIT; `lats`: measured request-to-data latencies in ns. -/
  | frameCommit (p : Nat) (f : Frame) (late : Bool) (lats : List (Nat × Nat))
  /-- SYNC_IN_PULSE (R409): A SYNC_IN pulse is sampled and stamped. In master-clock cycles. -/
  | syncInPulse (stamp : Nat)
  /-- SUMMARY (R419): A SUMMARY frame carries fail and command flags up or down the tree. -/
  | frameSummary (p : Nat) (f : Frame)
  /-- TRIGGER (R428): A TRIGGER frame sets the FABRIC latch in every context and floods on. -/
  | frameTrigger (p : Nat) (f : Frame)
  /-- GRP_FTRIG_SW (R428): A write to GRP_FTRIG_SW sends a fabric trigger. -/
  | grpFtrigSw (w : BusWrite)
  /-- FABRIC_TRIGGER_SOURCE (R428): The source named in GRP_FTRIG occurs and the member sends a TRIGGER frame. -/
  | fabricTriggerSource (i : Nat)
  /-- DOORBELL (R441): A doorbell write gives a ring's tail or head, or stops the ring. -/
  | doorbell (r v : Nat)
  /-- RING_ENABLE (R439): Setting HST_RING_CFG.EN starts a ring at HST_RING_PTR, or is denied. -/
  | ringEnable (r : Nat) (w : BusWrite)
  /-- DESC_NOP (R443): A NOP descriptor transfers nothing and completes OK. `bytes`: the 64 bytes of the descriptor. -/
  | descNop (r : Nat) (bytes : List Byte)
  /-- COPY (R459): A COPY descriptor moves LENGTH bytes from SRC to DST. -/
  | descCopy (r : Nat) (bytes : List Byte)
  /-- FILL (R459): A FILL descriptor writes the FILLVAL pattern at DST. -/
  | descFill (r : Nat) (bytes : List Byte)
  /-- COMPARE (R459): A COMPARE descriptor compares SRC and DST. -/
  | descCompare (r : Nat) (bytes : List Byte)
  /-- LIBCMD (R447): A LIBCMD descriptor passes a library command to the command engine. -/
  | descLibcmd (r : Nat) (bytes : List Byte)
  /-- ORIGIN_DATA (R453): An ORIGIN_DATA descriptor supplies the data of an origin request or is discarded. `data`: what the Burcel reads at SRC; `readOk`: whether the read succeeds. -/
  | descOriginData (r : Nat) (bytes data : List Byte) (readOk : Bool)
  /-- DESCRIPTOR_COMPLETE (R447): A descriptor ends and its completion entry is written in order. What the host side showed: the bytes at SRC and DST, offsets of poisoned 64-byte blocks, and the offset and status of a failed host read. -/
  | descriptorComplete (r : Nat) (src dst : List Byte) (poison : List Nat) (fail : Option (Nat × Nat))
  /-- RING_IRQ_TIME (R451): TIME µs after the oldest unsignalled entry the ring signals its vector. -/
  | ringIrqTime (r : Nat)
  /-- BAR4_ACCESS (R438): A BAR4 access reads or writes the stack window in the BULK class. -/
  | bar4Access (off n : Nat) (write : Option (List Byte)) (ep : Bool)
  /-- WKS_HOST_SUBMIT (R473): WKS_HOST_SUBMIT.GO enqueues a host work item or refuses it. -/
  | wksHostSubmit (w : BusWrite)
  /-- DRAIN_ENQUEUE (R470): The scheduler enqueues a hardware DRAIN for a stream meeting its conditions. `k`: 21 times the bay plus the stream index. -/
  | drainEnqueue (k : Nat)
  /-- WORK_DISPATCH (R474): A free clerk takes the head of the highest ready list. -/
  | workDispatch (i : Nat)
  /-- DRAIN (R469): A DRAIN item copies a stream's claimed records into the datalog. -/
  | itemDrain (i : Nat)
  /-- DIGEST (R472): A DIGEST item writes a DIGEST record of the site's run. -/
  | itemDigest (i : Nat)
  /-- BIN (R484): A BIN item writes a BIN record choosing the site's bin. -/
  | itemBin (i : Nat)
  /-- CAL_FIT (R554): A CAL_FIT item fits calibration measurements into a candidate set. `res`: the work result of Table 17-3; `body`: the candidate; `reject`: the first quantity, mode and channel or monitor outside Table 20-3. -/
  | itemCalFit (i res : Nat) (body : List Byte) (reject : Option (Nat × Nat × Nat))
  /-- FLUSH (R469): A FLUSH item closes the datalog channel's open batch. -/
  | itemFlush (i : Nat)
  /-- WORK_RELEASE (R475): A completed item's outputs release in flow order. `n`: the item's number. -/
  | workRelease (n : Nat)
  /-- WORK_WATCHDOG (R479): An item running 50 µs is ended, the clerk reset and the item retried or released WATCHDOG. -/
  | workWatchdog (i : Nat)
  /-- WKS_OBS_SNAP (R485): WKS_OBS_CTRL.SNAP latches the wait and clerk statistics. -/
  | wksObsSnap (w : BusWrite)
  /-- WKS_CTRL_WRITE (R481): Clearing WKS_CTRL.EN stops dispatch and leads to STOPPED. -/
  | wksCtrlWrite (w : BusWrite)
  /-- READ (R487): A scratchpad window READ returns the word. `ecc`: of the word read, 0 clean, 1 corrected, 2 uncorrectable. -/
  | spdRead (w : BusWrite) (ecc : Nat)
  /-- WRITE (R487): A scratchpad window WRITE stores the word. -/
  | spdWrite (w : BusWrite)
  /-- ADD (R488): A scratchpad window ADD adds atomically and returns the old word. -/
  | spdAdd (w : BusWrite) (ecc : Nat)
  /-- SWAP (R488): A scratchpad window SWAP stores atomically and returns the old word. -/
  | spdSwap (w : BusWrite) (ecc : Nat)
  /-- SPD_MARCH (R491): SPD_MARCH.GO starts a march test on a bank, or is refused. -/
  | spdMarch (w : BusWrite)
  /-- MARCH_DONE (R492): A march ends PASS, or FAIL with the bank fenced. -/
  | marchDone (seg : Nat) (fail : Option Nat)
  /-- SPD_BANK_REQ (R490): An SPD_BANK request changes a bank's power state or is refused. -/
  | spdBankReq (k : Nat) (w : BusWrite)
  /-- BANK_TRANSITION_DONE (R490): A bank power transition completes. -/
  | bankTransitionDone (k : Nat)
  /-- SPD_CNT_WRITE (R486): A write to a scratchpad error counter clears it. -/
  | spdCntWrite (unc : Bool) (w : BusWrite)
  /-- SET (R496): NTM_SET_CTRL.SET loads the local clock. -/
  | ntmSet (w : BusWrite)
  /-- STEP (R496): NTM_SET_CTRL.STEP adds NTM_STEP to the local clock. -/
  | ntmStep (w : BusWrite)
  /-- NTM_TIME_READ (R495): A consuming read of NTM_TIME_NS latches the rest of the clock. `peek`: a debug peek. -/
  | ntmTimeRead (peek : Bool)
  /-- MTR_OPEN_IDX_READ (R511): A consuming read of MTR_OPEN_IDX latches the open period's snapshot. -/
  | mtrOpenIdxRead (peek : Bool)
  /-- MTR_RD (R517): MTR_RD_CTRL.GO copies the SEAL record of a period into MTR_RD_DATA. -/
  | mtrRd (w : BusWrite)
  /-- FAULT_DETECTED (R518): An error pair showing ERROR raises a fault that the collector contains or escalates. -/
  | faultDetected (r : FaultReport)
  /-- WIRE_FAULT (R519): An INVALID pair persisting 4 samples and 100 ns raises a WIRE fault. `u`: the unit code of the reporting unit. -/
  | wireFault (u : Nat)
  /-- FCL_CLEAR (R536): FCL_CLEAR.GO clears the named active-table entries whose condition has ended. `gone`: units and causes whose signalled state has ended by this cycle. -/
  | fclClear (w : BusWrite) (gone : List (Nat × Nat))
  /-- FENCE_SET (R538): FCL_FENCE_CMD SET fences a unit with cause HOST. -/
  | fenceSet (w : BusWrite)
  /-- FENCE_CLEAR (R538): FCL_FENCE_CMD CLEAR clears a unit's fence or leaves it PENDING. -/
  | fenceClear (w : BusWrite)
  /-- FCL_LOG_READ (R541): FCL_LOG_CTRL.GO copies a fault-log record into FCL_LOG_DATA. -/
  | fclLogRead (w : BusWrite)
  /-- EVT_FILTERED_CHANGE (R543): An EVT input's filtered level changes after N equal samples. -/
  | evtFilteredChange (i : Nat) (high : Bool)
  /-- TRIG_EDGE (R165): A TRIG input edge counts for waits, engines and interrupt sources. -/
  | trigEdge (i : Nat) (rise : Bool)
  /-- IRQ_SRC_CNT_WRITE (R544): A write to IRQ_SRC_CNT subtracts from the count. -/
  | irqSrcCntWrite (i : Nat) (w : BusWrite)
  /-- IRQ_SRC_CFG_WRITE (R545): Setting EN on a source with a count above 0 sets its pending bit. -/
  | irqSrcCfgWrite (i : Nat) (w : BusWrite)
  /-- FULL (R551): CAL_CMD FULL starts a full calibration of the named shelves, or is refused. `ref`: both references pass their checks. -/
  | calFull (w : BusWrite) (ref : Bool)
  /-- TRACK (R553): CAL_CMD TRACK starts a tracking calibration. -/
  | calTrack (w : BusWrite) (ref : Bool)
  /-- APPLY_NOW (R563): CAL_CMD APPLY_NOW commits the pending set at once. -/
  | calApplyNow (w : BusWrite)
  /-- DISCARD_SET (R563): CAL_CMD DISCARD drops the pending set. -/
  | calDiscardSet (w : BusWrite)
  /-- CAL_TEMP_READ (R556): Every 1 ms the pin-die temperature is read and may start an automatic tracking calibration. `t` in 0.01 °C. -/
  | calTempRead (b : Nat) (t : Int) (ref : Bool)
  /-- CAL_MEASURE_DONE (R554): A calibration's measurements complete and its CAL_FIT item is enqueued. -/
  | calMeasureDone (b : Nat)
  /-- CAL_WAIT_TIM_END (R553): A tracking calibration waiting for TIM t starts when the TIM leaves ARMED. -/
  | calWaitTimEnd (b : Nat)
  /-- CAL_COMMIT (R559): The pending set commits when its policy condition holds. -/
  | calCommit (b : Nat)
  /-- CAL_STORE_WRITE (R567): A committed set's copy is written and read back, then the next copy starts. -/
  | calStoreWrite (b : Nat) (ok : Bool)
  /-- RAISE_BOOT (R571): SEC_FUSE_CMD RAISE_BOOT programs BOOT_MIN, or is refused. -/
  | fuseRaiseBoot (w : BusWrite)
  /-- RAISE_ERRATA (R571): SEC_FUSE_CMD RAISE_ERRATA programs ERRATA_MIN, or is refused. -/
  | fuseRaiseErrata (w : BusWrite)
  /-- REVOKE (R571): SEC_FUSE_CMD REVOKE revokes an errata key slot, or is refused. -/
  | fuseRevoke (w : BusWrite)
  /-- LICENCE_INSTALL (R577): SEC_LIC_CMD.GO installs a licence blob or refuses it. `ok`: key hash, signature, tag and body digest pass; `body`: the plaintext. -/
  | licenceInstall (w : BusWrite) (ok : Bool) (body : List Byte)
  /-- SEC_LOCK_WRITE (R582): A write to SEC_LOCK disables the debug port or Archive writes until Cold. -/
  | secLockWrite (w : BusWrite)
  /-- NVS_READ (R585): NVS_CMD READ copies Archive bytes to the library. -/
  | nvsRead (w : BusWrite)
  /-- PROGRAM (R585): NVS_CMD PROGRAM writes bytes into the USER partition. -/
  | nvsProgram (w : BusWrite)
  /-- ERASE (R585): NVS_CMD ERASE erases a USER sector. -/
  | nvsErase (w : BusWrite)
  /-- WRITE_IMAGE (R585): NVS_CMD WRITE_IMAGE checks an image and writes it into the boot partition not in use. -/
  | nvsWriteImage (w : BusWrite)
  /-- NVS_COMMAND_DONE (R585): An Archive command completes and sets NVS_STATUS.RESULT. `data`: what host memory holds at the buffer in recovery service; `ok`: the keyed checks of an image pass; `readBack`: it passes again after its write. -/
  | nvsCommandDone (data : List Byte) (ok readBack : Bool)
  /-- SUPPLY_SAG_INHIBIT (R587): VDD_AON below 0.765 V for 1 µs inhibits Archive and fuse writes and queues the device's own. `residue`: what the flash holds from the first byte of a sector erase or of a host write that the inhibit cuts. -/
  | supplySagInhibit (residue : List Byte)
  /-- DAP_ACCESS (R594): A DAP_ACCESS scan performs one BAR0 read, peek or write. `busy`: the previous access is incomplete at Update-DR; the fields of Table 22-3. -/
  | dapAccess (busy write consume pair : Bool) (a : Nat) (data : Word) (x : Facts)
  /-- DBG_AON_UNLOCK (R598): A KEY1 or KEY2 write advances the unlock sequence of the master's write gate. -/
  | dbgAonUnlock (w : BusWrite)
  /-- UNLOCK_TMO (R600): 2 µs after KEY1 without KEY2 the sequence voids. `g`: the gate, 0 to 15 of a clerk, 16 of the debug access port. -/
  | unlockTmo (g : Nat)
  /-- DBG_RDR_HALT (R601): A DBG_RDR_HALT write halts every named context. -/
  | dbgRdrHalt (w : BusWrite)
  /-- DBG_CLK_HALT (R602): A DBG_CLK_HALT write halts or resumes clerks. -/
  | dbgClkHalt (w : BusWrite)
  /-- BAY_RAIL_GOOD (R53): A group-6 VDH or VDL rail of a bay returns within its good threshold, setting VDH_GOOD or VDL_GOOD and ending the RAIL fault condition. -/
  | bayRailGood (b : Nat) (vdh : Bool)
  /-- HOST_LINK_UP (R466): The PCIe host link completes training and comes up again after a link-down, setting HST_LINK.DL_UP with its negotiated width and rate. -/
  | hostLinkUp (width rate : Nat)
  /-- PMU_CLAMP_ENGAGE (R308): The load demand makes a PMU clamp engage or release, changing CLAMP_NOW and setting the sticky PMU_STATUS.CLAMP. -/
  | pmuClampEngage (ch : Nat) (engaged : Bool)
  /-- ACQ_SIDX_READ (R353): A read of ACQ_SIDX_LO latches the upper bits, WRAP, C0, C1 and the timer into their readout registers. -/
  | acqSidxRead (e : Nat)
  /-- STACK_TRAINING_DONE (R642): A stack that reads TRAINING after its domain 40 or 41 was turned ON finishes training and becomes ACTIVE, applying any target recorded under STK_FREQ.WHEN = 1, or fails. `rfm`: the refresh-management threshold the stack reports. -/
  | stackTrainingDone (st : Nat) (ok : Bool) (rfm : Nat)
  /-- MODE_REQ_ILLEGAL (R46): A SYS_MODE_REQ.GO write whose MODE is not a host-held mode is refused with ILLEGAL, leaving everything else unchanged. -/
  | modeReqIllegal (w : BusWrite)
  /-- CONFIGURATION_REQUEST (R60): A PCIe configuration request receives Configuration Request Retry Status until Boot step 2 completes and is served otherwise, setting Device Control fields such as Max_Payload_Size. `d`: the dword of configuration space; `wr`: the data of a write. -/
  | configurationRequest (d : Nat) (wr : Option Word)
  /-- CS_CORR (R195): A single-bit control-store error is corrected and counted. `mpc`: the micro-address of the word. -/
  | csCorr (c mpc : Nat)
  /-- CS_UNCORR (R195): A double-bit control-store error fences the cluster. -/
  | csUncorr (c mpc : Nat)
  /-- WATCHDOG (R195): A thread retiring no word for 65,536 microcycles with lookahead not full fences the cluster. -/
  | microWatchdog (c : Nat)
  /-- BREAK (R195): A context reaching its enabled UCS_BRK word halts by debug. -/
  | microBreak (c : Nat)
  /-- ASSIST (R195): A patch routine requests its slow-path handler in resolver slots. -/
  | microAssist (c : Nat)
  /-- TRAP_HANDLER_END (R198): A trap handler ends, restoring the frame and taking any held traps in order. -/
  | trapHandlerEnd (c : Nat)
  /-- COMMIT_ACK_TIMEOUT (R232): A member that does not acknowledge its commit within 1 ms fails the LOAD as PARTIAL. -/
  | commitAckTimeout (m : Nat)
  /-- XO_UPDATE (R374): Every 1 s outside holdover the crystal correction terms update. The averages of R374 after this update. -/
  | xoUpdate (off age : Word)
  /-- FILLER (R383): A FILLER row is received and may be deleted by the elastic buffer. Whether the elastic buffer deleted the row, or inserted one. -/
  | rowFiller (p : Nat) (deleted inserted : Bool)
  /-- IDLE_ROW (R383): An IDLE row is received and may be deleted by the elastic buffer. -/
  | rowIdle (p : Nat) (deleted : Bool)
  /-- ECHO (R384): An ECHO request is answered, and a reply sets LNK_PORT_LAT. `roundTrip`: in 100 ps units. -/
  | rowEcho (p : Nat) (reply : Bool) (time roundTrip : Nat)
  /-- WAKE (R388): A WAKE row received in KEEPALIVE wakes the device. -/
  | rowWake (p : Nat)
  /-- ROW_ERROR (R382): An invalid row is counted, discarded and a NAK requested. -/
  | rowError (p : Nat)
  /-- NO_PARTNER (R384): No NEG row within 100 ms ends negotiation with NO_PARTNER. -/
  | noPartner (p : Nat)
  /-- BRINGUP_RETRY (R384): A DOWN port repeats the ladder from step 1 every 1 s. -/
  | bringupRetry (p : Nat)
  /-- CDR_LOCK (R400): Clock recovery of a DUT lane locks, ending forced mismatches. -/
  | cdrLock (j : Nat)
  /-- PRBS_LOCK (R396): A PRBS receiver locks after 64 correctly predicted bits, or loses lock and reseeds. -/
  | prbsLock (j : Nat) (lock : Bool)
  /-- REFUSE (R416): A REFUSE frame reports a member's refusal. -/
  | frameRefuse (p : Nat) (f : Frame) (v : GroupView)
  /-- ABORT (R416): An ABORT frame leaves every group context unchanged with the reason set. -/
  | frameAbort (p : Nat) (f : Frame)
  /-- HEARTBEAT (R431): A HEARTBEAT frame marks its origin member as alive. -/
  | frameHeartbeat (p : Nat) (f : Frame)
  /-- MEMBER_LOST (R432): No frame from a member for LIMIT × PER declares it lost and splits the group. -/
  | memberLost (m : Nat)
  /-- CONFIRM (R433): A COMMAND frame with CONFIRM removes lost members. -/
  | frameConfirm (p : Nat) (f : Frame)
  /-- DECLINE (R433): A COMMAND frame with DECLINE stops the master half. -/
  | frameDecline (p : Nat) (f : Frame)
  /-- DISARM (R434): A COMMAND frame with DISARM returns group contexts to IDLE. -/
  | frameDisarm (p : Nat) (f : Frame)
  /-- STALE_REREAD (R445): A descriptor with wrong PHASE is re-read after 1 µs and the ring stops STALE after three. -/
  | staleReread (r : Nat)
  /-- HOST_READ_TIMEOUT (R463): A host read meeting the completion timeout ends its descriptor HOST_TIMEOUT. `src`: the bytes read below `off`. -/
  | hostReadTimeout (r off : Nat) (src : List Byte)
  /-- STATS (R469): A STATS item writes a STATS record of measurement values. -/
  | itemStats (i : Nat)
  /-- WORK_AGE_PROMOTE (R474): An item waiting 1 ms moves to the next higher ready list. -/
  | workAgePromote (n : Nat)
  /-- BATCH_ANNOUNCE (R483): A datalog batch reaching BATCH KiB or 100 µs is announced with a completion entry. -/
  | batchAnnounce (d : Nat)
  /-- SYNC_MSG (R504): A Sync message on the SLAVE port updates the servo. `rx`: the receive stamp in 2⁻¹⁶ ns of the local clock. -/
  | syncMsg (p : Nat) (f : Frame) (rx : Nat)
  /-- PDELAY_REQ (R502): A Pdelay_Req is answered with a Pdelay_Resp within 10 µs. `turn`: the turnaround t3′ − t2′ in 2⁻¹⁶ ns. -/
  | pdelayReq (p : Nat) (f : Frame) (turn : Nat)
  /-- PDELAY_RESP (R503): A Pdelay_Resp updates the port's mean path delay. -/
  | pdelayResp (p : Nat) (f : Frame) (rx : Nat)
  /-- ANNOUNCE (R500): An Announce message stores the grandmasterIdentity. -/
  | announce (p : Nat) (f : Frame)
  /-- SYNC_SEND (R499): Every Sync interval a MASTER port sends Sync and Announce. `t1`: the egress stamp in 2⁻¹⁶ ns. -/
  | syncSend (p t1 : Nat)
  /-- PDELAY_SEND (R499): Every Pdelay interval a port sends Pdelay_Req. -/
  | pdelaySend (p t1 : Nat)
  /-- PPS_IN_EDGE (R505): A PPS_IN rising edge gives a grandmaster its servo offset. `t`: NS and SUB of the edge's stamp, in 2⁻¹⁶ ns. -/
  | ppsInEdge (t : Nat)
  /-- PPS_OUT (R508): PPS_OUT rises as NS passes through 0. -/
  | ppsOut (high : Bool)
  /-- WIRE_TEST (R520): Every PERIOD µs a collector tests each input, raising WIRE if one does not answer within 1 µs. `silent`: the units whose input did not answer. -/
  | wireTest (silent : List Nat)
  /-- RECOVERY_WINDOW_CLOSE (R527): A recovery window's time expires. -/
  | recoveryWindowClose (u : Nat)
  /-- SMBUS_TEMP_READ (R586): An SMBus byte read of commands 0x10 to 0x13 returns a pin-die temperature. -/
  | smbusTempRead (b : Nat)
  /-- SMBUS_OTHER_READ (R586): An SMBus read of any other command returns 0xFF. -/
  | smbusOtherRead (cmd : Nat)
  /-- EXTEST (R593): EXTEST drives and samples the boundary balls and enters Safe outside Cold. `cells`: the boundary register as updated; `pins`: the cells as captured. -/
  | tapExtest (cells pins : Nat)
  /-- SAMPLE_PRELOAD (R590): SAMPLE/PRELOAD samples the boundary register. -/
  | tapSamplePreload (cells pins : Nat)
  /-- CLAMP (R593): CLAMP holds outputs from the boundary register and enters Safe outside Cold. -/
  | tapClamp (cells : Nat)
  /-- LOOPBACK (R604): An inventory LOOPBACK step tests one channel or monitor through its internal loopback. `n`: the step's number in the cycle; `fin`: none, it starts; else it ends, with the cause of Table 19-7 it found, if any. -/
  | istLoopback (n : Nat) (fin : Option (Option Nat))
  /-- CSTORE (R206): An inventory CSTORE step re-checks 256 microwords of a cluster. `fin`: as for LOOPBACK; a failure carries 0. -/
  | istCstore (n : Nat) (fin : Option (Option Nat))
  /-- MARCH (R604): An inventory MARCH step runs a preserving march on a 1 KiB segment. `fin`: as for LOOPBACK; a failure carries the failing byte address. -/
  | istMarch (n : Nat) (fin : Option (Option Nat))
  /-- ARCHIVE (R604): An inventory ARCHIVE step checks 4 KiB of a calibration copy. `fin`: as for LOOPBACK; a failure carries 0. -/
  | istArchive (n : Nat) (fin : Option (Option Nat))
  /-- DIE_OVERTEMP (R638): A die above 110 °C for 10 ms fences its bay or enters Safe. `d`: the bay of a pin die, or 4 for the core die. -/
  | dieOvertemp (d : Nat)
  /-- CDR_LOCK_LOST (R400): A DUT-lane receiver's clock recovery loses lock, so every compared FOLIO bit counts as a mismatch and LNK_DL_STATUS.UNLOCK is set. -/
  | cdrLockLost (j : Nat)
  /-- FRAME_TYPE_UNKNOWN (R393): A received frame of a type not in Table 14-6 is discarded, acknowledged and counted in LNK_PORT_BAD. -/
  | frameTypeUnknown (p : Nat) (f : Frame)
  /-- PERST_N_LOW (R57): PERST_N falling puts the device into Cold and disconnects every connected element within 1 µs. -/
  | perstNLow
  /-- MODE_TRANSITION_DONE (R48): A mode transition in progress completes within its time and sets SYS_MODE.RESULT. -/
  | modeTransitionDone
  /-- CONC_LOAD_DONE (R141): The concordance load switches every named bay at once or ends refused. -/
  | concLoadDone
  /-- LOAD_COMMIT (R232): When every part has succeeded, the LOAD commits member parts and then sets its own RES_MAP bits. -/
  | loadCommit
  /-- HOLDOVER_ENTRY (R372): REFCLK lost or off frequency for 1 µs switches the master clock to the corrected crystal. -/
  | holdoverEntry
  /-- HOLDOVER_EXIT (R373): REFCLK within ±50 ppm for 100 ms pulls the master clock back to it. -/
  | holdoverExit
  /-- PREPARE_NO_REPLY (R415): A member not answering PREPARE within 40 ms aborts with NO_REPLY. -/
  | prepareNoReply
  /-- NO_COMMIT (R417): A member with no COMMIT or ABORT 20 ms after READY treats the Arm as aborted. -/
  | noCommit
  /-- GROUP_ALIGN (R410): At time T after pulse p+2 the group contexts restart their counters and play the idle folio. -/
  | groupAlign
  /-- SYNC_OUT_PULSE (R409): The sync master drives a SYNC_OUT pulse every GRP_SYNC.PER cycles. -/
  | syncOutPulse
  /-- HEARTBEAT_SEND (R431): Every GRP_HB.PER µs a member floods a HEARTBEAT frame. -/
  | heartbeatSend
  /-- SPLIT_TIMEOUT (R433): GRP_SPLIT_TMO expiring without CONFIRM stops the master half. -/
  | splitTimeout
  /-- LINK_DOWN (R466): The host link going down stops every ring and aborts descriptors in progress. -/
  | linkDown
  /-- HOT_RESET (R466): A hot reset stops every ring and resets HST and DMA registers. -/
  | hotReset
  /-- FUNCTION_LEVEL_RESET (R466): A Function Level Reset stops every ring and resets HST and DMA registers. -/
  | functionLevelReset
  /-- DELAY_LIST_TICK (R476): At each tick items whose DUE has come move to their ready lists. -/
  | delayListTick
  /-- CLOCK_WRAP (R493): SEC passing 2^48 − 1 wraps and sets NTM_STATUS.WRAP. -/
  | clockWrap
  /-- PTP_HOLDOVER (R506): Losing Sync for LOSS intervals puts network time into HOLDOVER. -/
  | ptpHoldover
  /-- METER_TICK (R510): Each 1 µs tick accrues qualifying units to the open period. -/
  | meterTick
  /-- CHECKPOINT (R515): Every 60 s the meter writes a CHECKPOINT record. -/
  | checkpoint
  /-- COLLECTOR (R521): A mismatch of the two chip collector copies enters Safe. -/
  | collectorMismatch
  /-- ESTOP (R532): An enabled emergency-stop EVT becoming active raises a Chip-fatal fault and enters Safe. -/
  | estopActive
  /-- FUSE_PROGRAM_DONE (R571): An accepted fuse command completes within 50 ms. -/
  | fuseProgramDone
  /-- SAG_INHIBIT_END (R589): VDD_AON at or above 0.78 V for 10 ms ends the inhibit and runs queued writes. -/
  | sagInhibitEnd
  /-- SMBUS_IDENTITY_READ (R586): An SMBus block read of command 0x01 returns the IDENTITY bytes. -/
  | smbusIdentityRead
  /-- SMBUS_MODE_READ (R586): An SMBus byte read of command 0x02 returns SYS_MODE[7:0]. -/
  | smbusModeRead
  /-- TAP_RESET (R590): TRST_N low or five TCK cycles with TMS high enter Test-Logic-Reset. -/
  | tapReset
  /-- IDCODE (R591): IDCODE selects the identification register. -/
  | tapIdcode
  /-- HIGHZ (R593): HIGHZ disables every boundary output and enters Safe outside Cold. -/
  | tapHighz
  /-- DAP_STATUS (R590): DAP_STATUS returns DBG_STATUS with no side effect. -/
  | dapStatus
  /-- BYPASS (R590): BYPASS selects the 1-bit bypass register. -/
  | tapBypass
  /-- WKS_TICK_READ (R476): A read of WKS_TICK_LO latches bits [47:32] of the scheduler tick into WKS_TICK_HI. -/
  | wksTickRead
  /-- PAGE_PROGRAM_DONE (R515): A page program or sector erase of the device's own Archive write completes, so the commit-word program or the next record may start, and PERSISTED is set for an errata slot. -/
  | pageProgramDone
  deriving DecidableEq, Repr

end Sys2Proof
end

