-- ==== Sys2Proof/Config.lean ====
section
/-! DEFINITION. What the spec leaves open. A free value has no body: nothing can be proved about it, so a statement that
holds in this model holds for every value it could take. -/
namespace Sys2Proof

/-- The n-th value the spec leaves open, at width w. `State.fresh` numbers them (notes/assumptions/2.md). -/
opaque Config.freeValue (w : Nat) (n : Nat) : BitVec w

/-- The octets of an IEEE 1588-2019 message: its messageType, the domain, and the octets of the request it answers. The spec names the
standard and gives no octets (notes/assumptions/43.md). -/
opaque Config.ptpMessage (kind domain : Nat) (request : List Byte) : List Byte

/-- The drive or compare correction, in fast or wide mode, that a correction set's body holds for a channel of its bay: the body's
layout is Isavolar's own (20_calibration.md R566). -/
opaque Config.calCorr (body : List Byte) (channel : Nat) (wide cmp : Bool) : BitVec 13

end Sys2Proof
end

