-- ==== Sys2Proof/Machine/State.lean ====
section
/-! DEFINITION. The state of the Burcel as plain data. Every register of BAR0 lives in `State.regs`, keyed by its address;
the structures below hold what the spec gives the machine beside its registers. -/
namespace Sys2Proof.Machine

/-- A step of this model never stops with a fault: the Burcel reports its faults in its own registers
(19_faults_and_interrupts.md), and the spec gives every command an effect in every state. -/
inductive Fault where
  /-- Raised by no meaning of this model. -/
  | unreachable
  deriving DecidableEq, Repr

/-- Why a command is turned away. -/
inductive Refusal where
  /-- A command that has no meaning in this model yet: raised by its arm of `exec` alone. Safe. -/
  | notModelled (mnemonic : String)
  deriving DecidableEq, Repr

/-- A field of a register: its register's address, its lowest bit and its width (R7). -/
structure RF where
  addr : Nat
  lo : Nat
  width : Nat
  deriving DecidableEq, Repr

/-- One row of the register map: base address, index dimensions (count, stride), and the bits of each access code. -/
structure RegRow where
  base : Nat
  dims : List (Nat × Nat)
  rw : Word
  w1c : Word
  w1s : Word
  wl : Word
  live : Word
  wo1 : Word
  deriving DecidableEq, Repr

/-- The operating modes (02_modes_and_startup.md Table 2-1). -/
inductive Mode where
  | cold | boot | standby | idle | calibrate | load | armed | run | paused | characterise | selftest | safe
  deriving DecidableEq, Repr

/-- The states of a Reader context (06_reader.md Table 6-13). -/
inductive CtxState where
  | off | idle | armed | play | wait | hold | paused | stopped
  deriving DecidableEq, Repr

/-- The driver's output states (03_pin_channels.md R80): DRIVE carries the level, true for VIH. -/
inductive Drv where
  | opened | term | vtt | drive (high : Bool)
  deriving DecidableEq, Repr

/-- What controls a connected channel's driver (03_pin_channels.md R83, R84, R87). -/
inductive Ctl where
  | static | pattern | parked
  deriving DecidableEq, Repr

/-- What the block sends outside: the record of its messages, frames, host writes and pulses (notes/assumptions/3.md). -/
inductive Out where
  /-- An MSI-X message of a vector (R451, R545). -/
  | msi (vector : Nat)
  /-- A write to host memory (16_host_rings_and_dma.md R447, R452, R459). -/
  | hostWrite (addr : Nat) (bytes : List Byte) (poisoned : Bool)
  /-- A read request to host memory. -/
  | hostRead (addr len : Nat)
  /-- A frame sent on a fabric port: virtual channel, type of Table 14-6, payload bytes. -/
  | frame (port vc kind : Nat) (payload : List Byte)
  /-- A control row sent on a fabric port: row kind and value. -/
  | row (port kind value : Nat)
  /-- A pulse on TRIG line n of the stated length in FU (R188, R349). -/
  | trigPulse (line len : Nat)
  /-- A pulse on SYNC_OUT (R409) or PPS_OUT (R508). -/
  | syncOut | ppsOut (high : Bool)
  /-- A value returned to a register read, an SMBus read, a BAR4 read or a scan: which port and the bits. -/
  | answer (port : Nat) (value : Nat)
  /-- The response of a stack to a requester, with the data read (Table 9-9). -/
  | stk (stack resp : Nat) (data : List Byte)
  /-- The completion of a BAR4 or configuration request: 0 successful, 1 successful and poisoned, 2 Unsupported Request (R256). -/
  | tlp (status : Nat) (data : List Byte)
  /-- Configuration Request Retry Status (R60). -/
  | crs
  deriving DecidableEq, Repr

/-- What the mode and power machinery holds beside its registers (02_modes_and_startup.md). -/
structure Sys where
  /-- No supply has been present yet (Table 2-6, the row No supply). -/
  unpowered : Bool := false
  /-- The device is in Cold; the registers then hold the values R12 gives them at its end. -/
  cold : Bool := true
  /-- The rails rose out of order and Cold is held (R54). -/
  railsWrong : Bool := false
  /-- The mode a requested transition in progress leads to (R48). -/
  target : Option Mode := none
  /-- The mode that transition left (a wake or a preemption needs it). -/
  source : Mode := .idle
  /-- The state a ramping domain reaches: 2 ON, 3 ISO (R642). -/
  ramp : SMap Nat := []
  /-- PWR_DOM_CTRL as saved at Standby entry (R62). -/
  savedDoms : SMap Nat := []
  /-- The self-test running, and those still to run (R644). -/
  testNow : Option Nat := none
  testsLeft : List Nat := []
  /-- Both boot images were rejected: the host port is in recovery service (R574). -/
  recovery : Bool := false
  /-- The mode held in the always-on domain before Cold, 0 after a rail loss (R539). -/
  modeBeforeCold : Nat := 0
  /-- FAULT_N is held low from the first good supply until Boot step 8 (R533). -/
  faultnHeld : Bool := true
  /-- MSI-X is enabled from Boot step 8 (R60, R546). -/
  msixOn : Bool := false
  /-- VDD_AON has been below 0.72 V since Boot: the always-on domain holds reset values (R12, R53). -/
  aonLost : Bool := true
  /-- SEQ of the request whose transition is in progress (Table 2-3). -/
  reqSeq : Nat := 0
  /-- Boot began on a wake (R63). -/
  woke : Bool := false
  deriving DecidableEq, Repr

/-- A drive or compare event that waits for its computed time (04_edges_and_timing_sets.md R114 to R123): absolute time in FU,
32 times its leaf number plus its vector, its kind in the order of R123 (0 E1, 1 D1, 2 D2, 3 E2, 4 S1, 5 S2), what a drive event
does, and a strobe's type and symbol. -/
structure EdgeEvent where
  time : Int
  vec : Nat
  kind : Nat
  act : Drv := .opened
  strobe : Nat := 0
  sym : Nat := 0
  deriving DecidableEq, Repr

/-- A channel beside its registers (03_pin_channels.md). -/
structure Chan where
  /-- The elements connected to the ball, as a PATH code (R85, R57). -/
  conn : Nat := 0
  ctl : Ctl := .static
  out : Drv := .opened
  /-- Last driven data level (R78). -/
  last : Bool := false
  /-- A vector has been played since the channel was connected (R87). -/
  played : Bool := false
  /-- A change of Table 3-5 is within its settling time (R96). -/
  settling : Bool := false
  /-- The path reconnects once a MODE change has settled (R98). -/
  reconnect : Option Nat := none
  /-- CHN_CTRL.MODE in force (R98). -/
  wideNow : Bool := false
  /-- Comparator outputs as the ball last set them (R75, R84). -/
  cmpH : Bool := false
  cmpL : Bool := false
  /-- Taken by the inventory (R83, R604). -/
  taken : Bool := false
  /-- Events computed and not yet acted, in time order (R116, R123). -/
  events : List EdgeEvent := []
  /-- The time of the last driver transition (R119), and the instant whose events are acting with the output before it (R123). -/
  lastDrv : Option Int := none
  instDrv : Option (Int × Drv) := none
  /-- The times of the last edge strobe, of the last window open and of the last window close (R119, R121). -/
  lastStrobe : Option Int := none
  lastOpen : Option Int := none
  lastClose : Option Int := none
  deriving DecidableEq, Repr

/-- How long the CONDITION of an active-table entry holds (19_faults_and_interrupts.md R537). -/
inductive Condition where
  /-- The cause is an event that has ended. -/
  | ended
  /-- The signalled state still holds; the environment or the unit ends it. -/
  | held
  /-- While the fenced units counted under this parent exceed its budget (Table 19-4). -/
  | budget (parent : Nat)
  /-- While an entry of one of the named units has CONDITION 1 (TWO_FAULT). -/
  | twoFault (units : List Nat)
  deriving DecidableEq, Repr

/-- An entry of the active fault table (Table 19-6). -/
structure FaultEntry where
  unit : Nat := 0
  cls : Nat := 0
  cause : Nat := 0
  count : Nat := 0
  valid : Bool := false
  uncleared : Bool := false
  cond : Condition := .ended
  escalated : Bool := false
  mode : Nat := 0
  firstSec : Nat := 0
  firstNs : Nat := 0
  detail : Nat := 0
  lastSec : Nat := 0
  deriving DecidableEq, Repr

/-- An open recovery window: the unit that recovers and the collector that contains it (R527). -/
structure Window where
  unit : Nat
  collector : Nat
  deriving DecidableEq, Repr

/-- One fence of a unit that is not a channel: the cause code of Table 19-7, 0 for HOST, and whether it came with the fence
of its bay (R524), and whether a clear waits (R538). -/
structure Fence where
  cause : Nat := 0
  byBay : Bool := false
  pendingClear : Bool := false
  deriving DecidableEq, Repr

/-- The fault collector beside its registers (19_faults_and_interrupts.md). -/
structure Fcl where
  /-- Entries 0 to 255 (R534, R535). -/
  active : SMap FaultEntry := []
  windows : List Window := []
  /-- Fenced units other than channels, by unit code (R523); a channel's entry is its own fence under that of its shelf or bay. -/
  fences : SMap (Option Fence) := []
  /-- Levels at the TRIG balls (R188). -/
  trig : Nat := 0
  /-- A torn log record was found since the last record (R540). -/
  torn : Bool := false
  deriving DecidableEq, Repr

/-- A decoded leaf (05_folios_and_leaf_code.md R131 to R142): timing-set numbers, capture and marker bits, 128-bit symbol
leaves by channel, and the bits of the lane tracks (none: IDLE or IGNORE). -/
structure Leaf where
  tsets : List Nat := []
  cap : Nat := 0
  mrk : Nat := 0
  syms : SMap Nat := []
  tx : SMap (Option (List Byte)) := []
  rx : SMap (Option (List Byte)) := []
  deriving DecidableEq, Repr

/-- A folio a context has opened: its header (Table 5-1), where its bytes lie, how far it has been fetched, and the decode
state of R137. -/
structure OpenFolio where
  id : Nat := 0
  cn : Nat := 0
  /-- The catalogue snapshot the folio plays from (R226). -/
  entry : List Byte := []
  leaves : Nat := 0
  bodyBytes : Nat := 0
  shelfMask : Nat := 0
  txMask : Nat := 0
  rxMask : Nat := 0
  laneBits : Nat := 0
  concIds : List Nat := []
  tsetMask : Nat := 0
  fetched : Nat := 0
  fetchOff : Nat := 0
  prev : Leaf := {}
  /-- The entry was invalidated after this snapshot (R228). -/
  old : Bool := false
  /-- The leaf before which the context stops: leaf index, status and data address (R108, R148, R186). -/
  badLeaf : Option (Nat × Nat × Nat) := none
  deriving DecidableEq, Repr

/-- A leaf in a context's folio cache or loop buffer: the leaf number in which it arrived, checked (R184). -/
structure CacheLeaf where
  id : Nat
  leaf : Nat
  at_ : Nat
  data : Leaf
  deriving DecidableEq, Repr

/-- A position in an opened folio: next leaf, and the leaf at which the word's part ends. -/
structure FolioPos where
  id : Nat
  next : Nat
  upto : Nat
  deriving DecidableEq, Repr

/-- Which leaf plays: a pattern leaf, a fill leaf (R146), a special folio's leaf (R163), or park. -/
inductive LeafSrc where
  | pattern (id leaf : Nat)
  | fill (id leaf : Nat)
  | idle (k : Nat)
  | hold (k : Nat)
  | park
  deriving DecidableEq, Repr

/-- What a word that plays no leaf does at the first vector of the next leaf (R157); a BRANCH begins its watch there. -/
inductive PreEffect where
  | tset (set : Option Nat)
  | period (entry whole frac : Nat)
  | mask (half m : Nat) (park : Bool)
  | mark (v : Nat)
  | watch (serial : Nat)
  deriving DecidableEq, Repr

/-- A WAIT or SYNC in force (R165 to R168, R176). -/
structure WaitSt where
  src : Nat := 0
  edge : Nat := 0
  index : Nat := 0
  holdFolio : Bool := false
  timeout : Nat := 0
  /-- Leaves of the wait that have begun, and the leaf of the special folio that plays next (R163). -/
  leaves : Nat := 0
  k : Nat := 0
  /-- Start of leaf W in 1/65,536 FU (R167). -/
  start : Nat := 0
  /-- The condition has been seen and is not yet taken at a boundary. -/
  seen : Bool := false
  /-- The timeout count ended without a release (R166). -/
  expired : Bool := false
  /-- The mask of a local SYNC; the word is a group SYNC. -/
  sync : Option Nat := none
  group : Bool := false
  /-- Boundaries until the release acts. -/
  release : Option Nat := none
  deriving DecidableEq, Repr

/-- A MATCH in force (R173 to R175). -/
structure MatchSt where
  serial : Nat := 0
  word : Nat := 0
  group : Bool := false
  any : Bool := false
  max : Nat := 0
  id : Nat := 0
  leaves : Nat := 0
  /-- The iteration that plays, from 1, and its next leaf. -/
  iter : Nat := 1
  k : Nat := 0
  /-- Sites that failed in the leaves judged of the iteration under judgement, and its number. -/
  acc : Nat := 0
  judge : Nat := 1
  /-- The outcome: the matching iteration or 0, the sites that failed in iteration MAX, and the ordinal of the last leaf. -/
  decided : Option (Nat × Nat × Nat) := none
  deriving DecidableEq, Repr

/-- A BRANCH watch (R170): leaves left of WINDOW, the calls open at the BRANCH, the ordinals of its last leaf played and of its
last leaf judged. -/
structure Watch where
  serial : Nat
  group : Bool := false
  pass : Bool := false
  target : Nat := 0
  left : Nat := 0
  begun : Bool := false
  last : Nat := 0
  judged : Nat := 0
  deriving DecidableEq, Repr

structure CallFrame where
  ret : Nat
  susp : Option FolioPos
  deriving DecidableEq, Repr

structure LoopFrame where
  body : Nat
  left : Nat
  /-- Folios opened in the first iteration of the outermost body, by word (R161). -/
  opened : List (Nat × Nat) := []
  deriving DecidableEq, Repr

/-- What a resolved word plays or does at its place in the pattern. -/
inductive Seg where
  | folio (p : FolioPos) (buffered : Bool)
  | wait (w : WaitSt)
  /-- Leaves left of a HOLD word, and the hold folio's next leaf (R168). -/
  | holdWord (left k : Nat)
  | iterate (m : MatchSt)
  | halt
  | endRun
  /-- A stop before a leaf: status, call number, leaf and address (R108, R147, R148, R186). -/
  | stopAt (code cn leaf addr : Nat)
  deriving DecidableEq, Repr

/-- A resolved word in play order, with the position registers it shows, the effects of the words before it, and the BRANCH
watch it lies in. -/
structure PlanSeg where
  seg : Seg
  word : Nat
  loops : List Nat := []
  calls : Nat := 0
  pre : List PreEffect := []
  watch : Nat := 0
  deriving DecidableEq, Repr

/-- A leaf of the program that has been played: its number, its ordinal among the program's leaves, what it was, the active
sites, and what watches or iterates it (R169, R170, R173). -/
structure PastLeaf where
  leaf : Nat
  ord : Nat
  cn : Nat := 0
  fleaf : Nat := 0
  /-- A leaf of a pattern folio, not a fill or a special folio's. -/
  pattern : Bool := false
  cap : Nat := 0
  sites : Nat := 0
  watch : Nat := 0
  /-- MATCH serial, iteration, and whether the leaf ends it. -/
  matching : Option (Nat × Nat × Bool) := none
  /-- Sites that failed in the leaf, once judged (R169). -/
  fails : Nat := 0
  deriving DecidableEq, Repr

/-- Results of a vector still being collected, by leaf number and vector (10_ledger.md R278 to R287): failing channels and
lanes, captured pairs at S1, and under EDGE2 at S2, by channel. -/
structure VecResult where
  leaf : Nat
  vec : Nat
  fails : List Nat := []
  lanes : Nat := 0
  caps : SMap (Nat × Option Nat) := []
  discard : List Nat := []
  deriving DecidableEq, Repr

/-- What falls due for a context at a later leaf boundary (Table 1-4). -/
inductive Due where
  | start
  | halt
  | forcedHalt
  | resume
  | disarm
  /-- Park or disconnect every channel of the context: a stop's pin change. -/
  | stopPins
  /-- Stop the context with a code. -/
  | stop (code : Nat)
  | off
  /-- Fence pin change of a channel (R89). -/
  | fence (ch : Nat)
  /-- A LIVE or Characterise write takes effect on a channel: settle (Table 3-5), or park mode (R87). -/
  | settle (ch : Nat)
  | repark (ch : Nat)
  /-- A PMU write of a channel takes effect (11_pmu_and_decimation.md). -/
  | pmu (ch : Nat)
  /-- A Characterise write of FLT_CH takes effect (R321). -/
  | flt (ch : Nat)
  /-- A calibration set of a bay steps on this context's channels (R561). -/
  | cal (b : Nat)
  /-- A hold ends: leaf M plays (R185). -/
  | holdEnd
  deriving DecidableEq, Repr

/-- A Reader context beside its registers (06_reader.md). -/
structure Ctx where
  /-- Decisions due: boundaries left and action. -/
  due : List (Nat × Due) := []
  /-- State before PAUSED (R180). -/
  before : CtxState := .play
  /-- Front end: next word, call and loop stacks, suspended folio (R158 to R160), waiting effects, watch in force, and whether
  END has been resolved. -/
  pos : Nat := 0
  calls : List CallFrame := []
  loops : List LoopFrame := []
  susp : Option FolioPos := none
  pre : List PreEffect := []
  watch : Nat := 0
  ended : Bool := false
  /-- Why the word at `pos` could not be resolved, as LIB_CTX_STATUS.CAUSE codes it (R211, R215); 0: it could, or was not tried. -/
  lack : Nat := 0
  /-- Resolved words in play order; the first is playing. -/
  plan : List PlanSeg := []
  watches : List Watch := []
  /-- A transfer decided: ordinal of its first leaf, target, and the watch's serial (R170). -/
  xfer : Option (Nat × Nat × Nat) := none
  /-- Sites that failed so far in an iteration of a group MATCH: serial, iteration, mask (Table 15-3 ANYPASS). -/
  matchOwn : Nat × Nat × Nat := (0, 0, 0)
  /-- Calls open at each BRANCH, by serial. -/
  watchCalls : List (Nat × List CallFrame) := []
  folios : List OpenFolio := []
  cache : List CacheLeaf := []
  /-- Numbers for opened folios, watches and matches. -/
  nextId : Nat := 1
  /-- Leaves generated since the first leaf of the last opened folio (R145). -/
  sinceOpen : Nat := 8
  /-- The last pattern leaf decoded and where it came from, for fill (R146). -/
  lastLeaf : Leaf := {}
  lastAt : Nat × Nat := (0, 0)
  idleF : List Leaf := []
  holdF : List Leaf := []
  /-- The next leaf of the idle or hold folio outside a word. -/
  special : Nat := 0
  /-- The micro-trap whose handler runs, and BREAK and ASSIST traps held behind it (R196, R198). -/
  trap : Option Nat := none
  trapsHeld : List Nat := []
  /-- The leaf now playing, its source, and its number in RDR_LCNT. -/
  cur : Leaf := {}
  curSrc : LeafSrc := .park
  /-- Program leaves played, and the leaves still judged or reported. -/
  ord : Nat := 0
  past : List PastLeaf := []
  results : List VecResult := []
  /-- Period domain: start of the next vector in 1/65,536 FU since Arm, unbounded (R105: a wrap affects nothing). -/
  acc : Nat := 0
  override : Option Nat := none
  /-- Sites parked by SITEMASK with PARK (R153). -/
  parkedSites : Nat := 0
  /-- Event latches: FABRIC, ACQ, TIM, host flags (R165). -/
  fabric : Nat := 0
  acq : Nat := 0
  tim : Nat := 0
  /-- Counters and whether they wrapped since the last latching read (R189). -/
  vcnt : Nat := 0
  vwrap : Bool := false
  lcnt : Nat := 0
  lwrap : Bool := false
  /-- The Arm check runs (R187). -/
  arming : Bool := false
  /-- Starvation hold: leaves held (R185). -/
  held : Nat := 0
  /-- The READER term of R241 by stack, a fraction in units of 100 MB/s, and the fabric ports its PEER origins use (R224). -/
  rdrTerm : List (Nat × Nat) := []
  fabPorts : List Nat := []
  deriving DecidableEq, Repr


/-- Who writes the Archive, in the order R585 serves them, the host last. -/
inductive Writer where
  | faultLog | journal | cal (b copy : Nat) | errata | licence | host
  deriving DecidableEq, Repr

/-- What is left of a write of the Archive that waits or is under way: sector erases, then pages of data, then the commit word
(R515, R539, R567, R584). -/
structure OwnWrite where
  writer : Writer
  erase : List Nat := []
  addr : Nat
  data : List Byte
  commitAddr : Nat := 0
  commit : List Byte := []
  /-- What the writer notes at its end: the record's sequence number, the slot's sequence, the generation. -/
  tag : Nat := 0
  deriving DecidableEq, Repr

/-- The Archive and its engine (21_security_and_archive.md R583 to R589). -/
structure Archive where
  /-- Bytes of the flash that are not erased (0xFF), by address. -/
  cells : SMap Byte := []
  /-- Writes waiting, in service order; the first is under way when `busy`. -/
  queue : List OwnWrite := []
  busy : Bool := false
  /-- The supply-sag inhibit holds (R587). -/
  inhibit : Bool := false
  /-- Bays whose calibration copies are to be rewritten at release (R589). -/
  calFlags : List Nat := []
  /-- Next record numbers of the fault log and of the journal. -/
  logSeq : Nat := 1
  jrnSeq : Nat := 1
  /-- A host command waits or runs (R585): its operation and arguments. -/
  hostOp : Option (Nat × Nat × Nat × Nat) := none
  deriving DecidableEq, Repr

/-- A Ledger stream beside its registers (10_ledger.md R271 to R276): records in the slice's write buffer, the WR that counts
them too, and whether a record was dropped or lost since the last written one. -/
structure Stream where
  buf : List (List Byte) := []
  adm : Nat := 0
  lossy : Bool := false
  /-- Records dropped in the over-quota episode (Table 10-5 QUOTA). -/
  dropped : Nat := 0
  deriving DecidableEq, Repr

/-- A site's snapshot flags and counts that no register holds whole (R300). -/
structure SiteCount where
  drop : Nat := 0
  failSat : Bool := false
  dropSat : Bool := false
  /-- Run-end copies of LDG_SITE_FAIL since the last Arm, oldest first: the leaf of the RUN_END and the count (R472). -/
  runEnds : List (Nat × Nat) := []
  deriving DecidableEq, Repr

/-- The Ledger beside its registers. -/
structure Ledger where
  /-- Streams by 21·bay + stream index. -/
  streams : SMap Stream := []
  sites : SMap SiteCount := []
  deriving DecidableEq, Repr

/-- The write gate of a master (22_debug_and_in_service_test.md R598): KEY1 has been taken; the gate is open. -/
structure Gate where
  keyed : Bool := false
  opened : Bool := false
  deriving DecidableEq, Repr

/-- The test access port: the instruction register (IDCODE after Test-Logic-Reset), the boundary register as last updated, and the
outcome the next DAP_ACCESS capture returns (22_debug_and_in_service_test.md R590 to R594). -/
structure Tap where
  ir : Nat := 0x02
  cells : Nat := 0
  dap : Nat := 0
  deriving DecidableEq, Repr

/-- An inventory step in progress: its kind of Table 22-4, its unit (channel, 256 + shelf, cluster, bank, 4 · copy + bay) and its
number within the kind (22_debug_and_in_service_test.md R604, R605). -/
structure IstStep where
  kind : Nat
  unit : Nat
  num : Nat
  deriving DecidableEq, Repr

/-- The inventory cycle: the step in progress, the steps done by kind as a bit mask, the units that have been eligible as a bit mask
by kind, and when the cycle began (R603 to R606). -/
structure Inventory where
  step : Option IstStep := none
  done : SMap Nat := []
  seen : SMap Nat := []
  began : Nat := 0
  deriving DecidableEq, Repr
/-- The fuses (21_security_and_archive.md Table 21-2). BOOT_MIN and ERRATA_MIN are the numbers of bits set; the three keys are
read by no one. -/
structure Fuses where
  serial : Nat := 0
  rootHash : Nat := 0
  licHash : Nat := 0
  bootKey : Nat := 0
  errataKey : Nat := 0
  licKey : Nat := 0
  bootMin : Nat := 0
  errataMin : Nat := 0
  revoke : Nat := 0
  debugOff : Bool := false
  provisioned : Bool := false
  deriving DecidableEq, Repr

/-- Security beside its registers: the fuses, the boot image in use (0 none, 1 A, 2 B) and its version, the licence in force (LIC_ID, LIC_SEQ), and a
fuse command in progress (21_security_and_archive.md R570 to R577). -/
structure Security where
  fuses : Fuses := {}
  image : Nat := 0
  imageVer : Nat := 0
  licence : Option (Nat × Nat) := none
  fuseCmd : Option (Nat × Nat) := none
  deriving DecidableEq, Repr

/-- A channel's PMU and decimation chain beside its registers: the register values in force (LIVE and Characterise writes
take effect later than they complete), and what R312, R314, R308 and R320 hold (11_pmu_and_decimation.md). -/
structure Pmu where
  ctrl : Word := 0
  force : Word := 0
  clamp : Word := 0
  flt : Word := 0
  /-- Forces nothing until the host writes MODE (R314). -/
  stopped : Bool := false
  settling : Bool := false
  clampNow : Bool := false
  /-- Samples with VALID = 0 still to come after a restart (R320). -/
  restart : Nat := 0
  deriving DecidableEq, Repr

/-- An acquisition engine beside its registers (12_acquisition.md): the live counters and timer, the event latches of the
current state's transitions, the hold-off's remaining count, the mask position, and the reduction interval. -/
structure Acq where
  c0 : Nat := 0
  c1 : Nat := 0
  timer : Nat := 0
  latches : Nat := 0
  hold : Nat := 0
  maskOn : Bool := false
  seg : Nat := 0
  pos : Nat := 0
  passViol : Bool := false
  redN : Nat := 0
  redX : Nat := 0
  minA : Int := 0
  maxA : Int := 0
  minB : Int := 0
  maxB : Int := 0
  flagA : Nat := 0
  flagB : Nat := 0
  sidx : Nat := 0
  swrap : Bool := false
  /-- Samples that arrived and wait for their step: the words of inputs A and B (R334). -/
  waiting : List (Nat × Nat) := []
  /-- What the inputs have delivered at the grid count in progress: none yet, or a word or its lack (R330). -/
  gotA : Option (Option Nat) := none
  gotB : Option (Option Nat) := none
  deriving DecidableEq, Repr

/-- A result set of a TIM (Table 13-6). -/
structure TimResult where
  n : Nat := 0
  mean : Nat := 0
  sdev : Nat := 0
  min : Nat := 0
  max : Nat := 0
  period : Nat := 0
  freq : Nat := 0
  events : Nat := 0
  flags : Nat := 0
  ivl : List Nat := []
  deriving DecidableEq, Repr

/-- A TIM beside its registers (13_time_interval.md): the measurement or gate in progress, the accumulators of R362 and R364,
the last event of each source (R358), and the result sets. Stamps are in SU, event times in FU. -/
structure Tim where
  lastStart : Option Int := none
  lastStop : Option Int := none
  running : Bool := false
  start : Nat := 0
  ivl : List Nat := []
  done : Nat := 0
  m : Nat := 0
  s1 : Nat := 0
  s2 : Nat := 0
  min : Nat := 0
  max : Nat := 0
  /-- RES_FLAGS gathered so far: TIMEOUT, SAT, HOLDOVER, TRUNC. -/
  flags : Nat := 0
  events : Nat := 0
  n : Nat := 0
  sk : Nat := 0
  skk : Nat := 0
  st : Nat := 0
  skt : Nat := 0
  prev : Nat := 0
  /-- A complete set not yet written, the set written last, and whether a read of TIM_RES_SEQ has latched it (R365, R366). -/
  ready : Option TimResult := none
  res : TimResult := {}
  latched : Bool := true
  deriving DecidableEq, Repr

/-- The time base beside its registers: seconds of lock counted for XO_VALID and AGE_VALID (R374). -/
structure TimeBase where
  xoSecs : Nat := 0
  ageSecs : Nat := 0
  deriving DecidableEq, Repr

/-- A row a bank's tracker holds: its activations and the classes that made them (R248). -/
structure TrackEntry where
  row : Nat
  count : Nat
  mask : Nat
  deriving DecidableEq, Repr

/-- A bank of a pseudo-channel: the page-close predictor (R245), the rolling activation count (R247), the tracker and the
throttles, each a class and the intervals until its next activation (R248, R249). -/
structure Bank where
  c : Nat := 2
  openRow : Option Nat := none
  /-- Nanoseconds the open row is still held; none while its queue lasts or under OPEN. -/
  hold : Option Nat := none
  last : Option Nat := none
  acts : Nat := 0
  track : List TrackEntry := []
  throttled : List (Nat × Nat) := []
  deriving DecidableEq, Repr

/-- A request queued at a stack's scheduler: class, OFFSET, and whether it writes (R237, R238). -/
structure StkReq where
  cls : Nat
  off : Nat
  write : Bool := false
  deriving DecidableEq, Repr

/-- A stack beside its registers (09_stacks_controller.md). -/
structure Stack where
  queue : List StkReq := []
  /-- Banks by 64·pseudo-channel + bank. -/
  banks : SMap Bank := []
  /-- The class the round-robin serves next, and by class the intervals its requests have waited (R238, R240). -/
  rr : Nat := 0
  starved : SMap Nat := []
  /-- STK_MAP_LO and STK_MAP_HI in force (R244). -/
  mapLo : Nat := 0x19617595
  mapHi : Nat := 0x1A
  /-- A target recorded with WHEN = 1; the target of the change in progress (R253). -/
  target : Option Nat := none
  changing : Nat := 0
  /-- Times of UNCORR and WRITE_ERROR outcomes, in cycles of `State.now` (R259). -/
  errs : List Nat := []
  /-- The refresh-management threshold the stack reported at training, 0 before (R247). -/
  rfm : Nat := 0
  deriving DecidableEq, Repr

/-- A library command: the register form, or the descriptor it came from (R235, R447). -/
structure LibCmd where
  op : Nat
  cn : Nat
  tgt : Nat
  desc : Option Nat := none
  deriving DecidableEq, Repr

/-- A LOAD in progress: its entry, the parts that have ended, and the members whose commit is awaited (R231, R232). -/
structure LoadSt where
  entry : List Byte := []
  bytes : Option (List Byte) := none
  sent : Nat := 0
  tag : Nat := 0
  done : Nat := 0
  fails : Nat := 0
  timeouts : Nat := 0
  checked : Bool := false
  acks : Option Nat := none
  deriving DecidableEq, Repr

/-- A staged leaf of a streamed folio with the tag of its entry snapshot (R220, R221); no bytes while the request is out. -/
structure Staged where
  cn : Nat
  leaf : Nat
  origin : Nat
  len : Nat
  gen : Nat
  bytes : Option (List Byte) := none
  deriving DecidableEq, Repr

/-- A request to an ORIGIN that is not yet used (R220, R231, R452): its tag, the library address and length, the context and
part it stages (none: a LOAD), the bytes that came, whether one came bad, whether all came, and whether the REQUEST ring had no
free entry. -/
structure OriginReq where
  tag : Nat
  addr : Nat
  len : Nat
  ctx : Option Nat := none
  cn : Nat := 0
  part : Nat := 0
  bytes : List Byte := []
  bad : Bool := false
  done : Bool := false
  waiting : Bool := false
  deriving DecidableEq, Repr

/-- A LOAD part that a member writes here: member, tag, and the LOCAL address and length of each piece (R231, R232). -/
structure InPart where
  src : Nat
  tag : Nat
  pieces : List (Nat × Nat) := []
  deriving DecidableEq, Repr

/-- The library beside its registers (08_library_and_catalogue.md): the command engine, the catalogue caches by cluster 0 to 3
and the prefetcher 4, the staging rings by context, a concordance load in progress (R140), and the call numbers whose old
entries a context may still hold (R228). -/
structure Lib where
  cur : Option LibCmd := none
  load : LoadSt := {}
  queue : List LibCmd := []
  caches : SMap (List (Nat × List Byte)) := []
  staged : SMap (List Staged) := []
  reqs : List OriginReq := []
  inParts : List InPart := []
  /-- Ended commands of rings: ring, RESULT, PARTS, FAILS (Table 16-3). -/
  ended : List (Nat × Nat × Nat × Nat) := []
  concBays : Nat := 0
  /-- The concordances in force by bay: the image bytes (R138 to R141). -/
  concs : SMap (List Byte) := []
  deriving DecidableEq, Repr

/-- A descriptor of a SUBMIT ring (16_host_rings_and_dma.md Table 16-2) with its count; whether it runs on its channel, and since
when it waits for it (R455). -/
structure Desc where
  bytes : List Byte
  seq : Nat
  running : Bool := false
  since : Nat := 0
  deriving DecidableEq, Repr

/-- A ring beside its registers (16_host_rings_and_dma.md R440 to R451): the host's count from the doorbell, re-reads of the entry
at the Burcel's count, completion entries held on chip with whether each signals at once, entries since the last message, and
the descriptor in progress. -/
structure Ring where
  host : Nat := 0
  rereads : Nat := 0
  backlog : List (List Byte × Bool) := []
  unsig : Nat := 0
  desc : Option Desc := none
  deriving DecidableEq, Repr

/-- The host port beside its registers: rings, configuration space by dword offset, the channel and rings served last (R455). -/
structure HostPort where
  rings : SMap Ring := []
  cfg : SMap Word := []
  lastCh : Nat := 0
  lastRing : SMap Nat := []
  /-- Subsystem vendor and device, loaded from the Archive at Boot step 2 (Table 16-1). -/
  subsys : Nat := 0
  deriving DecidableEq, Repr
/-- A fabric port beside its registers (14_weafy_lanes.md). -/
structure Port where
  /-- Step of the ladder of R384, 0 outside it; whether the partner's proposal and how many ACCEPT rows have come. -/
  step : Nat := 0
  partnerMax : Option Nat := none
  accepts : Nat := 0
  /-- The rate agreed, and the lanes that failed at every rate so far. -/
  rate : Nat := 0
  lowered : Nat := 0
  badLanes : Option Nat := none
  /-- Frames queued by order of arrival, and sent frames not acknowledged (R391, R392). -/
  queue : List Frame := []
  replay : List Frame := []
  nextSeq : Nat := 0
  /-- The next SEQ expected, the failures of it so far, and whether a NAK is requested (R391). -/
  expect : Nat := 0
  failures : Nat := 0
  nak : Bool := false
  /-- Flits sent and freed by the partner, and flits freed here, by VC (R393). -/
  sent : List Nat := [0, 0, 0, 0]
  freedFar : List Nat := [0, 0, 0, 0]
  freed : List Nat := [0, 0, 0, 0]
  credited : Bool := false
  /-- TRAINING by a retrain (R385, R386). -/
  retraining : Bool := false
  /-- VC and flits of the frames sent last, 512 flits in all (R392). -/
  recent : List (Nat × Nat) := []
  deriving DecidableEq, Repr

/-- A DUT lane beside its registers (14_weafy_lanes.md): the live counts of R404 and the slip before a search (R402). -/
structure DutLane where
  bits : Nat := 0
  wrap : Bool := false
  errs : Nat := 0
  slipBefore : Nat := 0
  /-- Electrical idle and no comparison under R403 until Safe, Self-test, the fence or the OFF has gone. -/
  stopped : Bool := false
  deriving DecidableEq, Repr


/-- What a member answered to PREPARE (15_lockstep_groups.md Table 15-6): member, digest, parent latency and row time, group-site
map, or the reason and detail of a refusal. -/
structure GroupAnswer where
  member : Nat
  digest : Nat := 0
  lat : Nat := 0
  row : Nat := 0
  sites : List Byte := []
  refuse : Option (Nat × Nat × Nat) := none
  deriving DecidableEq, Repr

/-- The lockstep group beside its registers (15_lockstep_groups.md). -/
structure Grp where
  /-- Contributions of the group contexts to own summaries not yet complete: leaf, context, flags (R419). -/
  parts : List (Nat × Nat × Nat) := []
  /-- Own summaries complete, and children's summaries by leaf and port, not yet combined. -/
  own : List (Nat × Nat) := []
  kids : List (Nat × Nat × Nat) := []
  /-- DOWN summaries held, newest first, and at the sync master those it withholds (R423). -/
  downs : List (Nat × Nat) := []
  withheld : List (Nat × Nat) := []
  /-- The leaf whose DOWN summary was missing at the freeze, and a freeze found divergent (R423, R425). -/
  frozen : Option Nat := none
  divergent : Bool := false
  /-- Requests that enter the next summaries (R424, R426, R427). -/
  haltReq : Bool := false
  stopReq : Bool := false
  startReq : Bool := false
  resumeReq : Bool := false
  /-- Contexts that left the group by a forced halt (R181). -/
  left : Nat := 0
  /-- Group Arm: this member's role in it (0 none, 1 waiting for answers, 2 answered READY), the answers. -/
  phase : Nat := 0
  answers : List GroupAnswer := []
  /-- Alignment to a pulse awaited: pulses still to come before it (R410); pulses stamped and the last stamp in FU. -/
  align : Option Nat := none
  pulses : Nat := 0
  stamp : Nat := 0
  /-- Heartbeats sent, members lost, and group sites by member from READY (R431, R432). -/
  beats : Nat := 0
  lost : Nat := 0
  siteMaps : List (Nat × List Byte) := []
  /-- A tree port retrained since the Arm (R424). -/
  retrained : Bool := false
  /-- The sync master, whose PREPARE began the Arm, and at it the parent of each member on the tree (R406, R415). -/
  master : Nat := 0
  parents : List (Nat × Nat) := []
  deriving DecidableEq, Repr

/-- A work item the scheduler holds from enqueue to release (17_clerks.md R468). -/
structure WorkItem where
  id : Nat
  kind : Nat
  prio : Nat := 0
  ordered : Bool := false
  flow : Nat := 0
  tag : Nat := 0
  arg : Nat := 0
  due : Nat := 0
  /-- 0 hardware, 1 host, 2 firmware. -/
  origin : Nat := 0
  /-- Position in its flow; where it is: 0 delay list, 1 ready list, 2 running, 3 complete; its list; the clerk that runs it. -/
  pos : Nat := 0
  place : Nat := 1
  list : Nat := 0
  clerk : Nat := 0
  /-- The tick at which it entered its list, and the ticks it has run. -/
  since : Nat := 0
  ran : Nat := 0
  /-- Ends by the watchdog; the claim of a DRAIN; the leaf at which a FINAL DRAIN ends. -/
  tries : Nat := 0
  claim : Option (Nat × Nat) := none
  final : Option Nat := none
  /-- The work result of Table 17-3 and the datalog records held until release. -/
  result : Nat := 0
  outs : List (List Byte) := []
  deriving DecidableEq, Repr

/-- A stream's STATS since its previous one: count, least, greatest, sum, sum of squares (Table 17-4). -/
structure Stat where
  n : Nat := 0
  low : Int := 0
  high : Int := 0
  sum : Int := 0
  sq : Int := 0
  deriving DecidableEq, Repr

/-- A datalog channel beside its registers: the open batch's start, its first tick, batches announced (17_clerks.md R483). -/
structure Dlog where
  start : Option (Nat × Nat) := none
  count : Nat := 0
  deriving DecidableEq, Repr

/-- A march on a scratchpad bank (17_clerks.md R491). -/
structure March where
  bank : Nat
  alg : Nat
  destructive : Bool
  deriving DecidableEq, Repr

/-- The work scheduler, what the clerks' firmware keeps of released records, and the scratchpads (17_clerks.md). -/
structure Works where
  tick : Nat := 0
  nextId : Nat := 0
  items : List WorkItem := []
  /-- Ready lists by number, and the delay list, as item numbers, head first. -/
  ready : SMap (List Nat) := []
  delay : List Nat := []
  /-- Next position by flow; tick of the last hardware DRAIN by stream, plus 1; next SEQ by stream. -/
  pos : SMap Nat := []
  lastDrain : SMap Nat := []
  nextSeq : SMap Nat := []
  /-- RUN_END records released by context since its last Arm, oldest first: leaf and STATUS (R472). -/
  ends : SMap (List (Nat × Nat)) := []
  /-- FAIL, FIRST_FAIL, GAP and INVALIDATE records released by site, and its latest DIGEST: fails and dropped. -/
  seen : SMap (List (List Byte)) := []
  digest : SMap (Option (Nat × Nat)) := []
  stats : SMap Stat := []
  dlog : SMap Dlog := []
  /-- Live counts of R485 by list and by clerk. -/
  waitMax : SMap Nat := []
  busy : SMap Nat := []
  done : SMap Nat := []
  /-- Scratchpad words by word address; the target of a bank's transition; the march that runs. -/
  spd : SMap (BitVec 64) := []
  target : SMap (Option Nat) := []
  march : Option March := none
  deriving DecidableEq, Repr

/-- The edge corrections a channel uses, fast and wide, as EDG_CORR_DRV and EDG_CORR_CMP show them (20_calibration.md R128). -/
structure Corr where
  drvF : Nat := 0
  cmpF : Nat := 0
  drvW : Nat := 0
  cmpW : Nat := 0
  deriving DecidableEq, Repr

/-- A correction set of a bay (20_calibration.md R547, Table 20-5). Its values are the body, whose layout is Isavolar's own. -/
structure CalSet where
  gen : Nat := 0
  baseGen : Nat := 0
  tcal : Int := 0
  /-- 1 FULL, 2 TRACK. -/
  kind : Nat := 1
  modes : Nat := 0
  uncal : Bool := true
  fullSec : Nat := 0
  refV : Nat := 0
  /-- The shelves it changes. -/
  shelves : Nat := 0
  body : List Byte := []
  deriving DecidableEq, Repr

/-- A calibration that runs on a bay (R551, R553). -/
structure CalRun where
  full : Bool
  shelves : Nat
  modes : Nat
  /-- The temperature at which it measures, and its CAL_FIT item. -/
  temp : Int
  fit : Option Nat := none
  deriving DecidableEq, Repr

/-- A bay's calibration beside its registers. -/
structure Cal where
  force : Option CalSet := none
  pending : Option CalSet := none
  /-- The newest generation given. -/
  lastGen : Nat := 0
  run : Option CalRun := none
  /-- The temperature of a tracking calibration rejected or failed since the newest set (R556). -/
  failed : Option Int := none
  /-- Copies still to be written, the one being written first (R567, R569). -/
  store : List Nat := []
  deriving DecidableEq, Repr

/-- The local clock (18_time_and_metering.md R493): seconds, nanoseconds, 2⁻¹⁶ ns, and what the rate correction leaves below
that in units of 2⁻⁵⁶ ns. -/
structure Clock where
  sec : Nat := 0
  ns : Nat := 0
  sub : Nat := 0
  frac : Nat := 0
  deriving DecidableEq, Repr

/-- Network time beside its registers (18_time_and_metering.md R495, R503 to R508). -/
structure Ntm where
  /-- SEC wrapped since the last latching read. -/
  wrapped : Bool := false
  /-- The servo's sum Σ in 2⁻¹⁶ ns, the last 64 values of NTM_ADJ, and how many offsets in a row were below 50 ns. -/
  sigma : Int := 0
  adjs : List Int := []
  good : Nat := 0
  /-- By port: the egress stamp of the request that waits for its response, and whether PATH is loaded. -/
  asked : SMap (Option Nat) := []
  loaded : SMap Bool := []
  /-- The level of PPS_OUT. -/
  pps : Bool := false
  deriving DecidableEq, Repr

/-- The circulation meter beside its registers (18_time_and_metering.md R509 to R517). Times: START in seconds, G in ns. -/
structure Meter where
  period : Nat := 0
  start : Nat := 0
  g : Nat := 0
  counts : SMap Nat := []
  sat : Nat := 0
  /-- Seconds before and after the period's first regression. -/
  regress : Option (Nat × Nat) := none
  /-- A torn record was found since the previous record. -/
  torn : Bool := false
  /-- Next record of the checkpoint and of the seal area. -/
  ckPos : Nat := 0
  sealPos : Nat := 0
  deriving DecidableEq, Repr

/-- The state of the Burcel. -/
structure State where
  /-- BAR0 registers that differ from their reset values, by address, in canonical form. -/
  regs : SMap Word
  /-- Bytes of the two stacks that are not zero, by LOCAL address, in canonical form (08_library_and_catalogue.md R208). -/
  mem : List Host.Cell
  /-- Commands that wait, first in, first out. -/
  pending : List Instr
  /-- How many free values have been used (the model's own: notes/assumptions/2.md). -/
  fresh : Nat
  /-- Always-on 100 MHz cycles since reset (the model's own: notes/assumptions/4.md). -/
  now : Nat
  /-- What has been sent outside, oldest first (the model's own: notes/assumptions/3.md). -/
  out : List Out
  sys : Sys
  chans : SMap Chan
  ctxs : SMap Ctx
  fcl : Fcl
  arch : Archive
  sec : Security
  ldg : Ledger
  clk : Clock
  ntm : Ntm
  meter : Meter
  pmus : SMap Pmu
  acqs : SMap Acq
  tims : SMap Tim
  tb : TimeBase
  stks : SMap Stack
  /-- Granules that read uncorrectable until rewritten, by LOCAL address div 64 (R257). -/
  bad : SMap Bool
  /-- Kind, address and time of the newest Stacks log entry (R261). -/
  stkLog : Option (Nat × Nat × Nat)
  lib : Lib
  hp : HostPort
  ports : SMap Port
  dlanes : SMap DutLane
  grp : Grp
  wks : Works
  cals : SMap Cal
  /-- The corrections each channel uses (R561). -/
  corrs : SMap Corr
  /-- The write gates of clerks 0 to 15 and of the debug access port, 16 (R598). -/
  gates : SMap Gate
  tap : Tap
  ist : Inventory
  /-- WO1 registers that have taken their write (R613). -/
  wo1 : List Nat
  deriving DecidableEq, Repr

/-- The machine right after reset: Cold is about to end; every register reads its reset value (R12). -/
def State.reset : State where
  regs := []
  mem := []
  pending := []
  fresh := 0
  now := 0
  out := []
  sys := {}
  chans := []
  ctxs := []
  fcl := {}
  arch := {}
  sec := {}
  ldg := {}
  clk := {}
  ntm := {}
  meter := {}
  pmus := []
  acqs := []
  tims := []
  tb := {}
  stks := []
  bad := []
  stkLog := none
  lib := {}
  hp := {}
  ports := []
  dlanes := []
  grp := {}
  wks := {}
  cals := []
  corrs := []
  gates := []
  tap := {}
  ist := {}
  wo1 := []

end Sys2Proof.Machine
end

