-- ==== Sys2Proof/Machine/Regs.lean ====
section
/-! DEFINITION. The register map of BAR0 (23_register_reference.md R607, Tables 23-1 to 23-4, and the map and field
tables of each chapter): the address of every register (`Reg.*`), every field (`F.*`), and one row per register with its
reset value and the access code of each of its bits (00_scope.md Table 0-4). Names are the spec's own. -/
namespace Sys2Proof.Machine

/-- Bay space (Table 23-1): 1 MiB per bay from 0x0010_0000. -/
def bayBase (b : Nat) : Nat := 0x100000 + 0x100000 * b
/-- Context c lies in the bay space of bay c div 4 (Table 23-4). -/
def ctxBase (c : Nat) : Nat := bayBase (c / 4) + 0x10000 * (c % 4)
/-- The CHN block of channel n (R3, Table 23-4). -/
def chnBase (ch : Nat) : Nat := bayBase (ch / 64) + 0x80000 + 0x1000 * (ch % 64)
/-- Acquisition engine e = 2b + k (Table 23-4). -/
def engBase (e : Nat) : Nat := bayBase (e / 2) + 0x60000 + 0x1000 * (e % 2)

/-! ### SYS -/
def Reg.SYS_ID : Nat := 0x0
def Reg.SYS_IDCODE : Nat := 0x4
def Reg.SYS_CAPS : Nat := 0x8
def Reg.SYS_BOOT_VER : Nat := 0xc
def Reg.SYS_SCRATCH : Nat := 0x10
def Reg.SYS_MODE : Nat := 0x100
def Reg.SYS_MODE_REQ : Nat := 0x104
def Reg.SYS_BOOT_STATUS : Nat := 0x108
def Reg.SYS_RESET_CAUSE : Nat := 0x10c
def Reg.SYS_SAFE_CFG : Nat := 0x110
def Reg.SYS_SELFTEST_CFG : Nat := 0x114
def Reg.SYS_SELFTEST_STATUS : Nat := 0x118
def Reg.SYS_DENY_STATUS : Nat := 0x200
def Reg.SYS_DENY_ADDR : Nat := 0x204
def Reg.SYS_DENY_DATA : Nat := 0x208
def F.SYS_ID : RF := ⟨Reg.SYS_ID, 0, 32⟩
def F.SYS_IDCODE : RF := ⟨Reg.SYS_IDCODE, 0, 32⟩
def F.SYS_CAPS : RF := ⟨Reg.SYS_CAPS, 0, 32⟩
def F.SYS_BOOT_VER : RF := ⟨Reg.SYS_BOOT_VER, 0, 32⟩
def F.SYS_SCRATCH : RF := ⟨Reg.SYS_SCRATCH, 0, 32⟩
def F.SYS_MODE_LAST_SEQ : RF := ⟨Reg.SYS_MODE, 16, 8⟩
def F.SYS_MODE_RESULT : RF := ⟨Reg.SYS_MODE, 12, 4⟩
def F.SYS_MODE_BUSY : RF := ⟨Reg.SYS_MODE, 8, 1⟩
def F.SYS_MODE_DEGRADED : RF := ⟨Reg.SYS_MODE, 4, 1⟩
def F.SYS_MODE_MODE : RF := ⟨Reg.SYS_MODE, 0, 4⟩
def F.SYS_MODE_REQ_SEQ : RF := ⟨Reg.SYS_MODE_REQ, 16, 8⟩
def F.SYS_MODE_REQ_GO : RF := ⟨Reg.SYS_MODE_REQ, 4, 1⟩
def F.SYS_MODE_REQ_MODE : RF := ⟨Reg.SYS_MODE_REQ, 0, 4⟩
def F.SYS_BOOT_STATUS_ERR : RF := ⟨Reg.SYS_BOOT_STATUS, 8, 8⟩
def F.SYS_BOOT_STATUS_IMAGE : RF := ⟨Reg.SYS_BOOT_STATUS, 4, 2⟩
def F.SYS_BOOT_STATUS_STEP : RF := ⟨Reg.SYS_BOOT_STATUS, 0, 4⟩
def F.SYS_RESET_CAUSE_WAKE : RF := ⟨Reg.SYS_RESET_CAUSE, 5, 1⟩
def F.SYS_RESET_CAUSE_WARM : RF := ⟨Reg.SYS_RESET_CAUSE, 4, 1⟩
def F.SYS_RESET_CAUSE_RAIL : RF := ⟨Reg.SYS_RESET_CAUSE, 3, 1⟩
def F.SYS_RESET_CAUSE_SEQ : RF := ⟨Reg.SYS_RESET_CAUSE, 2, 1⟩
def F.SYS_RESET_CAUSE_PERST : RF := ⟨Reg.SYS_RESET_CAUSE, 1, 1⟩
def F.SYS_RESET_CAUSE_POR : RF := ⟨Reg.SYS_RESET_CAUSE, 0, 1⟩
def F.SYS_SAFE_CFG_PINS : RF := ⟨Reg.SYS_SAFE_CFG, 0, 1⟩
def F.SYS_SELFTEST_CFG_TESTS : RF := ⟨Reg.SYS_SELFTEST_CFG, 0, 8⟩
def F.SYS_SELFTEST_STATUS_DONE : RF := ⟨Reg.SYS_SELFTEST_STATUS, 31, 1⟩
def F.SYS_SELFTEST_STATUS_ABANDONED : RF := ⟨Reg.SYS_SELFTEST_STATUS, 30, 1⟩
def F.SYS_SELFTEST_STATUS_OVERWRITTEN : RF := ⟨Reg.SYS_SELFTEST_STATUS, 16, 8⟩
def F.SYS_SELFTEST_STATUS_FAILED : RF := ⟨Reg.SYS_SELFTEST_STATUS, 8, 8⟩
def F.SYS_SELFTEST_STATUS_RUN : RF := ⟨Reg.SYS_SELFTEST_STATUS, 0, 8⟩
def F.SYS_DENY_STATUS_DENIED : RF := ⟨Reg.SYS_DENY_STATUS, 31, 1⟩
def F.SYS_DENY_STATUS_CAUSE : RF := ⟨Reg.SYS_DENY_STATUS, 24, 4⟩
def F.SYS_DENY_STATUS_CORE : RF := ⟨Reg.SYS_DENY_STATUS, 18, 4⟩
def F.SYS_DENY_STATUS_MASTER : RF := ⟨Reg.SYS_DENY_STATUS, 16, 2⟩
def F.SYS_DENY_STATUS_COUNT : RF := ⟨Reg.SYS_DENY_STATUS, 0, 16⟩
def F.SYS_DENY_ADDR_ADDR : RF := ⟨Reg.SYS_DENY_ADDR, 0, 26⟩
def F.SYS_DENY_DATA_DATA : RF := ⟨Reg.SYS_DENY_DATA, 0, 32⟩
/-- The SYS rows: base, index dimensions (count, stride), and the bit masks RW, W1C, W1S, WL, LIVE, WO1. -/
def regRowsSYS : List RegRow := [
  ⟨0x0, [], 0, 0, 0, 0, 0, 0⟩,
  ⟨0x4, [], 0, 0, 0, 0, 0, 0⟩,
  ⟨0x8, [], 0, 0, 0, 0, 0, 0⟩,
  ⟨0xc, [], 0, 0, 0, 0, 0, 0⟩,
  ⟨0x10, [], 0xffffffff, 0, 0, 0, 0, 0⟩,
  ⟨0x100, [], 0, 0, 0, 0, 0, 0⟩,
  ⟨0x104, [], 0xff000f, 0, 0x10, 0, 0, 0⟩,
  ⟨0x108, [], 0, 0, 0, 0, 0, 0⟩,
  ⟨0x10c, [], 0, 0x3f, 0, 0, 0, 0⟩,
  ⟨0x110, [], 0x1, 0, 0, 0, 0, 0⟩,
  ⟨0x114, [], 0xff, 0, 0, 0, 0, 0⟩,
  ⟨0x118, [], 0, 0, 0, 0, 0, 0⟩,
  ⟨0x200, [], 0, 0x80000000, 0, 0, 0, 0⟩,
  ⟨0x204, [], 0, 0, 0, 0, 0, 0⟩,
  ⟨0x208, [], 0, 0, 0, 0, 0, 0⟩]

/-! ### PWR -/
def Reg.PWR_DOM_CTRL (i : Nat) : Nat := 0x8000 + 0x4 * i
def Reg.PWR_DOM_STATUS (i : Nat) : Nat := 0x8100 + 0x4 * i
def Reg.PWR_STBY_CFG : Nat := 0x8200
def Reg.PWR_SUPPLY_STATUS : Nat := 0x8204
def F.PWR_DOM_CTRL_REQ (i : Nat) : RF := ⟨Reg.PWR_DOM_CTRL i, 0, 2⟩
def F.PWR_DOM_STATUS_ERR (i : Nat) : RF := ⟨Reg.PWR_DOM_STATUS i, 8, 4⟩
def F.PWR_DOM_STATUS_VDL_GOOD (i : Nat) : RF := ⟨Reg.PWR_DOM_STATUS i, 5, 1⟩
def F.PWR_DOM_STATUS_VDH_GOOD (i : Nat) : RF := ⟨Reg.PWR_DOM_STATUS i, 4, 1⟩
def F.PWR_DOM_STATUS_STATE (i : Nat) : RF := ⟨Reg.PWR_DOM_STATUS i, 0, 3⟩
def F.PWR_STBY_CFG_WAKE_EVT : RF := ⟨Reg.PWR_STBY_CFG, 16, 16⟩
def F.PWR_STBY_CFG_WAKE_FABRIC : RF := ⟨Reg.PWR_STBY_CFG, 0, 1⟩
def F.PWR_SUPPLY_STATUS : RF := ⟨Reg.PWR_SUPPLY_STATUS, 0, 32⟩
/-- The PWR rows: base, index dimensions (count, stride), and the bit masks RW, W1C, W1S, WL, LIVE, WO1. -/
def regRowsPWR : List RegRow := [
  ⟨0x8000, [(50, 0x4)], 0x3, 0, 0, 0, 0, 0⟩,
  ⟨0x8100, [(50, 0x4)], 0, 0, 0, 0, 0, 0⟩,
  ⟨0x8200, [], 0xffff0001, 0, 0, 0, 0, 0⟩,
  ⟨0x8204, [], 0, 0, 0, 0, 0, 0⟩]

/-! ### HST -/
def Reg.HST_CFG : Nat := 0x10000
def Reg.HST_BAR4_WIN : Nat := 0x10004
def Reg.HST_LINK : Nat := 0x10008
def Reg.HST_ORIGIN (i : Nat) : Nat := 0x10100 + 0x10 * i
def Reg.HST_ORIGIN_STATUS (i : Nat) : Nat := 0x10104 + 0x10 * i
def Reg.HST_RING_BASE_LO (i : Nat) : Nat := 0x14000 + 0x40 * i
def Reg.HST_RING_BASE_HI (i : Nat) : Nat := 0x14004 + 0x40 * i
def Reg.HST_RING_CFG (i : Nat) : Nat := 0x14008 + 0x40 * i
def Reg.HST_RING_STATUS (i : Nat) : Nat := 0x1400c + 0x40 * i
def Reg.HST_RING_PTR (i : Nat) : Nat := 0x14010 + 0x40 * i
def Reg.HST_RING_DB (i : Nat) : Nat := 0x14014 + 0x40 * i
def Reg.HST_RING_IRQ (i : Nat) : Nat := 0x14018 + 0x40 * i
def Reg.HST_MSIX_ADDR_LO (i : Nat) : Nat := 0x18000 + 0x10 * i
def Reg.HST_MSIX_ADDR_HI (i : Nat) : Nat := 0x18004 + 0x10 * i
def Reg.HST_MSIX_DATA (i : Nat) : Nat := 0x18008 + 0x10 * i
def Reg.HST_MSIX_CTRL (i : Nat) : Nat := 0x1800c + 0x10 * i
def Reg.HST_MSIX_PBA (i : Nat) : Nat := 0x18800 + 0x4 * i
def F.HST_CFG_BAR4 : RF := ⟨Reg.HST_CFG, 0, 1⟩
def F.HST_BAR4_WIN_STACK : RF := ⟨Reg.HST_BAR4_WIN, 16, 1⟩
def F.HST_BAR4_WIN_BASE : RF := ⟨Reg.HST_BAR4_WIN, 0, 6⟩
def F.HST_LINK_DL_UP : RF := ⟨Reg.HST_LINK, 12, 1⟩
def F.HST_LINK_WIDTH : RF := ⟨Reg.HST_LINK, 4, 5⟩
def F.HST_LINK_RATE : RF := ⟨Reg.HST_LINK, 0, 3⟩
def F.HST_ORIGIN_EN (i : Nat) : RF := ⟨Reg.HST_ORIGIN i, 31, 1⟩
def F.HST_ORIGIN_REQUEST (i : Nat) : RF := ⟨Reg.HST_ORIGIN i, 8, 8⟩
def F.HST_ORIGIN_RESPONSE (i : Nat) : RF := ⟨Reg.HST_ORIGIN i, 0, 8⟩
def F.HST_ORIGIN_STATUS_BAD (i : Nat) : RF := ⟨Reg.HST_ORIGIN_STATUS i, 16, 16⟩
def F.HST_ORIGIN_STATUS_OUT (i : Nat) : RF := ⟨Reg.HST_ORIGIN_STATUS i, 0, 16⟩
def F.HST_RING_BASE_LO_ADDR (i : Nat) : RF := ⟨Reg.HST_RING_BASE_LO i, 12, 20⟩
def F.HST_RING_BASE_HI_ADDR (i : Nat) : RF := ⟨Reg.HST_RING_BASE_HI i, 0, 32⟩
def F.HST_RING_CFG_EN (i : Nat) : RF := ⟨Reg.HST_RING_CFG i, 31, 1⟩
def F.HST_RING_CFG_SIZE_LOG2 (i : Nat) : RF := ⟨Reg.HST_RING_CFG i, 24, 4⟩
def F.HST_RING_CFG_KIND (i : Nat) : RF := ⟨Reg.HST_RING_CFG i, 20, 2⟩
def F.HST_RING_CFG_CHAN (i : Nat) : RF := ⟨Reg.HST_RING_CFG i, 16, 3⟩
def F.HST_RING_CFG_CRING (i : Nat) : RF := ⟨Reg.HST_RING_CFG i, 8, 8⟩
def F.HST_RING_CFG_MSIX (i : Nat) : RF := ⟨Reg.HST_RING_CFG i, 0, 6⟩
def F.HST_RING_STATUS_STOP (i : Nat) : RF := ⟨Reg.HST_RING_STATUS i, 24, 8⟩
def F.HST_RING_STATUS_STATE (i : Nat) : RF := ⟨Reg.HST_RING_STATUS i, 18, 2⟩
def F.HST_RING_STATUS_PHASE (i : Nat) : RF := ⟨Reg.HST_RING_STATUS i, 16, 1⟩
def F.HST_RING_STATUS_BACKLOG (i : Nat) : RF := ⟨Reg.HST_RING_STATUS i, 8, 8⟩
def F.HST_RING_PTR_PTR (i : Nat) : RF := ⟨Reg.HST_RING_PTR i, 0, 16⟩
def F.HST_RING_DB_DB (i : Nat) : RF := ⟨Reg.HST_RING_DB i, 0, 16⟩
def F.HST_RING_IRQ_TIME (i : Nat) : RF := ⟨Reg.HST_RING_IRQ i, 16, 16⟩
def F.HST_RING_IRQ_COUNT (i : Nat) : RF := ⟨Reg.HST_RING_IRQ i, 0, 8⟩
def F.HST_MSIX_ADDR_LO_ADDR (i : Nat) : RF := ⟨Reg.HST_MSIX_ADDR_LO i, 2, 30⟩
def F.HST_MSIX_ADDR_HI (i : Nat) : RF := ⟨Reg.HST_MSIX_ADDR_HI i, 0, 32⟩
def F.HST_MSIX_DATA (i : Nat) : RF := ⟨Reg.HST_MSIX_DATA i, 0, 32⟩
def F.HST_MSIX_CTRL_MASK (i : Nat) : RF := ⟨Reg.HST_MSIX_CTRL i, 0, 1⟩
def F.HST_MSIX_PBA_PEND (i : Nat) : RF := ⟨Reg.HST_MSIX_PBA i, 0, 32⟩
/-- The HST rows: base, index dimensions (count, stride), and the bit masks RW, W1C, W1S, WL, LIVE, WO1. -/
def regRowsHST : List RegRow := [
  ⟨0x10000, [], 0, 0, 0, 0, 0, 0⟩,
  ⟨0x10004, [], 0x1003f, 0, 0, 0, 0, 0⟩,
  ⟨0x10008, [], 0, 0, 0, 0, 0, 0⟩,
  ⟨0x10100, [(16, 0x10)], 0x8000ffff, 0, 0, 0, 0, 0⟩,
  ⟨0x10104, [(16, 0x10)], 0, 0, 0, 0, 0, 0⟩,
  ⟨0x14000, [(256, 0x40)], 0xfffff000, 0, 0, 0, 0, 0⟩,
  ⟨0x14004, [(256, 0x40)], 0xffffffff, 0, 0, 0, 0, 0⟩,
  ⟨0x14008, [(256, 0x40)], 0x8f37ff3f, 0, 0, 0, 0, 0⟩,
  ⟨0x1400c, [(256, 0x40)], 0, 0, 0, 0, 0, 0⟩,
  ⟨0x14010, [(256, 0x40)], 0xffff, 0, 0, 0, 0, 0⟩,
  ⟨0x14014, [(256, 0x40)], 0, 0, 0, 0, 0, 0⟩,
  ⟨0x14018, [(256, 0x40)], 0xffff00ff, 0, 0, 0, 0, 0⟩,
  ⟨0x18000, [(64, 0x10)], 0xfffffffc, 0, 0, 0, 0, 0⟩,
  ⟨0x18004, [(64, 0x10)], 0xffffffff, 0, 0, 0, 0, 0⟩,
  ⟨0x18008, [(64, 0x10)], 0xffffffff, 0, 0, 0, 0, 0⟩,
  ⟨0x1800c, [(64, 0x10)], 0x1, 0, 0, 0, 0, 0⟩,
  ⟨0x18800, [(2, 0x4)], 0, 0, 0, 0, 0, 0⟩]

/-! ### DMA -/
def Reg.DMA_MODE : Nat := 0x20000
def Reg.DMA_BUF : Nat := 0x20004
def Reg.DMA_CH_CFG (i : Nat) : Nat := 0x20100 + 0x10 * i
def Reg.DMA_CH_STATUS (i : Nat) : Nat := 0x20104 + 0x10 * i
def Reg.DMA_CH_DONE (i : Nat) : Nat := 0x20108 + 0x10 * i
def Reg.DMA_CH_FAIL (i : Nat) : Nat := 0x2010c + 0x10 * i
def F.DMA_MODE_CONC : RF := ⟨Reg.DMA_MODE, 0, 1⟩
def F.DMA_BUF_USED : RF := ⟨Reg.DMA_BUF, 0, 7⟩
def F.DMA_CH_CFG_PRIO (i : Nat) : RF := ⟨Reg.DMA_CH_CFG i, 0, 2⟩
def F.DMA_CH_STATUS_BUSY (i : Nat) : RF := ⟨Reg.DMA_CH_STATUS i, 31, 1⟩
def F.DMA_CH_STATUS_RING (i : Nat) : RF := ⟨Reg.DMA_CH_STATUS i, 16, 8⟩
def F.DMA_CH_STATUS_SEQ (i : Nat) : RF := ⟨Reg.DMA_CH_STATUS i, 0, 16⟩
def F.DMA_CH_DONE (i : Nat) : RF := ⟨Reg.DMA_CH_DONE i, 0, 32⟩
def F.DMA_CH_FAIL (i : Nat) : RF := ⟨Reg.DMA_CH_FAIL i, 0, 32⟩
/-- The DMA rows: base, index dimensions (count, stride), and the bit masks RW, W1C, W1S, WL, LIVE, WO1. -/
def regRowsDMA : List RegRow := [
  ⟨0x20000, [], 0, 0, 0, 0, 0, 0⟩,
  ⟨0x20004, [], 0, 0, 0, 0, 0, 0⟩,
  ⟨0x20100, [(8, 0x10)], 0x3, 0, 0, 0, 0, 0⟩,
  ⟨0x20104, [(8, 0x10)], 0, 0, 0, 0, 0, 0⟩,
  ⟨0x20108, [(8, 0x10)], 0, 0, 0, 0, 0, 0⟩,
  ⟨0x2010c, [(8, 0x10)], 0, 0, 0, 0, 0, 0⟩]

/-! ### FCL -/
def Reg.FCL_STATUS : Nat := 0x30000
def Reg.FCL_CFG : Nat := 0x30004
def Reg.FCL_CLEAR : Nat := 0x30008
def Reg.FCL_FENCE_CMD : Nat := 0x3000c
def Reg.FCL_USE : Nat := 0x30010
def Reg.FCL_BAY_USE (i : Nat) : Nat := 0x30014 + 0x4 * i
def Reg.FCL_ESTOP : Nat := 0x30030
def Reg.FCL_WIRE_TEST : Nat := 0x30034
def Reg.FCL_LOST : Nat := 0x30038
def Reg.FCL_LOG_IDX : Nat := 0x30040
def Reg.FCL_LOG_CTRL : Nat := 0x30044
def Reg.FCL_LOG_HEAD : Nat := 0x30048
def Reg.FCL_LOG_DATA (i : Nat) : Nat := 0x30400 + 0x4 * i
def Reg.FCL_ACT (i : Nat) : Nat := 0x32000 + 0x4 * i
def F.FCL_STATUS_LOG_DROPPED : RF := ⟨Reg.FCL_STATUS, 16, 16⟩
def F.FCL_STATUS_LOG_QUEUED : RF := ⟨Reg.FCL_STATUS, 9, 1⟩
def F.FCL_STATUS_FAULTN : RF := ⟨Reg.FCL_STATUS, 8, 1⟩
def F.FCL_STATUS_PEND : RF := ⟨Reg.FCL_STATUS, 0, 4⟩
def F.FCL_CFG_LOG_MIN : RF := ⟨Reg.FCL_CFG, 8, 2⟩
def F.FCL_CFG_FAULTN_EN : RF := ⟨Reg.FCL_CFG, 0, 4⟩
def F.FCL_CLEAR_GO : RF := ⟨Reg.FCL_CLEAR, 31, 1⟩
def F.FCL_CLEAR_RESULT : RF := ⟨Reg.FCL_CLEAR, 24, 4⟩
def F.FCL_CLEAR_ALL : RF := ⟨Reg.FCL_CLEAR, 16, 1⟩
def F.FCL_CLEAR_UNIT : RF := ⟨Reg.FCL_CLEAR, 0, 16⟩
def F.FCL_FENCE_CMD_GO : RF := ⟨Reg.FCL_FENCE_CMD, 31, 1⟩
def F.FCL_FENCE_CMD_OP : RF := ⟨Reg.FCL_FENCE_CMD, 28, 2⟩
def F.FCL_FENCE_CMD_RESULT : RF := ⟨Reg.FCL_FENCE_CMD, 24, 4⟩
def F.FCL_FENCE_CMD_UNIT : RF := ⟨Reg.FCL_FENCE_CMD, 0, 16⟩
def F.FCL_USE_BAYS : RF := ⟨Reg.FCL_USE, 28, 2⟩
def F.FCL_USE_STACKS : RF := ⟨Reg.FCL_USE, 24, 2⟩
def F.FCL_USE_PORTS : RF := ⟨Reg.FCL_USE, 20, 3⟩
def F.FCL_USE_CLERKS : RF := ⟨Reg.FCL_USE, 16, 4⟩
def F.FCL_USE_BANKS : RF := ⟨Reg.FCL_USE, 8, 5⟩
def F.FCL_USE_DLGROUPS : RF := ⟨Reg.FCL_USE, 4, 2⟩
def F.FCL_BAY_USE_USE (i : Nat) : RF := ⟨Reg.FCL_BAY_USE i, 0, 3⟩
def F.FCL_ESTOP_POL : RF := ⟨Reg.FCL_ESTOP, 16, 16⟩
def F.FCL_ESTOP_EN : RF := ⟨Reg.FCL_ESTOP, 0, 16⟩
def F.FCL_WIRE_TEST_PERIOD : RF := ⟨Reg.FCL_WIRE_TEST, 0, 14⟩
def F.FCL_LOST_LOST : RF := ⟨Reg.FCL_LOST, 0, 16⟩
def F.FCL_LOG_IDX : RF := ⟨Reg.FCL_LOG_IDX, 0, 32⟩
def F.FCL_LOG_CTRL_GO : RF := ⟨Reg.FCL_LOG_CTRL, 31, 1⟩
def F.FCL_LOG_CTRL_RESULT : RF := ⟨Reg.FCL_LOG_CTRL, 0, 8⟩
def F.FCL_LOG_HEAD : RF := ⟨Reg.FCL_LOG_HEAD, 0, 32⟩
def F.FCL_LOG_DATA (i : Nat) : RF := ⟨Reg.FCL_LOG_DATA i, 0, 32⟩
def F.FCL_ACT (i : Nat) : RF := ⟨Reg.FCL_ACT i, 0, 32⟩
/-- The FCL rows: base, index dimensions (count, stride), and the bit masks RW, W1C, W1S, WL, LIVE, WO1. -/
def regRowsFCL : List RegRow := [
  ⟨0x30000, [], 0, 0, 0, 0, 0, 0⟩,
  ⟨0x30004, [], 0x30f, 0, 0, 0, 0, 0⟩,
  ⟨0x30008, [], 0x1ffff, 0, 0x80000000, 0, 0, 0⟩,
  ⟨0x3000c, [], 0x3000ffff, 0, 0x80000000, 0, 0, 0⟩,
  ⟨0x30010, [], 0, 0, 0, 0, 0, 0⟩,
  ⟨0x30014, [(4, 0x4)], 0, 0, 0, 0, 0, 0⟩,
  ⟨0x30030, [], 0xffffffff, 0, 0, 0, 0, 0⟩,
  ⟨0x30034, [], 0x3fff, 0, 0, 0, 0, 0⟩,
  ⟨0x30038, [], 0, 0, 0, 0, 0, 0⟩,
  ⟨0x30040, [], 0xffffffff, 0, 0, 0, 0, 0⟩,
  ⟨0x30044, [], 0, 0, 0x80000000, 0, 0, 0⟩,
  ⟨0x30048, [], 0, 0, 0, 0, 0, 0⟩,
  ⟨0x30400, [(16, 0x4)], 0, 0, 0, 0, 0, 0⟩,
  ⟨0x32000, [(2048, 0x4)], 0, 0, 0, 0, 0, 0⟩]

/-! ### IRQ -/
def Reg.IRQ_SRC_CFG (i : Nat) : Nat := 0x38000 + 0x4 * i
def Reg.IRQ_SRC_CNT (i : Nat) : Nat := 0x39000 + 0x4 * i
def Reg.IRQ_PEND (i : Nat) : Nat := 0x3a000 + 0x4 * i
def Reg.IRQ_EVT_FILT (i : Nat) : Nat := 0x3a100 + 0x4 * i
def Reg.IRQ_EVT_LEVEL : Nat := 0x3a140
def F.IRQ_SRC_CFG_EN (i : Nat) : RF := ⟨Reg.IRQ_SRC_CFG i, 31, 1⟩
def F.IRQ_SRC_CFG_VECTOR (i : Nat) : RF := ⟨Reg.IRQ_SRC_CFG i, 0, 6⟩
def F.IRQ_SRC_CNT_COUNT (i : Nat) : RF := ⟨Reg.IRQ_SRC_CNT i, 0, 8⟩
def F.IRQ_PEND (i : Nat) : RF := ⟨Reg.IRQ_PEND i, 0, 32⟩
def F.IRQ_EVT_FILT_N (i : Nat) : RF := ⟨Reg.IRQ_EVT_FILT i, 0, 10⟩
def F.IRQ_EVT_LEVEL_LEVEL : RF := ⟨Reg.IRQ_EVT_LEVEL, 0, 16⟩
/-- The IRQ rows: base, index dimensions (count, stride), and the bit masks RW, W1C, W1S, WL, LIVE, WO1. -/
def regRowsIRQ : List RegRow := [
  ⟨0x38000, [(1024, 0x4)], 0x8000003f, 0, 0, 0, 0, 0⟩,
  ⟨0x39000, [(1024, 0x4)], 0xff, 0, 0, 0, 0, 0⟩,
  ⟨0x3a000, [(32, 0x4)], 0, 0, 0, 0, 0, 0⟩,
  ⟨0x3a100, [(16, 0x4)], 0x3ff, 0, 0, 0, 0, 0⟩,
  ⟨0x3a140, [], 0, 0, 0, 0, 0, 0⟩]

/-! ### SEC -/
def Reg.SEC_SERIAL_LO : Nat := 0x40000
def Reg.SEC_SERIAL_HI : Nat := 0x40004
def Reg.SEC_LIFECYCLE : Nat := 0x40008
def Reg.SEC_MIN : Nat := 0x4000c
def Reg.SEC_LOCK : Nat := 0x40010
def Reg.SEC_FUSE_CMD : Nat := 0x40014
def Reg.SEC_LIC_SRC_LO : Nat := 0x40018
def Reg.SEC_LIC_SRC_HI : Nat := 0x4001c
def Reg.SEC_LIC_CMD : Nat := 0x40020
def Reg.SEC_LIC_STATUS : Nat := 0x40024
def Reg.SEC_MEASURE (i : Nat) : Nat := 0x40040 + 0x4 * i
def Reg.SEC_KEYHASH (i : Nat) : Nat := 0x40080 + 0x4 * i
def F.SEC_SERIAL_LO : RF := ⟨Reg.SEC_SERIAL_LO, 0, 32⟩
def F.SEC_SERIAL_HI : RF := ⟨Reg.SEC_SERIAL_HI, 0, 32⟩
def F.SEC_LIFECYCLE_DEBUG_OFF : RF := ⟨Reg.SEC_LIFECYCLE, 1, 1⟩
def F.SEC_LIFECYCLE_PROVISIONED : RF := ⟨Reg.SEC_LIFECYCLE, 0, 1⟩
def F.SEC_MIN_REVOKE : RF := ⟨Reg.SEC_MIN, 16, 4⟩
def F.SEC_MIN_ERRATA_MIN : RF := ⟨Reg.SEC_MIN, 8, 7⟩
def F.SEC_MIN_BOOT_MIN : RF := ⟨Reg.SEC_MIN, 0, 7⟩
def F.SEC_LOCK_ARCH : RF := ⟨Reg.SEC_LOCK, 1, 1⟩
def F.SEC_LOCK_DBG : RF := ⟨Reg.SEC_LOCK, 0, 1⟩
def F.SEC_FUSE_CMD_GO : RF := ⟨Reg.SEC_FUSE_CMD, 31, 1⟩
def F.SEC_FUSE_CMD_RESULT : RF := ⟨Reg.SEC_FUSE_CMD, 24, 4⟩
def F.SEC_FUSE_CMD_OP : RF := ⟨Reg.SEC_FUSE_CMD, 16, 2⟩
def F.SEC_FUSE_CMD_VALUE : RF := ⟨Reg.SEC_FUSE_CMD, 0, 7⟩
def F.SEC_LIC_SRC_LO_ADDR : RF := ⟨Reg.SEC_LIC_SRC_LO, 6, 26⟩
def F.SEC_LIC_SRC_HI_ADDR : RF := ⟨Reg.SEC_LIC_SRC_HI, 0, 20⟩
def F.SEC_LIC_CMD_GO : RF := ⟨Reg.SEC_LIC_CMD, 0, 1⟩
def F.SEC_LIC_STATUS_RESULT : RF := ⟨Reg.SEC_LIC_STATUS, 0, 8⟩
def F.SEC_MEASURE (i : Nat) : RF := ⟨Reg.SEC_MEASURE i, 0, 32⟩
def F.SEC_KEYHASH (i : Nat) : RF := ⟨Reg.SEC_KEYHASH i, 0, 32⟩
/-- The SEC rows: base, index dimensions (count, stride), and the bit masks RW, W1C, W1S, WL, LIVE, WO1. -/
def regRowsSEC : List RegRow := [
  ⟨0x40000, [], 0, 0, 0, 0, 0, 0⟩,
  ⟨0x40004, [], 0, 0, 0, 0, 0, 0⟩,
  ⟨0x40008, [], 0, 0, 0, 0, 0, 0⟩,
  ⟨0x4000c, [], 0, 0, 0, 0, 0, 0⟩,
  ⟨0x40010, [], 0, 0, 0, 0, 0, 0x3⟩,
  ⟨0x40014, [], 0x3007f, 0, 0x80000000, 0, 0, 0⟩,
  ⟨0x40018, [], 0, 0, 0, 0, 0, 0xffffffc0⟩,
  ⟨0x4001c, [], 0, 0, 0, 0, 0, 0xfffff⟩,
  ⟨0x40020, [], 0, 0, 0, 0, 0, 0x1⟩,
  ⟨0x40024, [], 0, 0, 0, 0, 0, 0⟩,
  ⟨0x40040, [(12, 0x4)], 0, 0, 0, 0, 0, 0⟩,
  ⟨0x40080, [(24, 0x4)], 0, 0, 0, 0, 0, 0⟩]

/-! ### NVS -/
def Reg.NVS_CMD : Nat := 0x44000
def Reg.NVS_ADDR : Nat := 0x44004
def Reg.NVS_BUF_LO : Nat := 0x44008
def Reg.NVS_BUF_HI : Nat := 0x4400c
def Reg.NVS_LEN : Nat := 0x44010
def Reg.NVS_STATUS : Nat := 0x44014
def F.NVS_CMD_GO : RF := ⟨Reg.NVS_CMD, 31, 1⟩
def F.NVS_CMD_OP : RF := ⟨Reg.NVS_CMD, 0, 4⟩
def F.NVS_ADDR_ADDR : RF := ⟨Reg.NVS_ADDR, 0, 26⟩
def F.NVS_BUF_LO_ADDR : RF := ⟨Reg.NVS_BUF_LO, 6, 26⟩
def F.NVS_BUF_HI_ADDR : RF := ⟨Reg.NVS_BUF_HI, 0, 32⟩
def F.NVS_LEN_LEN : RF := ⟨Reg.NVS_LEN, 0, 24⟩
def F.NVS_STATUS_RESULT : RF := ⟨Reg.NVS_STATUS, 24, 8⟩
def F.NVS_STATUS_QUEUED : RF := ⟨Reg.NVS_STATUS, 2, 1⟩
def F.NVS_STATUS_INHIBIT : RF := ⟨Reg.NVS_STATUS, 1, 1⟩
def F.NVS_STATUS_BUSY : RF := ⟨Reg.NVS_STATUS, 0, 1⟩
/-- The NVS rows: base, index dimensions (count, stride), and the bit masks RW, W1C, W1S, WL, LIVE, WO1. -/
def regRowsNVS : List RegRow := [
  ⟨0x44000, [], 0xf, 0, 0x80000000, 0, 0, 0⟩,
  ⟨0x44004, [], 0x3ffffff, 0, 0, 0, 0, 0⟩,
  ⟨0x44008, [], 0xffffffc0, 0, 0, 0, 0, 0⟩,
  ⟨0x4400c, [], 0xffffffff, 0, 0, 0, 0, 0⟩,
  ⟨0x44010, [], 0xffffff, 0, 0, 0, 0, 0⟩,
  ⟨0x44014, [], 0, 0, 0, 0, 0, 0⟩]

/-! ### MTR -/
def Reg.MTR_CFG : Nat := 0x48000
def Reg.MTR_LEN : Nat := 0x48004
def Reg.MTR_EPOCH_LO : Nat := 0x48008
def Reg.MTR_EPOCH_HI : Nat := 0x4800c
def Reg.MTR_STATUS : Nat := 0x48010
def Reg.MTR_OPEN_IDX : Nat := 0x48020
def Reg.MTR_SNAP_FLAGS : Nat := 0x48024
def Reg.MTR_SNAP_START_LO : Nat := 0x48028
def Reg.MTR_SNAP_START_HI : Nat := 0x4802c
def Reg.MTR_SNAP_G_LO : Nat := 0x48030
def Reg.MTR_SNAP_G_HI : Nat := 0x48034
def Reg.MTR_RD_IDX : Nat := 0x48040
def Reg.MTR_RD_CTRL : Nat := 0x48044
def Reg.MTR_OPT (i : Nat) : Nat := 0x48100 + 0x4 * i
def Reg.MTR_SNAP_CNT_LO (i : Nat) : Nat := 0x48200 + 0x8 * i
def Reg.MTR_SNAP_CNT_HI (i : Nat) : Nat := 0x48204 + 0x8 * i
def Reg.MTR_RD_DATA (i : Nat) : Nat := 0x48400 + 0x4 * i
def F.MTR_CFG_EN : RF := ⟨Reg.MTR_CFG, 31, 1⟩
def F.MTR_LEN_LEN : RF := ⟨Reg.MTR_LEN, 0, 22⟩
def F.MTR_EPOCH_LO : RF := ⟨Reg.MTR_EPOCH_LO, 0, 32⟩
def F.MTR_EPOCH_HI : RF := ⟨Reg.MTR_EPOCH_HI, 0, 32⟩
def F.MTR_STATUS_TORN : RF := ⟨Reg.MTR_STATUS, 16, 16⟩
def F.MTR_STATUS_QUEUED : RF := ⟨Reg.MTR_STATUS, 1, 1⟩
def F.MTR_OPEN_IDX : RF := ⟨Reg.MTR_OPEN_IDX, 0, 32⟩
def F.MTR_SNAP_FLAGS_SAT : RF := ⟨Reg.MTR_SNAP_FLAGS, 16, 16⟩
def F.MTR_SNAP_FLAGS_TORN : RF := ⟨Reg.MTR_SNAP_FLAGS, 1, 1⟩
def F.MTR_SNAP_FLAGS_REGRESSION : RF := ⟨Reg.MTR_SNAP_FLAGS, 0, 1⟩
def F.MTR_SNAP_START_LO : RF := ⟨Reg.MTR_SNAP_START_LO, 0, 32⟩
def F.MTR_SNAP_START_HI : RF := ⟨Reg.MTR_SNAP_START_HI, 0, 32⟩
def F.MTR_SNAP_G_LO : RF := ⟨Reg.MTR_SNAP_G_LO, 0, 32⟩
def F.MTR_SNAP_G_HI : RF := ⟨Reg.MTR_SNAP_G_HI, 0, 32⟩
def F.MTR_RD_IDX : RF := ⟨Reg.MTR_RD_IDX, 0, 32⟩
def F.MTR_RD_CTRL_GO : RF := ⟨Reg.MTR_RD_CTRL, 31, 1⟩
def F.MTR_RD_CTRL_RESULT : RF := ⟨Reg.MTR_RD_CTRL, 0, 8⟩
def F.MTR_OPT_EN (i : Nat) : RF := ⟨Reg.MTR_OPT i, 31, 1⟩
def F.MTR_OPT_KIND (i : Nat) : RF := ⟨Reg.MTR_OPT i, 24, 4⟩
def F.MTR_OPT_BAYS (i : Nat) : RF := ⟨Reg.MTR_OPT i, 0, 4⟩
def F.MTR_SNAP_CNT_LO (i : Nat) : RF := ⟨Reg.MTR_SNAP_CNT_LO i, 0, 32⟩
def F.MTR_SNAP_CNT_HI (i : Nat) : RF := ⟨Reg.MTR_SNAP_CNT_HI i, 0, 32⟩
def F.MTR_RD_DATA (i : Nat) : RF := ⟨Reg.MTR_RD_DATA i, 0, 32⟩
/-- The MTR rows: base, index dimensions (count, stride), and the bit masks RW, W1C, W1S, WL, LIVE, WO1. -/
def regRowsMTR : List RegRow := [
  ⟨0x48000, [], 0, 0, 0, 0, 0, 0⟩,
  ⟨0x48004, [], 0, 0, 0, 0, 0, 0⟩,
  ⟨0x48008, [], 0, 0, 0, 0, 0, 0⟩,
  ⟨0x4800c, [], 0, 0, 0, 0, 0, 0⟩,
  ⟨0x48010, [], 0, 0, 0, 0, 0, 0⟩,
  ⟨0x48020, [], 0, 0, 0, 0, 0, 0⟩,
  ⟨0x48024, [], 0, 0, 0, 0, 0, 0⟩,
  ⟨0x48028, [], 0, 0, 0, 0, 0, 0⟩,
  ⟨0x4802c, [], 0, 0, 0, 0, 0, 0⟩,
  ⟨0x48030, [], 0, 0, 0, 0, 0, 0⟩,
  ⟨0x48034, [], 0, 0, 0, 0, 0, 0⟩,
  ⟨0x48040, [], 0xffffffff, 0, 0, 0, 0, 0⟩,
  ⟨0x48044, [], 0, 0, 0x80000000, 0, 0, 0⟩,
  ⟨0x48100, [(16, 0x4)], 0, 0, 0, 0, 0, 0⟩,
  ⟨0x48200, [(16, 0x8)], 0, 0, 0, 0, 0, 0⟩,
  ⟨0x48204, [(16, 0x8)], 0, 0, 0, 0, 0, 0⟩,
  ⟨0x48400, [(64, 0x4)], 0, 0, 0, 0, 0, 0⟩]

/-! ### NTM -/
def Reg.NTM_CFG : Nat := 0x50000
def Reg.NTM_STATUS : Nat := 0x50004
def Reg.NTM_SERVO : Nat := 0x50008
def Reg.NTM_ADJ : Nat := 0x5000c
def Reg.NTM_OFFSET : Nat := 0x50010
def Reg.NTM_TIME_NS : Nat := 0x50020
def Reg.NTM_TIME_SUB : Nat := 0x50024
def Reg.NTM_TIME_SEC_LO : Nat := 0x50028
def Reg.NTM_TIME_SEC_HI : Nat := 0x5002c
def Reg.NTM_SET_NS : Nat := 0x50030
def Reg.NTM_SET_SEC_LO : Nat := 0x50034
def Reg.NTM_SET_SEC_HI : Nat := 0x50038
def Reg.NTM_SET_CTRL : Nat := 0x5003c
def Reg.NTM_STEP : Nat := 0x50040
def Reg.NTM_GM_ID_LO : Nat := 0x50044
def Reg.NTM_GM_ID_HI : Nat := 0x50048
def Reg.NTM_PORT_CTRL (i : Nat) : Nat := 0x50080 + 0x10 * i
def Reg.NTM_PORT_PATH (i : Nat) : Nat := 0x50084 + 0x10 * i
def Reg.NTM_PORT_STATUS (i : Nat) : Nat := 0x50088 + 0x10 * i
def F.NTM_CFG_EN : RF := ⟨Reg.NTM_CFG, 31, 1⟩
def F.NTM_CFG_ROLE : RF := ⟨Reg.NTM_CFG, 28, 2⟩
def F.NTM_CFG_DOMAIN : RF := ⟨Reg.NTM_CFG, 16, 8⟩
def F.NTM_CFG_SYNC_LOG : RF := ⟨Reg.NTM_CFG, 12, 3⟩
def F.NTM_CFG_PDELAY_LOG : RF := ⟨Reg.NTM_CFG, 8, 3⟩
def F.NTM_CFG_LOSS : RF := ⟨Reg.NTM_CFG, 4, 4⟩
def F.NTM_CFG_PPS_OUT_EN : RF := ⟨Reg.NTM_CFG, 1, 1⟩
def F.NTM_CFG_PPS_IN_EN : RF := ⟨Reg.NTM_CFG, 0, 1⟩
def F.NTM_STATUS_SNAP_WRAP : RF := ⟨Reg.NTM_STATUS, 11, 1⟩
def F.NTM_STATUS_WRAP : RF := ⟨Reg.NTM_STATUS, 10, 1⟩
def F.NTM_STATUS_SET_ERR : RF := ⟨Reg.NTM_STATUS, 9, 1⟩
def F.NTM_STATUS_STEPPED : RF := ⟨Reg.NTM_STATUS, 8, 1⟩
def F.NTM_STATUS_SOURCE : RF := ⟨Reg.NTM_STATUS, 4, 1⟩
def F.NTM_STATUS_STATE : RF := ⟨Reg.NTM_STATUS, 0, 3⟩
def F.NTM_SERVO_STEP_THR : RF := ⟨Reg.NTM_SERVO, 16, 16⟩
def F.NTM_SERVO_KP : RF := ⟨Reg.NTM_SERVO, 8, 8⟩
def F.NTM_SERVO_KI : RF := ⟨Reg.NTM_SERVO, 0, 8⟩
def F.NTM_ADJ : RF := ⟨Reg.NTM_ADJ, 0, 32⟩
def F.NTM_OFFSET : RF := ⟨Reg.NTM_OFFSET, 0, 32⟩
def F.NTM_TIME_NS_NS : RF := ⟨Reg.NTM_TIME_NS, 0, 30⟩
def F.NTM_TIME_SUB_SUB : RF := ⟨Reg.NTM_TIME_SUB, 0, 16⟩
def F.NTM_TIME_SEC_LO : RF := ⟨Reg.NTM_TIME_SEC_LO, 0, 32⟩
def F.NTM_TIME_SEC_HI_SEC : RF := ⟨Reg.NTM_TIME_SEC_HI, 0, 16⟩
def F.NTM_SET_NS_NS : RF := ⟨Reg.NTM_SET_NS, 0, 30⟩
def F.NTM_SET_SEC_LO : RF := ⟨Reg.NTM_SET_SEC_LO, 0, 32⟩
def F.NTM_SET_SEC_HI_SEC : RF := ⟨Reg.NTM_SET_SEC_HI, 0, 16⟩
def F.NTM_SET_CTRL_STEP : RF := ⟨Reg.NTM_SET_CTRL, 1, 1⟩
def F.NTM_SET_CTRL_SET : RF := ⟨Reg.NTM_SET_CTRL, 0, 1⟩
def F.NTM_STEP : RF := ⟨Reg.NTM_STEP, 0, 32⟩
def F.NTM_GM_ID_LO : RF := ⟨Reg.NTM_GM_ID_LO, 0, 32⟩
def F.NTM_GM_ID_HI : RF := ⟨Reg.NTM_GM_ID_HI, 0, 32⟩
def F.NTM_PORT_CTRL_STATE (i : Nat) : RF := ⟨Reg.NTM_PORT_CTRL i, 0, 2⟩
def F.NTM_PORT_PATH (i : Nat) : RF := ⟨Reg.NTM_PORT_PATH i, 0, 32⟩
def F.NTM_PORT_STATUS_DISCARD (i : Nat) : RF := ⟨Reg.NTM_PORT_STATUS i, 16, 16⟩
/-- The NTM rows: base, index dimensions (count, stride), and the bit masks RW, W1C, W1S, WL, LIVE, WO1. -/
def regRowsNTM : List RegRow := [
  ⟨0x50000, [], 0xb0ff77f3, 0, 0, 0, 0, 0⟩,
  ⟨0x50004, [], 0, 0x700, 0, 0, 0, 0⟩,
  ⟨0x50008, [], 0xffffffff, 0, 0, 0, 0, 0⟩,
  ⟨0x5000c, [], 0, 0, 0, 0, 0, 0⟩,
  ⟨0x50010, [], 0, 0, 0, 0, 0, 0⟩,
  ⟨0x50020, [], 0, 0, 0, 0, 0, 0⟩,
  ⟨0x50024, [], 0, 0, 0, 0, 0, 0⟩,
  ⟨0x50028, [], 0, 0, 0, 0, 0, 0⟩,
  ⟨0x5002c, [], 0, 0, 0, 0, 0, 0⟩,
  ⟨0x50030, [], 0x3fffffff, 0, 0, 0, 0, 0⟩,
  ⟨0x50034, [], 0xffffffff, 0, 0, 0, 0, 0⟩,
  ⟨0x50038, [], 0xffff, 0, 0, 0, 0, 0⟩,
  ⟨0x5003c, [], 0, 0, 0x3, 0, 0, 0⟩,
  ⟨0x50040, [], 0xffffffff, 0, 0, 0, 0, 0⟩,
  ⟨0x50044, [], 0, 0, 0, 0, 0, 0⟩,
  ⟨0x50048, [], 0, 0, 0, 0, 0, 0⟩,
  ⟨0x50080, [(4, 0x10)], 0x3, 0, 0, 0, 0, 0⟩,
  ⟨0x50084, [(4, 0x10)], 0, 0, 0, 0, 0, 0⟩,
  ⟨0x50088, [(4, 0x10)], 0, 0, 0, 0, 0, 0⟩]

/-! ### CAL -/
def Reg.CAL_REF_V : Nat := 0x60000
def Reg.CAL_TREF_CFG : Nat := 0x60004
def Reg.CAL_CMD : Nat := 0x60008
def Reg.CAL_STORE_STATUS : Nat := 0x60010
def Reg.CAL_BAY_CFG (i : Nat) : Nat := 0x60100 + 0x40 * i
def Reg.CAL_BAY_STATUS (i : Nat) : Nat := 0x60104 + 0x40 * i
def Reg.CAL_BAY_TEMP (i : Nat) : Nat := 0x60108 + 0x40 * i
def Reg.CAL_BAY_TCAL (i : Nat) : Nat := 0x6010c + 0x40 * i
def Reg.CAL_BAY_GEN (i : Nat) : Nat := 0x60110 + 0x40 * i
def Reg.CAL_BAY_PEND (i : Nat) : Nat := 0x60114 + 0x40 * i
def Reg.CAL_BAY_LIM (i : Nat) : Nat := 0x60118 + 0x40 * i
def Reg.CAL_BAY_REJ (i : Nat) : Nat := 0x6011c + 0x40 * i
def Reg.CAL_BAY_FULL_SEC_LO (i : Nat) : Nat := 0x60120 + 0x40 * i
def Reg.CAL_BAY_FULL_SEC_HI (i : Nat) : Nat := 0x60124 + 0x40 * i
def F.CAL_REF_V_UV : RF := ⟨Reg.CAL_REF_V, 0, 23⟩
def F.CAL_TREF_CFG_DIV : RF := ⟨Reg.CAL_TREF_CFG, 0, 5⟩
def F.CAL_CMD_GO : RF := ⟨Reg.CAL_CMD, 31, 1⟩
def F.CAL_CMD_OP : RF := ⟨Reg.CAL_CMD, 24, 4⟩
def F.CAL_CMD_MODES : RF := ⟨Reg.CAL_CMD, 16, 2⟩
def F.CAL_CMD_SHELVES : RF := ⟨Reg.CAL_CMD, 8, 8⟩
def F.CAL_CMD_BAY : RF := ⟨Reg.CAL_CMD, 0, 2⟩
def F.CAL_STORE_STATUS_DIVERGED : RF := ⟨Reg.CAL_STORE_STATUS, 7, 1⟩
def F.CAL_STORE_STATUS_DIVERGED1 : RF := ⟨Reg.CAL_STORE_STATUS, 15, 1⟩
def F.CAL_STORE_STATUS_DIVERGED2 : RF := ⟨Reg.CAL_STORE_STATUS, 23, 1⟩
def F.CAL_STORE_STATUS_DIVERGED3 : RF := ⟨Reg.CAL_STORE_STATUS, 31, 1⟩
def F.CAL_BAY_CFG_AUTO (i : Nat) : RF := ⟨Reg.CAL_BAY_CFG i, 31, 1⟩
def F.CAL_BAY_CFG_POLICY (i : Nat) : RF := ⟨Reg.CAL_BAY_CFG i, 24, 2⟩
def F.CAL_BAY_CFG_MAX_AGE (i : Nat) : RF := ⟨Reg.CAL_BAY_CFG i, 16, 8⟩
def F.CAL_BAY_CFG_THRESH (i : Nat) : RF := ⟨Reg.CAL_BAY_CFG i, 0, 6⟩
def F.CAL_BAY_STATUS_RESULT (i : Nat) : RF := ⟨Reg.CAL_BAY_STATUS i, 24, 8⟩
def F.CAL_BAY_STATUS_STATE (i : Nat) : RF := ⟨Reg.CAL_BAY_STATUS i, 16, 3⟩
def F.CAL_BAY_STATUS_SKIPPED (i : Nat) : RF := ⟨Reg.CAL_BAY_STATUS i, 8, 8⟩
def F.CAL_BAY_STATUS_AGED (i : Nat) : RF := ⟨Reg.CAL_BAY_STATUS i, 2, 1⟩
def F.CAL_BAY_STATUS_TRIGGERED (i : Nat) : RF := ⟨Reg.CAL_BAY_STATUS i, 1, 1⟩
def F.CAL_BAY_STATUS_UNCAL (i : Nat) : RF := ⟨Reg.CAL_BAY_STATUS i, 0, 1⟩
def F.CAL_BAY_TEMP_T (i : Nat) : RF := ⟨Reg.CAL_BAY_TEMP i, 0, 16⟩
def F.CAL_BAY_TCAL_T (i : Nat) : RF := ⟨Reg.CAL_BAY_TCAL i, 0, 16⟩
def F.CAL_BAY_GEN (i : Nat) : RF := ⟨Reg.CAL_BAY_GEN i, 0, 32⟩
def F.CAL_BAY_PEND (i : Nat) : RF := ⟨Reg.CAL_BAY_PEND i, 0, 32⟩
def F.CAL_BAY_LIM_EDGE_TRK (i : Nat) : RF := ⟨Reg.CAL_BAY_LIM i, 16, 16⟩
def F.CAL_BAY_LIM_LVL_TRK (i : Nat) : RF := ⟨Reg.CAL_BAY_LIM i, 0, 16⟩
def F.CAL_BAY_REJ_ORDER (i : Nat) : RF := ⟨Reg.CAL_BAY_REJ i, 24, 8⟩
def F.CAL_BAY_REJ_MODE (i : Nat) : RF := ⟨Reg.CAL_BAY_REJ i, 16, 1⟩
def F.CAL_BAY_REJ_LOCAL (i : Nat) : RF := ⟨Reg.CAL_BAY_REJ i, 0, 8⟩
def F.CAL_BAY_FULL_SEC_LO (i : Nat) : RF := ⟨Reg.CAL_BAY_FULL_SEC_LO i, 0, 32⟩
def F.CAL_BAY_FULL_SEC_HI_SEC (i : Nat) : RF := ⟨Reg.CAL_BAY_FULL_SEC_HI i, 0, 16⟩
/-- The CAL rows: base, index dimensions (count, stride), and the bit masks RW, W1C, W1S, WL, LIVE, WO1. -/
def regRowsCAL : List RegRow := [
  ⟨0x60000, [], 0x7fffff, 0, 0, 0, 0, 0⟩,
  ⟨0x60004, [], 0x1f, 0, 0, 0, 0, 0⟩,
  ⟨0x60008, [], 0xf03ff03, 0, 0x80000000, 0, 0, 0⟩,
  ⟨0x60010, [], 0, 0x80808080, 0, 0, 0, 0⟩,
  ⟨0x60100, [(4, 0x40)], 0x83ff003f, 0, 0, 0, 0, 0⟩,
  ⟨0x60104, [(4, 0x40)], 0, 0, 0, 0, 0, 0⟩,
  ⟨0x60108, [(4, 0x40)], 0, 0, 0, 0, 0, 0⟩,
  ⟨0x6010c, [(4, 0x40)], 0, 0, 0, 0, 0, 0⟩,
  ⟨0x60110, [(4, 0x40)], 0, 0, 0, 0, 0, 0⟩,
  ⟨0x60114, [(4, 0x40)], 0, 0, 0, 0, 0, 0⟩,
  ⟨0x60118, [(4, 0x40)], 0xffffffff, 0, 0, 0, 0, 0⟩,
  ⟨0x6011c, [(4, 0x40)], 0, 0, 0, 0, 0, 0⟩,
  ⟨0x60120, [(4, 0x40)], 0, 0, 0, 0, 0, 0⟩,
  ⟨0x60124, [(4, 0x40)], 0, 0, 0, 0, 0, 0⟩]

/-! ### DBG -/
def Reg.DBG_STATUS : Nat := 0x70000
def Reg.DBG_AON_UNLOCK : Nat := 0x70004
def Reg.DBG_RDR_HALT : Nat := 0x70008
def Reg.DBG_CLK_HALT : Nat := 0x7000c
def Reg.DBG_CLK_STATUS : Nat := 0x70010
def Reg.DBG_CLK_PC (i : Nat) : Nat := 0x70040 + 0x4 * i
def F.DBG_STATUS_GATE_DAP : RF := ⟨Reg.DBG_STATUS, 3, 1⟩
def F.DBG_STATUS_UNLOCK_TMO : RF := ⟨Reg.DBG_STATUS, 2, 1⟩
def F.DBG_STATUS_DAP_USED : RF := ⟨Reg.DBG_STATUS, 1, 1⟩
def F.DBG_STATUS_DAP_EN : RF := ⟨Reg.DBG_STATUS, 0, 1⟩
def F.DBG_AON_UNLOCK_KEY : RF := ⟨Reg.DBG_AON_UNLOCK, 0, 16⟩
def F.DBG_RDR_HALT_FORCE : RF := ⟨Reg.DBG_RDR_HALT, 31, 1⟩
def F.DBG_RDR_HALT_CTX : RF := ⟨Reg.DBG_RDR_HALT, 0, 16⟩
def F.DBG_CLK_HALT_CLK : RF := ⟨Reg.DBG_CLK_HALT, 0, 16⟩
def F.DBG_CLK_STATUS_HALTED : RF := ⟨Reg.DBG_CLK_STATUS, 0, 16⟩
def F.DBG_CLK_PC (i : Nat) : RF := ⟨Reg.DBG_CLK_PC i, 0, 32⟩
/-- The DBG rows: base, index dimensions (count, stride), and the bit masks RW, W1C, W1S, WL, LIVE, WO1. -/
def regRowsDBG : List RegRow := [
  ⟨0x70000, [], 0, 0x6, 0, 0, 0, 0⟩,
  ⟨0x70004, [], 0, 0, 0xffff, 0, 0, 0⟩,
  ⟨0x70008, [], 0, 0, 0x8000ffff, 0, 0, 0⟩,
  ⟨0x7000c, [], 0xffff, 0, 0, 0, 0, 0⟩,
  ⟨0x70010, [], 0, 0, 0, 0, 0, 0⟩,
  ⟨0x70040, [(16, 0x4)], 0, 0, 0, 0, 0, 0⟩]

/-! ### IST -/
def Reg.IST_CFG : Nat := 0x78000
def Reg.IST_STATUS : Nat := 0x78004
def Reg.IST_CYCLES : Nat := 0x78008
def Reg.IST_LAST_S : Nat := 0x7800c
def Reg.IST_ABORTS : Nat := 0x78010
def Reg.IST_SKIPPED : Nat := 0x78014
def Reg.IST_FAIL : Nat := 0x78018
def F.IST_CFG_EN : RF := ⟨Reg.IST_CFG, 31, 1⟩
def F.IST_CFG_PACE : RF := ⟨Reg.IST_CFG, 16, 8⟩
def F.IST_CFG_KINDS : RF := ⟨Reg.IST_CFG, 0, 4⟩
def F.IST_STATUS_BUSY : RF := ⟨Reg.IST_STATUS, 31, 1⟩
def F.IST_STATUS_KIND : RF := ⟨Reg.IST_STATUS, 24, 4⟩
def F.IST_STATUS_PROGRESS : RF := ⟨Reg.IST_STATUS, 0, 24⟩
def F.IST_CYCLES : RF := ⟨Reg.IST_CYCLES, 0, 32⟩
def F.IST_LAST_S_S : RF := ⟨Reg.IST_LAST_S, 0, 16⟩
def F.IST_ABORTS : RF := ⟨Reg.IST_ABORTS, 0, 32⟩
def F.IST_SKIPPED_N : RF := ⟨Reg.IST_SKIPPED, 0, 16⟩
def F.IST_FAIL_VALID : RF := ⟨Reg.IST_FAIL, 31, 1⟩
def F.IST_FAIL_KIND : RF := ⟨Reg.IST_FAIL, 24, 4⟩
def F.IST_FAIL_UNIT : RF := ⟨Reg.IST_FAIL, 0, 16⟩
/-- The IST rows: base, index dimensions (count, stride), and the bit masks RW, W1C, W1S, WL, LIVE, WO1. -/
def regRowsIST : List RegRow := [
  ⟨0x78000, [], 0x80ff000f, 0, 0, 0, 0, 0⟩,
  ⟨0x78004, [], 0, 0, 0, 0, 0, 0⟩,
  ⟨0x78008, [], 0, 0, 0, 0, 0, 0⟩,
  ⟨0x7800c, [], 0, 0, 0, 0, 0, 0⟩,
  ⟨0x78010, [], 0, 0, 0, 0, 0, 0⟩,
  ⟨0x78014, [], 0, 0, 0, 0, 0, 0⟩,
  ⟨0x78018, [], 0, 0, 0, 0, 0, 0⟩]

/-! ### WKS -/
def Reg.WKS_CTRL : Nat := 0x80000
def Reg.WKS_STATUS : Nat := 0x80004
def Reg.WKS_CORE_FENCE : Nat := 0x80008
def Reg.WKS_TICK_LO : Nat := 0x80010
def Reg.WKS_TICK_HI : Nat := 0x80014
def Reg.WKS_DRAIN_THR : Nat := 0x80018
def Reg.WKS_DRAIN_EN (i : Nat) : Nat := 0x80020 + 0x4 * i
def Reg.WKS_HOST_ITEM (i : Nat) : Nat := 0x80040 + 0x4 * i
def Reg.WKS_HOST_SUBMIT : Nat := 0x80060
def Reg.WKS_HOST_CRING : Nat := 0x80064
def Reg.WKS_OBS_CTRL : Nat := 0x80070
def Reg.WKS_DEPTH (i : Nat) : Nat := 0x80080 + 0x4 * i
def Reg.WKS_WAIT_MAX (i : Nat) : Nat := 0x800a0 + 0x4 * i
def Reg.WKS_CORE_BUSY (i : Nat) : Nat := 0x80100 + 0x8 * i
def Reg.WKS_CORE_ITEMS (i : Nat) : Nat := 0x80104 + 0x8 * i
def Reg.WKS_DLOG_BASE_LO (i : Nat) : Nat := 0x80200 + 0x20 * i
def Reg.WKS_DLOG_BASE_HI (i : Nat) : Nat := 0x80204 + 0x20 * i
def Reg.WKS_DLOG_CFG (i : Nat) : Nat := 0x80208 + 0x20 * i
def Reg.WKS_DLOG_WR (i : Nat) : Nat := 0x8020c + 0x20 * i
def Reg.WKS_DLOG_RD (i : Nat) : Nat := 0x80210 + 0x20 * i
def Reg.WKS_SITE_CFG (i : Nat) : Nat := 0x80400 + 0x4 * i
def F.WKS_CTRL_EN : RF := ⟨Reg.WKS_CTRL, 0, 1⟩
def F.WKS_STATUS_STATE : RF := ⟨Reg.WKS_STATUS, 0, 3⟩
def F.WKS_CORE_FENCE_F : RF := ⟨Reg.WKS_CORE_FENCE, 0, 16⟩
def F.WKS_TICK_LO : RF := ⟨Reg.WKS_TICK_LO, 0, 32⟩
def F.WKS_TICK_HI_HI : RF := ⟨Reg.WKS_TICK_HI, 0, 16⟩
def F.WKS_DRAIN_THR_THR : RF := ⟨Reg.WKS_DRAIN_THR, 0, 16⟩
def F.WKS_DRAIN_EN_EN (i : Nat) : RF := ⟨Reg.WKS_DRAIN_EN i, 0, 21⟩
def F.WKS_HOST_ITEM (i : Nat) : RF := ⟨Reg.WKS_HOST_ITEM i, 0, 32⟩
def F.WKS_HOST_SUBMIT_GO : RF := ⟨Reg.WKS_HOST_SUBMIT, 31, 1⟩
def F.WKS_HOST_SUBMIT_RESULT : RF := ⟨Reg.WKS_HOST_SUBMIT, 0, 8⟩
def F.WKS_HOST_CRING_EN : RF := ⟨Reg.WKS_HOST_CRING, 31, 1⟩
def F.WKS_HOST_CRING_RING : RF := ⟨Reg.WKS_HOST_CRING, 0, 8⟩
def F.WKS_OBS_CTRL_SNAP : RF := ⟨Reg.WKS_OBS_CTRL, 0, 1⟩
def F.WKS_DEPTH_N (i : Nat) : RF := ⟨Reg.WKS_DEPTH i, 0, 15⟩
def F.WKS_WAIT_MAX (i : Nat) : RF := ⟨Reg.WKS_WAIT_MAX i, 0, 32⟩
def F.WKS_CORE_BUSY (i : Nat) : RF := ⟨Reg.WKS_CORE_BUSY i, 0, 32⟩
def F.WKS_CORE_ITEMS (i : Nat) : RF := ⟨Reg.WKS_CORE_ITEMS i, 0, 32⟩
def F.WKS_DLOG_BASE_LO_ADDR (i : Nat) : RF := ⟨Reg.WKS_DLOG_BASE_LO i, 12, 20⟩
def F.WKS_DLOG_BASE_HI_ADDR (i : Nat) : RF := ⟨Reg.WKS_DLOG_BASE_HI i, 0, 32⟩
def F.WKS_DLOG_CFG_EN (i : Nat) : RF := ⟨Reg.WKS_DLOG_CFG i, 31, 1⟩
def F.WKS_DLOG_CFG_BATCH (i : Nat) : RF := ⟨Reg.WKS_DLOG_CFG i, 16, 8⟩
def F.WKS_DLOG_CFG_CRING (i : Nat) : RF := ⟨Reg.WKS_DLOG_CFG i, 8, 8⟩
def F.WKS_DLOG_CFG_CHAN (i : Nat) : RF := ⟨Reg.WKS_DLOG_CFG i, 5, 3⟩
def F.WKS_DLOG_CFG_SIZE_LOG2 (i : Nat) : RF := ⟨Reg.WKS_DLOG_CFG i, 0, 5⟩
def F.WKS_DLOG_WR (i : Nat) : RF := ⟨Reg.WKS_DLOG_WR i, 0, 32⟩
def F.WKS_DLOG_RD (i : Nat) : RF := ⟨Reg.WKS_DLOG_RD i, 0, 32⟩
def F.WKS_SITE_CFG_DIGEST (i : Nat) : RF := ⟨Reg.WKS_SITE_CFG i, 31, 1⟩
def F.WKS_SITE_CFG_BIN (i : Nat) : RF := ⟨Reg.WKS_SITE_CFG i, 30, 1⟩
def F.WKS_SITE_CFG_INC_BIN (i : Nat) : RF := ⟨Reg.WKS_SITE_CFG i, 16, 8⟩
def F.WKS_SITE_CFG_FAIL_BIN (i : Nat) : RF := ⟨Reg.WKS_SITE_CFG i, 8, 8⟩
def F.WKS_SITE_CFG_PASS_BIN (i : Nat) : RF := ⟨Reg.WKS_SITE_CFG i, 0, 8⟩
/-- The WKS rows: base, index dimensions (count, stride), and the bit masks RW, W1C, W1S, WL, LIVE, WO1. -/
def regRowsWKS : List RegRow := [
  ⟨0x80000, [], 0x1, 0, 0, 0, 0, 0⟩,
  ⟨0x80004, [], 0, 0, 0, 0, 0, 0⟩,
  ⟨0x80008, [], 0, 0, 0, 0, 0, 0⟩,
  ⟨0x80010, [], 0, 0, 0, 0, 0, 0⟩,
  ⟨0x80014, [], 0, 0, 0, 0, 0, 0⟩,
  ⟨0x80018, [], 0xffff, 0, 0, 0, 0, 0⟩,
  ⟨0x80020, [(4, 0x4)], 0x1fffff, 0, 0, 0, 0, 0⟩,
  ⟨0x80040, [(8, 0x4)], 0xffffffff, 0, 0, 0, 0, 0⟩,
  ⟨0x80060, [], 0, 0, 0x80000000, 0, 0, 0⟩,
  ⟨0x80064, [], 0x800000ff, 0, 0, 0, 0, 0⟩,
  ⟨0x80070, [], 0, 0, 0x1, 0, 0, 0⟩,
  ⟨0x80080, [(8, 0x4)], 0, 0, 0, 0, 0, 0⟩,
  ⟨0x800a0, [(8, 0x4)], 0, 0, 0, 0, 0, 0⟩,
  ⟨0x80100, [(16, 0x8)], 0, 0, 0, 0, 0, 0⟩,
  ⟨0x80104, [(16, 0x8)], 0, 0, 0, 0, 0, 0⟩,
  ⟨0x80200, [(4, 0x20)], 0, 0, 0, 0xfffff000, 0, 0⟩,
  ⟨0x80204, [(4, 0x20)], 0, 0, 0, 0xffffffff, 0, 0⟩,
  ⟨0x80208, [(4, 0x20)], 0, 0, 0, 0x80ffffff, 0, 0⟩,
  ⟨0x8020c, [(4, 0x20)], 0, 0, 0, 0, 0, 0⟩,
  ⟨0x80210, [(4, 0x20)], 0xffffffff, 0, 0, 0, 0, 0⟩,
  ⟨0x80400, [(64, 0x4)], 0xc0ffffff, 0, 0, 0, 0, 0⟩]

/-! ### SPD -/
def Reg.SPD_WIN_ADDR : Nat := 0x88000
def Reg.SPD_WIN_DATA_LO : Nat := 0x88008
def Reg.SPD_WIN_DATA_HI : Nat := 0x8800c
def Reg.SPD_WIN_OP : Nat := 0x88010
def Reg.SPD_MARCH : Nat := 0x88020
def Reg.SPD_MARCH_STATUS : Nat := 0x88024
def Reg.SPD_MARCH_FAIL : Nat := 0x88028
def Reg.SPD_CNT_CORR : Nat := 0x88030
def Reg.SPD_CNT_UNC : Nat := 0x88034
def Reg.SPD_BANK (i : Nat) : Nat := 0x88100 + 0x4 * i
def F.SPD_WIN_ADDR_ADDR : RF := ⟨Reg.SPD_WIN_ADDR, 3, 21⟩
def F.SPD_WIN_DATA_LO : RF := ⟨Reg.SPD_WIN_DATA_LO, 0, 32⟩
def F.SPD_WIN_DATA_HI : RF := ⟨Reg.SPD_WIN_DATA_HI, 0, 32⟩
def F.SPD_WIN_OP_GO : RF := ⟨Reg.SPD_WIN_OP, 31, 1⟩
def F.SPD_WIN_OP_RESULT : RF := ⟨Reg.SPD_WIN_OP, 8, 8⟩
def F.SPD_WIN_OP_OP : RF := ⟨Reg.SPD_WIN_OP, 0, 2⟩
def F.SPD_MARCH_GO : RF := ⟨Reg.SPD_MARCH, 31, 1⟩
def F.SPD_MARCH_MODE : RF := ⟨Reg.SPD_MARCH, 9, 1⟩
def F.SPD_MARCH_ALG : RF := ⟨Reg.SPD_MARCH, 8, 1⟩
def F.SPD_MARCH_BANK : RF := ⟨Reg.SPD_MARCH, 0, 6⟩
def F.SPD_MARCH_STATUS_RESULT : RF := ⟨Reg.SPD_MARCH_STATUS, 24, 8⟩
def F.SPD_MARCH_STATUS_SEG : RF := ⟨Reg.SPD_MARCH_STATUS, 8, 8⟩
def F.SPD_MARCH_STATUS_BUSY : RF := ⟨Reg.SPD_MARCH_STATUS, 0, 1⟩
def F.SPD_MARCH_FAIL_ADDR : RF := ⟨Reg.SPD_MARCH_FAIL, 0, 24⟩
def F.SPD_CNT_CORR : RF := ⟨Reg.SPD_CNT_CORR, 0, 32⟩
def F.SPD_CNT_UNC : RF := ⟨Reg.SPD_CNT_UNC, 0, 32⟩
def F.SPD_BANK_USE (i : Nat) : RF := ⟨Reg.SPD_BANK i, 31, 1⟩
def F.SPD_BANK_ERR (i : Nat) : RF := ⟨Reg.SPD_BANK i, 12, 4⟩
def F.SPD_BANK_STBY (i : Nat) : RF := ⟨Reg.SPD_BANK i, 8, 1⟩
def F.SPD_BANK_REQ (i : Nat) : RF := ⟨Reg.SPD_BANK i, 4, 2⟩
def F.SPD_BANK_STATE (i : Nat) : RF := ⟨Reg.SPD_BANK i, 0, 3⟩
/-- The SPD rows: base, index dimensions (count, stride), and the bit masks RW, W1C, W1S, WL, LIVE, WO1. -/
def regRowsSPD : List RegRow := [
  ⟨0x88000, [], 0xfffff8, 0, 0, 0, 0, 0⟩,
  ⟨0x88008, [], 0xffffffff, 0, 0, 0, 0, 0⟩,
  ⟨0x8800c, [], 0xffffffff, 0, 0, 0, 0, 0⟩,
  ⟨0x88010, [], 0x3, 0, 0x80000000, 0, 0, 0⟩,
  ⟨0x88020, [], 0x33f, 0, 0x80000000, 0, 0, 0⟩,
  ⟨0x88024, [], 0, 0, 0, 0, 0, 0⟩,
  ⟨0x88028, [], 0, 0, 0, 0, 0, 0⟩,
  ⟨0x88030, [], 0, 0, 0, 0, 0, 0⟩,
  ⟨0x88034, [], 0, 0, 0, 0, 0, 0⟩,
  ⟨0x88100, [(64, 0x4)], 0x80000130, 0, 0, 0, 0, 0⟩]

/-! ### LNK -/
def Reg.LNK_PORT_CTRL (p : Nat) : Nat := 0x90000 + 0x400 * p
def Reg.LNK_PORT_CFG (p : Nat) : Nat := 0x90004 + 0x400 * p
def Reg.LNK_PORT_STATUS (p : Nat) : Nat := 0x90008 + 0x400 * p
def Reg.LNK_PORT_PEER_LO (p : Nat) : Nat := 0x9000c + 0x400 * p
def Reg.LNK_PORT_PEER_HI (p : Nat) : Nat := 0x90010 + 0x400 * p
def Reg.LNK_PORT_PEER_PORT (p : Nat) : Nat := 0x90014 + 0x400 * p
def Reg.LNK_PORT_LAT (p : Nat) : Nat := 0x90018 + 0x400 * p
def Reg.LNK_PORT_CRC (p : Nat) : Nat := 0x9001c + 0x400 * p
def Reg.LNK_PORT_REPLAY (p : Nat) : Nat := 0x90020 + 0x400 * p
def Reg.LNK_PORT_ROWERR (p : Nat) : Nat := 0x90024 + 0x400 * p
def Reg.LNK_PORT_FILL_INS (p : Nat) : Nat := 0x90028 + 0x400 * p
def Reg.LNK_PORT_FILL_DEL (p : Nat) : Nat := 0x9002c + 0x400 * p
def Reg.LNK_PORT_BAD (p : Nat) : Nat := 0x90030 + 0x400 * p
def Reg.LNK_VC_CREDIT (p v : Nat) : Nat := 0x90040 + 0x400 * p + 0x4 * v
def Reg.LNK_LANE_STATUS (p v : Nat) : Nat := 0x90100 + 0x400 * p + 0x4 * v
def Reg.LNK_DL_CFG (i : Nat) : Nat := 0x92000 + 0x100 * i
def Reg.LNK_DL_RATE (i : Nat) : Nat := 0x92004 + 0x100 * i
def Reg.LNK_DL_DSK (i : Nat) : Nat := 0x92008 + 0x100 * i
def Reg.LNK_DL_RAW_LEN (i : Nat) : Nat := 0x9200c + 0x100 * i
def Reg.LNK_DL_SLIP (i : Nat) : Nat := 0x92010 + 0x100 * i
def Reg.LNK_DL_SEARCH (i : Nat) : Nat := 0x92014 + 0x100 * i
def Reg.LNK_DL_STATUS (i : Nat) : Nat := 0x92018 + 0x100 * i
def Reg.LNK_DL_BITS_LO (i : Nat) : Nat := 0x9201c + 0x100 * i
def Reg.LNK_DL_BITS_HI (i : Nat) : Nat := 0x92020 + 0x100 * i
def Reg.LNK_DL_ERR (i : Nat) : Nat := 0x92024 + 0x100 * i
def Reg.LNK_DL_EQ (i : Nat) : Nat := 0x92028 + 0x100 * i
def Reg.LNK_DL_TXPAT (i j : Nat) : Nat := 0x94000 + 0x200 * i + 0x4 * j
def Reg.LNK_DL_EXPAT (i j : Nat) : Nat := 0x96000 + 0x200 * i + 0x4 * j
def F.LNK_PORT_CTRL_EN (p : Nat) : RF := ⟨Reg.LNK_PORT_CTRL p, 31, 1⟩
def F.LNK_PORT_CTRL_CLEAR (p : Nat) : RF := ⟨Reg.LNK_PORT_CTRL p, 2, 1⟩
def F.LNK_PORT_CTRL_FENCE (p : Nat) : RF := ⟨Reg.LNK_PORT_CTRL p, 1, 1⟩
def F.LNK_PORT_CTRL_RETRAIN (p : Nat) : RF := ⟨Reg.LNK_PORT_CTRL p, 0, 1⟩
def F.LNK_PORT_CFG_KA_EN (p : Nat) : RF := ⟨Reg.LNK_PORT_CFG p, 8, 1⟩
def F.LNK_PORT_CFG_MAXRATE (p : Nat) : RF := ⟨Reg.LNK_PORT_CFG p, 0, 3⟩
def F.LNK_PORT_STATUS_RESULT (p : Nat) : RF := ⟨Reg.LNK_PORT_STATUS p, 24, 8⟩
def F.LNK_PORT_STATUS_LOCKED (p : Nat) : RF := ⟨Reg.LNK_PORT_STATUS p, 8, 8⟩
def F.LNK_PORT_STATUS_RATE (p : Nat) : RF := ⟨Reg.LNK_PORT_STATUS p, 4, 3⟩
def F.LNK_PORT_STATUS_STATE (p : Nat) : RF := ⟨Reg.LNK_PORT_STATUS p, 0, 3⟩
def F.LNK_PORT_PEER_LO (p : Nat) : RF := ⟨Reg.LNK_PORT_PEER_LO p, 0, 32⟩
def F.LNK_PORT_PEER_HI (p : Nat) : RF := ⟨Reg.LNK_PORT_PEER_HI p, 0, 32⟩
def F.LNK_PORT_PEER_PORT_PORT (p : Nat) : RF := ⟨Reg.LNK_PORT_PEER_PORT p, 0, 2⟩
def F.LNK_PORT_LAT_LAT (p : Nat) : RF := ⟨Reg.LNK_PORT_LAT p, 0, 16⟩
def F.LNK_PORT_CRC (p : Nat) : RF := ⟨Reg.LNK_PORT_CRC p, 0, 32⟩
def F.LNK_PORT_REPLAY (p : Nat) : RF := ⟨Reg.LNK_PORT_REPLAY p, 0, 32⟩
def F.LNK_PORT_ROWERR (p : Nat) : RF := ⟨Reg.LNK_PORT_ROWERR p, 0, 32⟩
def F.LNK_PORT_FILL_INS (p : Nat) : RF := ⟨Reg.LNK_PORT_FILL_INS p, 0, 32⟩
def F.LNK_PORT_FILL_DEL (p : Nat) : RF := ⟨Reg.LNK_PORT_FILL_DEL p, 0, 32⟩
def F.LNK_PORT_BAD (p : Nat) : RF := ⟨Reg.LNK_PORT_BAD p, 0, 32⟩
def F.LNK_VC_CREDIT_ADV (p v : Nat) : RF := ⟨Reg.LNK_VC_CREDIT p v, 16, 16⟩
def F.LNK_VC_CREDIT_AVAIL (p v : Nat) : RF := ⟨Reg.LNK_VC_CREDIT p v, 0, 16⟩
def F.LNK_LANE_STATUS_SKEW (p v : Nat) : RF := ⟨Reg.LNK_LANE_STATUS p v, 8, 4⟩
def F.LNK_LANE_STATUS_LOST (p v : Nat) : RF := ⟨Reg.LNK_LANE_STATUS p v, 1, 1⟩
def F.LNK_LANE_STATUS_LOCK (p v : Nat) : RF := ⟨Reg.LNK_LANE_STATUS p v, 0, 1⟩
def F.LNK_DL_CFG_CTX (i : Nat) : RF := ⟨Reg.LNK_DL_CFG i, 28, 4⟩
def F.LNK_DL_CFG_SITE_VALID (i : Nat) : RF := ⟨Reg.LNK_DL_CFG i, 27, 1⟩
def F.LNK_DL_CFG_SITE (i : Nat) : RF := ⟨Reg.LNK_DL_CFG i, 21, 6⟩
def F.LNK_DL_CFG_INV (i : Nat) : RF := ⟨Reg.LNK_DL_CFG i, 20, 1⟩
def F.LNK_DL_CFG_IDLE_SRC (i : Nat) : RF := ⟨Reg.LNK_DL_CFG i, 18, 2⟩
def F.LNK_DL_CFG_RX_MODE (i : Nat) : RF := ⟨Reg.LNK_DL_CFG i, 8, 3⟩
def F.LNK_DL_CFG_TX_MODE (i : Nat) : RF := ⟨Reg.LNK_DL_CFG i, 0, 3⟩
def F.LNK_DL_RATE_MBPS (i : Nat) : RF := ⟨Reg.LNK_DL_RATE i, 0, 16⟩
def F.LNK_DL_DSK_DSK (i : Nat) : RF := ⟨Reg.LNK_DL_DSK i, 0, 17⟩
def F.LNK_DL_RAW_LEN_LEN (i : Nat) : RF := ⟨Reg.LNK_DL_RAW_LEN i, 0, 13⟩
def F.LNK_DL_SLIP_SLIP (i : Nat) : RF := ⟨Reg.LNK_DL_SLIP i, 0, 12⟩
def F.LNK_DL_SEARCH_GO (i : Nat) : RF := ⟨Reg.LNK_DL_SEARCH i, 31, 1⟩
def F.LNK_DL_SEARCH_RESULT (i : Nat) : RF := ⟨Reg.LNK_DL_SEARCH i, 28, 3⟩
def F.LNK_DL_SEARCH_MAX (i : Nat) : RF := ⟨Reg.LNK_DL_SEARCH i, 16, 12⟩
def F.LNK_DL_SEARCH_WINDOW (i : Nat) : RF := ⟨Reg.LNK_DL_SEARCH i, 0, 16⟩
def F.LNK_DL_STATUS_UNLOCK (i : Nat) : RF := ⟨Reg.LNK_DL_STATUS i, 8, 1⟩
def F.LNK_DL_STATUS_PRBS_LOCK (i : Nat) : RF := ⟨Reg.LNK_DL_STATUS i, 1, 1⟩
def F.LNK_DL_STATUS_CDR_LOCK (i : Nat) : RF := ⟨Reg.LNK_DL_STATUS i, 0, 1⟩
def F.LNK_DL_BITS_LO (i : Nat) : RF := ⟨Reg.LNK_DL_BITS_LO i, 0, 32⟩
def F.LNK_DL_BITS_HI_WRAP (i : Nat) : RF := ⟨Reg.LNK_DL_BITS_HI i, 31, 1⟩
def F.LNK_DL_BITS_HI_HI (i : Nat) : RF := ⟨Reg.LNK_DL_BITS_HI i, 0, 16⟩
def F.LNK_DL_ERR_ERR (i : Nat) : RF := ⟨Reg.LNK_DL_ERR i, 0, 32⟩
def F.LNK_DL_EQ_POST (i : Nat) : RF := ⟨Reg.LNK_DL_EQ i, 8, 4⟩
def F.LNK_DL_EQ_SWING (i : Nat) : RF := ⟨Reg.LNK_DL_EQ i, 0, 4⟩
def F.LNK_DL_TXPAT (i j : Nat) : RF := ⟨Reg.LNK_DL_TXPAT i j, 0, 32⟩
def F.LNK_DL_EXPAT (i j : Nat) : RF := ⟨Reg.LNK_DL_EXPAT i j, 0, 32⟩
/-- The LNK rows: base, index dimensions (count, stride), and the bit masks RW, W1C, W1S, WL, LIVE, WO1. -/
def regRowsLNK : List RegRow := [
  ⟨0x90000, [(4, 0x400)], 0x80000000, 0, 0x7, 0, 0, 0⟩,
  ⟨0x90004, [(4, 0x400)], 0x107, 0, 0, 0, 0, 0⟩,
  ⟨0x90008, [(4, 0x400)], 0, 0, 0, 0, 0, 0⟩,
  ⟨0x9000c, [(4, 0x400)], 0, 0, 0, 0, 0, 0⟩,
  ⟨0x90010, [(4, 0x400)], 0, 0, 0, 0, 0, 0⟩,
  ⟨0x90014, [(4, 0x400)], 0, 0, 0, 0, 0, 0⟩,
  ⟨0x90018, [(4, 0x400)], 0, 0, 0, 0, 0, 0⟩,
  ⟨0x9001c, [(4, 0x400)], 0, 0, 0, 0, 0, 0⟩,
  ⟨0x90020, [(4, 0x400)], 0, 0, 0, 0, 0, 0⟩,
  ⟨0x90024, [(4, 0x400)], 0, 0, 0, 0, 0, 0⟩,
  ⟨0x90028, [(4, 0x400)], 0, 0, 0, 0, 0, 0⟩,
  ⟨0x9002c, [(4, 0x400)], 0, 0, 0, 0, 0, 0⟩,
  ⟨0x90030, [(4, 0x400)], 0, 0, 0, 0, 0, 0⟩,
  ⟨0x90040, [(4, 0x400), (4, 0x4)], 0, 0, 0, 0xffff0000, 0, 0⟩,
  ⟨0x90100, [(4, 0x400), (8, 0x4)], 0, 0x2, 0, 0, 0, 0⟩,
  ⟨0x92000, [(16, 0x100)], 0, 0, 0, 0xfffc0707, 0, 0⟩,
  ⟨0x92004, [(16, 0x100)], 0, 0, 0, 0xffff, 0, 0⟩,
  ⟨0x92008, [(16, 0x100)], 0, 0, 0, 0x1ffff, 0, 0⟩,
  ⟨0x9200c, [(16, 0x100)], 0, 0, 0, 0x1fff, 0, 0⟩,
  ⟨0x92010, [(16, 0x100)], 0, 0, 0, 0xfff, 0, 0⟩,
  ⟨0x92014, [(16, 0x100)], 0xfffffff, 0, 0x80000000, 0, 0, 0⟩,
  ⟨0x92018, [(16, 0x100)], 0, 0x100, 0, 0, 0, 0⟩,
  ⟨0x9201c, [(16, 0x100)], 0, 0, 0, 0, 0, 0⟩,
  ⟨0x92020, [(16, 0x100)], 0, 0, 0, 0, 0, 0⟩,
  ⟨0x92024, [(16, 0x100)], 0, 0, 0, 0, 0, 0⟩,
  ⟨0x92028, [(16, 0x100)], 0xf0f, 0, 0, 0, 0, 0⟩,
  ⟨0x94000, [(16, 0x200), (128, 0x4)], 0xffffffff, 0, 0, 0, 0, 0⟩,
  ⟨0x96000, [(16, 0x200), (128, 0x4)], 0xffffffff, 0, 0, 0, 0, 0⟩]

/-! ### GRP -/
def Reg.GRP_CTRL : Nat := 0xa0000
def Reg.GRP_CFG : Nat := 0xa0004
def Reg.GRP_CTX : Nat := 0xa0008
def Reg.GRP_MEMBERS : Nat := 0xa000c
def Reg.GRP_LINK : Nat := 0xa0010
def Reg.GRP_SYNC : Nat := 0xa0014
def Reg.GRP_OFFSET : Nat := 0xa0018
def Reg.GRP_HB : Nat := 0xa001c
def Reg.GRP_SPLIT_TMO : Nat := 0xa0020
def Reg.GRP_STATUS : Nat := 0xa0024
def Reg.GRP_ARM_STATUS : Nat := 0xa0028
def Reg.GRP_HMIN : Nat := 0xa002c
def Reg.GRP_DIGEST : Nat := 0xa0030
def Reg.GRP_ROUTE_VIOL : Nat := 0xa0034
def Reg.GRP_FTRIG_SW : Nat := 0xa0038
def Reg.GRP_ROUTE (i : Nat) : Nat := 0xa0040 + 0x4 * i
def Reg.GRP_PORT (i : Nat) : Nat := 0xa0080 + 0x4 * i
def Reg.GRP_FTRIG (i : Nat) : Nat := 0xa00c0 + 0x4 * i
def Reg.GRP_GSITE (i : Nat) : Nat := 0xa0200 + 0x4 * i
def F.GRP_CTRL_DECLINE : RF := ⟨Reg.GRP_CTRL, 5, 1⟩
def F.GRP_CTRL_CONFIRM : RF := ⟨Reg.GRP_CTRL, 4, 1⟩
def F.GRP_CTRL_DISARM : RF := ⟨Reg.GRP_CTRL, 3, 1⟩
def F.GRP_CTRL_RESUME : RF := ⟨Reg.GRP_CTRL, 2, 1⟩
def F.GRP_CTRL_START : RF := ⟨Reg.GRP_CTRL, 1, 1⟩
def F.GRP_CTRL_ARM : RF := ⟨Reg.GRP_CTRL, 0, 1⟩
def F.GRP_CFG_EN : RF := ⟨Reg.GRP_CFG, 31, 1⟩
def F.GRP_CFG_ROOT : RF := ⟨Reg.GRP_CFG, 30, 1⟩
def F.GRP_CFG_SELF : RF := ⟨Reg.GRP_CFG, 24, 4⟩
def F.GRP_CFG_START_EVT_EN : RF := ⟨Reg.GRP_CFG, 20, 1⟩
def F.GRP_CFG_START_EVT : RF := ⟨Reg.GRP_CFG, 16, 4⟩
def F.GRP_CFG_H : RF := ⟨Reg.GRP_CFG, 0, 11⟩
def F.GRP_CTX_CTX : RF := ⟨Reg.GRP_CTX, 0, 16⟩
def F.GRP_MEMBERS_M : RF := ⟨Reg.GRP_MEMBERS, 0, 16⟩
def F.GRP_LINK_DATELINE : RF := ⟨Reg.GRP_LINK, 8, 2⟩
def F.GRP_LINK_RING : RF := ⟨Reg.GRP_LINK, 7, 1⟩
def F.GRP_LINK_VC0_MAX : RF := ⟨Reg.GRP_LINK, 0, 7⟩
def F.GRP_SYNC_OUT_EN : RF := ⟨Reg.GRP_SYNC, 31, 1⟩
def F.GRP_SYNC_PER : RF := ⟨Reg.GRP_SYNC, 0, 24⟩
def F.GRP_OFFSET_OFF : RF := ⟨Reg.GRP_OFFSET, 0, 21⟩
def F.GRP_HB_LIMIT : RF := ⟨Reg.GRP_HB, 16, 16⟩
def F.GRP_HB_PER : RF := ⟨Reg.GRP_HB, 0, 16⟩
def F.GRP_SPLIT_TMO_MS : RF := ⟨Reg.GRP_SPLIT_TMO, 0, 24⟩
def F.GRP_STATUS_RESULT : RF := ⟨Reg.GRP_STATUS, 24, 8⟩
def F.GRP_STATUS_CAUSE : RF := ⟨Reg.GRP_STATUS, 8, 4⟩
def F.GRP_STATUS_CMD_ERR : RF := ⟨Reg.GRP_STATUS, 4, 1⟩
def F.GRP_STATUS_STATE : RF := ⟨Reg.GRP_STATUS, 0, 3⟩
def F.GRP_ARM_STATUS_DETAIL : RF := ⟨Reg.GRP_ARM_STATUS, 16, 16⟩
def F.GRP_ARM_STATUS_MEMBER : RF := ⟨Reg.GRP_ARM_STATUS, 8, 4⟩
def F.GRP_ARM_STATUS_REASON : RF := ⟨Reg.GRP_ARM_STATUS, 0, 8⟩
def F.GRP_HMIN_W : RF := ⟨Reg.GRP_HMIN, 16, 16⟩
def F.GRP_HMIN_HMIN : RF := ⟨Reg.GRP_HMIN, 0, 11⟩
def F.GRP_DIGEST : RF := ⟨Reg.GRP_DIGEST, 0, 32⟩
def F.GRP_ROUTE_VIOL : RF := ⟨Reg.GRP_ROUTE_VIOL, 0, 32⟩
def F.GRP_FTRIG_SW_LINES : RF := ⟨Reg.GRP_FTRIG_SW, 0, 16⟩
def F.GRP_ROUTE_VALID (i : Nat) : RF := ⟨Reg.GRP_ROUTE i, 31, 1⟩
def F.GRP_ROUTE_PORT (i : Nat) : RF := ⟨Reg.GRP_ROUTE i, 0, 2⟩
def F.GRP_PORT_ROLE (i : Nat) : RF := ⟨Reg.GRP_PORT i, 0, 2⟩
def F.GRP_FTRIG_EN (i : Nat) : RF := ⟨Reg.GRP_FTRIG i, 31, 1⟩
def F.GRP_FTRIG_SRC (i : Nat) : RF := ⟨Reg.GRP_FTRIG i, 0, 6⟩
def F.GRP_GSITE_VALID (i : Nat) : RF := ⟨Reg.GRP_GSITE i, 31, 1⟩
def F.GRP_GSITE_GSITE (i : Nat) : RF := ⟨Reg.GRP_GSITE i, 0, 10⟩
/-- The GRP rows: base, index dimensions (count, stride), and the bit masks RW, W1C, W1S, WL, LIVE, WO1. -/
def regRowsGRP : List RegRow := [
  ⟨0xa0000, [], 0, 0, 0x3f, 0, 0, 0⟩,
  ⟨0xa0004, [], 0, 0, 0, 0xcf1f07ff, 0, 0⟩,
  ⟨0xa0008, [], 0, 0, 0, 0xffff, 0, 0⟩,
  ⟨0xa000c, [], 0, 0, 0, 0xffff, 0, 0⟩,
  ⟨0xa0010, [], 0, 0, 0, 0x3ff, 0, 0⟩,
  ⟨0xa0014, [], 0, 0, 0, 0x80ffffff, 0, 0⟩,
  ⟨0xa0018, [], 0, 0, 0, 0x1fffff, 0, 0⟩,
  ⟨0xa001c, [], 0, 0, 0, 0xffffffff, 0, 0⟩,
  ⟨0xa0020, [], 0, 0, 0, 0xffffff, 0, 0⟩,
  ⟨0xa0024, [], 0, 0x10, 0, 0, 0, 0⟩,
  ⟨0xa0028, [], 0, 0, 0, 0, 0, 0⟩,
  ⟨0xa002c, [], 0, 0, 0, 0, 0, 0⟩,
  ⟨0xa0030, [], 0, 0, 0, 0, 0, 0⟩,
  ⟨0xa0034, [], 0, 0, 0, 0, 0, 0⟩,
  ⟨0xa0038, [], 0, 0, 0xffff, 0, 0, 0⟩,
  ⟨0xa0040, [(16, 0x4)], 0, 0, 0, 0x80000003, 0, 0⟩,
  ⟨0xa0080, [(4, 0x4)], 0, 0, 0, 0x3, 0, 0⟩,
  ⟨0xa00c0, [(16, 0x4)], 0, 0, 0, 0x8000003f, 0, 0⟩,
  ⟨0xa0200, [(64, 0x4)], 0, 0, 0, 0x800003ff, 0, 0⟩]

/-! ### STK -/
def Reg.STK_CFG : Nat := 0xb0000
def Reg.STK_LOG_HEAD : Nat := 0xb0004
def Reg.STK_LOG_TAIL : Nat := 0xb0008
def Reg.STK_LOG_STATUS : Nat := 0xb000c
def Reg.STK_CTRL (i : Nat) : Nat := 0xb0100 + 0x100 * i
def Reg.STK_STATE (i : Nat) : Nat := 0xb0104 + 0x100 * i
def Reg.STK_MAP_LO (i : Nat) : Nat := 0xb0108 + 0x100 * i
def Reg.STK_MAP_HI (i : Nat) : Nat := 0xb010c + 0x100 * i
def Reg.STK_PCP (i : Nat) : Nat := 0xb0110 + 0x100 * i
def Reg.STK_REF (i : Nat) : Nat := 0xb0114 + 0x100 * i
def Reg.STK_RD (i : Nat) : Nat := 0xb0118 + 0x100 * i
def Reg.STK_FREQ (i : Nat) : Nat := 0xb011c + 0x100 * i
def Reg.STK_TS_A (i : Nat) : Nat := 0xb0120 + 0x100 * i
def Reg.STK_TS_B (i : Nat) : Nat := 0xb0124 + 0x100 * i
def Reg.STK_RSV_LDG (i : Nat) : Nat := 0xb0128 + 0x100 * i
def Reg.STK_RSV_RDR (i : Nat) : Nat := 0xb012c + 0x100 * i
def Reg.STK_RSV_STG (i : Nat) : Nat := 0xb0130 + 0x100 * i
def Reg.STK_RSV_PEER (i : Nat) : Nat := 0xb0134 + 0x100 * i
def Reg.STK_CNT_DIE (i : Nat) : Nat := 0xb0140 + 0x100 * i
def Reg.STK_CNT_CORR (i : Nat) : Nat := 0xb0144 + 0x100 * i
def Reg.STK_CNT_UNC (i : Nat) : Nat := 0xb0148 + 0x100 * i
def Reg.STK_CNT_DIRREF (i : Nat) : Nat := 0xb014c + 0x100 * i
def Reg.STK_CNT_THROTTLE (i : Nat) : Nat := 0xb0150 + 0x100 * i
def Reg.STK_MIR_BASE (i : Nat) : Nat := 0xb0400 + 0x10 * i
def Reg.STK_MIR_SIZE (i : Nat) : Nat := 0xb0404 + 0x10 * i
def Reg.STK_MIR_STATUS (i : Nat) : Nat := 0xb0408 + 0x10 * i
def Reg.STK_LOG (i : Nat) : Nat := 0xb0800 + 0x4 * i
def F.STK_CFG_SCRUB_H : RF := ⟨Reg.STK_CFG, 0, 8⟩
def F.STK_LOG_HEAD_IDX : RF := ⟨Reg.STK_LOG_HEAD, 0, 7⟩
def F.STK_LOG_TAIL_IDX : RF := ⟨Reg.STK_LOG_TAIL, 0, 7⟩
def F.STK_LOG_STATUS_CLR : RF := ⟨Reg.STK_LOG_STATUS, 31, 1⟩
def F.STK_LOG_STATUS_DROPPED : RF := ⟨Reg.STK_LOG_STATUS, 0, 16⟩
def F.STK_CTRL_CLR_CNT (i : Nat) : RF := ⟨Reg.STK_CTRL i, 2, 1⟩
def F.STK_CTRL_RETRAIN (i : Nat) : RF := ⟨Reg.STK_CTRL i, 1, 1⟩
def F.STK_CTRL_FENCE (i : Nat) : RF := ⟨Reg.STK_CTRL i, 0, 1⟩
def F.STK_STATE_RESULT (i : Nat) : RF := ⟨Reg.STK_STATE i, 24, 8⟩
def F.STK_STATE_CAUSE (i : Nat) : RF := ⟨Reg.STK_STATE i, 12, 4⟩
def F.STK_STATE_CONTENTS (i : Nat) : RF := ⟨Reg.STK_STATE i, 8, 1⟩
def F.STK_STATE_RATE (i : Nat) : RF := ⟨Reg.STK_STATE i, 4, 2⟩
def F.STK_STATE_STATE (i : Nat) : RF := ⟨Reg.STK_STATE i, 0, 3⟩
def F.STK_MAP_LO_SEL4 (i : Nat) : RF := ⟨Reg.STK_MAP_LO i, 24, 6⟩
def F.STK_MAP_LO_SEL3 (i : Nat) : RF := ⟨Reg.STK_MAP_LO i, 18, 6⟩
def F.STK_MAP_LO_SEL2 (i : Nat) : RF := ⟨Reg.STK_MAP_LO i, 12, 6⟩
def F.STK_MAP_LO_SEL1 (i : Nat) : RF := ⟨Reg.STK_MAP_LO i, 6, 6⟩
def F.STK_MAP_LO_SEL0 (i : Nat) : RF := ⟨Reg.STK_MAP_LO i, 0, 6⟩
def F.STK_MAP_HI_SEL5 (i : Nat) : RF := ⟨Reg.STK_MAP_HI i, 0, 6⟩
def F.STK_PCP_MODE (i : Nat) : RF := ⟨Reg.STK_PCP i, 8, 2⟩
def F.STK_PCP_HOLD (i : Nat) : RF := ⟨Reg.STK_PCP i, 0, 8⟩
def F.STK_REF_OVERTEMP (i : Nat) : RF := ⟨Reg.STK_REF i, 8, 1⟩
def F.STK_REF_HOT (i : Nat) : RF := ⟨Reg.STK_REF i, 4, 1⟩
def F.STK_REF_POSTPONED (i : Nat) : RF := ⟨Reg.STK_REF i, 0, 4⟩
def F.STK_RD_THRESH (i : Nat) : RF := ⟨Reg.STK_RD i, 16, 16⟩
def F.STK_RD_GAP (i : Nat) : RF := ⟨Reg.STK_RD i, 0, 8⟩
def F.STK_FREQ_RESULT (i : Nat) : RF := ⟨Reg.STK_FREQ i, 16, 8⟩
def F.STK_FREQ_ACTIVE (i : Nat) : RF := ⟨Reg.STK_FREQ i, 12, 1⟩
def F.STK_FREQ_GO (i : Nat) : RF := ⟨Reg.STK_FREQ i, 8, 1⟩
def F.STK_FREQ_WHEN (i : Nat) : RF := ⟨Reg.STK_FREQ i, 4, 1⟩
def F.STK_FREQ_TARGET (i : Nat) : RF := ⟨Reg.STK_FREQ i, 0, 1⟩
def F.STK_TS_A_RATE (i : Nat) : RF := ⟨Reg.STK_TS_A i, 0, 2⟩
def F.STK_TS_B_RATE (i : Nat) : RF := ⟨Reg.STK_TS_B i, 0, 2⟩
def F.STK_RSV_LDG_R (i : Nat) : RF := ⟨Reg.STK_RSV_LDG i, 0, 16⟩
def F.STK_RSV_RDR_R (i : Nat) : RF := ⟨Reg.STK_RSV_RDR i, 0, 16⟩
def F.STK_RSV_STG_R (i : Nat) : RF := ⟨Reg.STK_RSV_STG i, 0, 16⟩
def F.STK_RSV_PEER_R (i : Nat) : RF := ⟨Reg.STK_RSV_PEER i, 0, 16⟩
def F.STK_CNT_DIE (i : Nat) : RF := ⟨Reg.STK_CNT_DIE i, 0, 32⟩
def F.STK_CNT_CORR (i : Nat) : RF := ⟨Reg.STK_CNT_CORR i, 0, 32⟩
def F.STK_CNT_UNC (i : Nat) : RF := ⟨Reg.STK_CNT_UNC i, 0, 32⟩
def F.STK_CNT_DIRREF (i : Nat) : RF := ⟨Reg.STK_CNT_DIRREF i, 0, 32⟩
def F.STK_CNT_THROTTLE (i : Nat) : RF := ⟨Reg.STK_CNT_THROTTLE i, 0, 32⟩
def F.STK_MIR_BASE_EN (i : Nat) : RF := ⟨Reg.STK_MIR_BASE i, 31, 1⟩
def F.STK_MIR_BASE_BASE (i : Nat) : RF := ⟨Reg.STK_MIR_BASE i, 0, 15⟩
def F.STK_MIR_SIZE_SIZE (i : Nat) : RF := ⟨Reg.STK_MIR_SIZE i, 0, 15⟩
def F.STK_MIR_STATUS_SYNC (i : Nat) : RF := ⟨Reg.STK_MIR_STATUS i, 31, 1⟩
def F.STK_MIR_STATUS_ROWS (i : Nat) : RF := ⟨Reg.STK_MIR_STATUS i, 0, 15⟩
def F.STK_LOG (i : Nat) : RF := ⟨Reg.STK_LOG i, 0, 32⟩
/-- The STK rows: base, index dimensions (count, stride), and the bit masks RW, W1C, W1S, WL, LIVE, WO1. -/
def regRowsSTK : List RegRow := [
  ⟨0xb0000, [], 0xff, 0, 0, 0, 0, 0⟩,
  ⟨0xb0004, [], 0, 0, 0, 0, 0, 0⟩,
  ⟨0xb0008, [], 0x7f, 0, 0, 0, 0, 0⟩,
  ⟨0xb000c, [], 0, 0, 0x80000000, 0, 0, 0⟩,
  ⟨0xb0100, [(2, 0x100)], 0, 0, 0x7, 0, 0, 0⟩,
  ⟨0xb0104, [(2, 0x100)], 0, 0, 0, 0, 0, 0⟩,
  ⟨0xb0108, [(2, 0x100)], 0, 0, 0, 0x3fffffff, 0, 0⟩,
  ⟨0xb010c, [(2, 0x100)], 0, 0, 0, 0x3f, 0, 0⟩,
  ⟨0xb0110, [(2, 0x100)], 0x3ff, 0, 0, 0, 0, 0⟩,
  ⟨0xb0114, [(2, 0x100)], 0, 0x100, 0, 0, 0, 0⟩,
  ⟨0xb0118, [(2, 0x100)], 0xffff00ff, 0, 0, 0, 0, 0⟩,
  ⟨0xb011c, [(2, 0x100)], 0x11, 0, 0x100, 0, 0, 0⟩,
  ⟨0xb0120, [(2, 0x100)], 0x3, 0, 0, 0, 0, 0⟩,
  ⟨0xb0124, [(2, 0x100)], 0x3, 0, 0, 0, 0, 0⟩,
  ⟨0xb0128, [(2, 0x100)], 0, 0, 0, 0xffff, 0, 0⟩,
  ⟨0xb012c, [(2, 0x100)], 0, 0, 0, 0, 0, 0⟩,
  ⟨0xb0130, [(2, 0x100)], 0, 0, 0, 0, 0, 0⟩,
  ⟨0xb0134, [(2, 0x100)], 0, 0, 0, 0, 0, 0⟩,
  ⟨0xb0140, [(2, 0x100)], 0, 0, 0, 0, 0, 0⟩,
  ⟨0xb0144, [(2, 0x100)], 0, 0, 0, 0, 0, 0⟩,
  ⟨0xb0148, [(2, 0x100)], 0, 0, 0, 0, 0, 0⟩,
  ⟨0xb014c, [(2, 0x100)], 0, 0, 0, 0, 0, 0⟩,
  ⟨0xb0150, [(2, 0x100)], 0, 0, 0, 0, 0, 0⟩,
  ⟨0xb0400, [(8, 0x10)], 0x80007fff, 0, 0, 0, 0, 0⟩,
  ⟨0xb0404, [(8, 0x10)], 0x7fff, 0, 0, 0, 0, 0⟩,
  ⟨0xb0408, [(8, 0x10)], 0, 0, 0, 0, 0, 0⟩,
  ⟨0xb0800, [(512, 0x4)], 0, 0, 0, 0, 0, 0⟩]

/-! ### LIB -/
def Reg.LIB_CAT_BASE_LO : Nat := 0xc0000
def Reg.LIB_CAT_BASE_HI : Nat := 0xc0004
def Reg.LIB_CAT_CFG : Nat := 0xc0008
def Reg.LIB_STATUS : Nat := 0xc000c
def Reg.LIB_CMD_OP : Nat := 0xc0020
def Reg.LIB_CMD_CN : Nat := 0xc0024
def Reg.LIB_CMD_TGT : Nat := 0xc0028
def Reg.LIB_CMD_STATUS : Nat := 0xc002c
def Reg.LIB_CMD_PARTS : Nat := 0xc0030
def Reg.LIB_CMD_FAILS : Nat := 0xc0034
def Reg.LIB_HOST_LAT (i : Nat) : Nat := 0xc0080 + 0x4 * i
def Reg.LIB_PEER_LAT (i : Nat) : Nat := 0xc00c0 + 0x4 * i
def Reg.LIB_CONC_ID (i : Nat) : Nat := 0xc0100 + 0x4 * i
def Reg.LIB_CONC_ADDR_LO : Nat := 0xc0110
def Reg.LIB_CONC_ADDR_HI : Nat := 0xc0114
def Reg.LIB_CONC_CMD : Nat := 0xc0118
def Reg.LIB_CONC_STATUS : Nat := 0xc011c
def Reg.LIB_CTX_RSV (i : Nat) : Nat := 0xc0200 + 0x20 * i
def Reg.LIB_CTX_PF (i : Nat) : Nat := 0xc0204 + 0x20 * i
def Reg.LIB_STAGE_LO (i : Nat) : Nat := 0xc0208 + 0x20 * i
def Reg.LIB_STAGE_HI (i : Nat) : Nat := 0xc020c + 0x20 * i
def Reg.LIB_STAGE_SIZE (i : Nat) : Nat := 0xc0210 + 0x20 * i
def Reg.LIB_CTX_STATUS (i : Nat) : Nat := 0xc0214 + 0x20 * i
def F.LIB_CAT_BASE_LO_ADDR : RF := ⟨Reg.LIB_CAT_BASE_LO, 6, 26⟩
def F.LIB_CAT_BASE_HI_ADDR : RF := ⟨Reg.LIB_CAT_BASE_HI, 0, 20⟩
def F.LIB_CAT_CFG_MIRROR : RF := ⟨Reg.LIB_CAT_CFG, 8, 1⟩
def F.LIB_CAT_CFG_SIZE_LOG2 : RF := ⟨Reg.LIB_CAT_CFG, 0, 5⟩
def F.LIB_STATUS_TABLE_ERR : RF := ⟨Reg.LIB_STATUS, 2, 1⟩
def F.LIB_STATUS_RSV_OVER : RF := ⟨Reg.LIB_STATUS, 1, 1⟩
def F.LIB_STATUS_ENTRY_BAD : RF := ⟨Reg.LIB_STATUS, 0, 1⟩
def F.LIB_CMD_OP_GO : RF := ⟨Reg.LIB_CMD_OP, 31, 1⟩
def F.LIB_CMD_OP_OP : RF := ⟨Reg.LIB_CMD_OP, 0, 8⟩
def F.LIB_CMD_CN : RF := ⟨Reg.LIB_CMD_CN, 0, 32⟩
def F.LIB_CMD_TGT_TARGETS : RF := ⟨Reg.LIB_CMD_TGT, 0, 18⟩
def F.LIB_CMD_STATUS_IN_USE : RF := ⟨Reg.LIB_CMD_STATUS, 8, 1⟩
def F.LIB_CMD_STATUS_RESULT : RF := ⟨Reg.LIB_CMD_STATUS, 0, 8⟩
def F.LIB_CMD_PARTS_PARTS : RF := ⟨Reg.LIB_CMD_PARTS, 0, 18⟩
def F.LIB_CMD_FAILS_FAILS : RF := ⟨Reg.LIB_CMD_FAILS, 0, 18⟩
def F.LIB_HOST_LAT_LAT (i : Nat) : RF := ⟨Reg.LIB_HOST_LAT i, 0, 16⟩
def F.LIB_PEER_LAT_LAT (i : Nat) : RF := ⟨Reg.LIB_PEER_LAT i, 0, 16⟩
def F.LIB_CONC_ID (i : Nat) : RF := ⟨Reg.LIB_CONC_ID i, 0, 32⟩
def F.LIB_CONC_ADDR_LO_ADDR : RF := ⟨Reg.LIB_CONC_ADDR_LO, 6, 26⟩
def F.LIB_CONC_ADDR_HI_ADDR : RF := ⟨Reg.LIB_CONC_ADDR_HI, 0, 20⟩
def F.LIB_CONC_CMD_BAYS : RF := ⟨Reg.LIB_CONC_CMD, 4, 4⟩
def F.LIB_CONC_CMD_GO : RF := ⟨Reg.LIB_CONC_CMD, 0, 1⟩
def F.LIB_CONC_STATUS_RESULT : RF := ⟨Reg.LIB_CONC_STATUS, 0, 8⟩
def F.LIB_CTX_RSV_FABRIC (i : Nat) : RF := ⟨Reg.LIB_CTX_RSV i, 16, 16⟩
def F.LIB_CTX_RSV_HOST (i : Nat) : RF := ⟨Reg.LIB_CTX_RSV i, 0, 16⟩
def F.LIB_CTX_PF_DEPTH (i : Nat) : RF := ⟨Reg.LIB_CTX_PF i, 0, 17⟩
def F.LIB_STAGE_LO_ADDR (i : Nat) : RF := ⟨Reg.LIB_STAGE_LO i, 20, 12⟩
def F.LIB_STAGE_HI_ADDR (i : Nat) : RF := ⟨Reg.LIB_STAGE_HI i, 0, 20⟩
def F.LIB_STAGE_SIZE_MIB (i : Nat) : RF := ⟨Reg.LIB_STAGE_SIZE i, 0, 11⟩
def F.LIB_CTX_STATUS_CAUSE (i : Nat) : RF := ⟨Reg.LIB_CTX_STATUS i, 28, 4⟩
def F.LIB_CTX_STATUS_STAGED (i : Nat) : RF := ⟨Reg.LIB_CTX_STATUS i, 0, 17⟩
/-- The LIB rows: base, index dimensions (count, stride), and the bit masks RW, W1C, W1S, WL, LIVE, WO1. -/
def regRowsLIB : List RegRow := [
  ⟨0xc0000, [], 0, 0, 0, 0xffffffc0, 0, 0⟩,
  ⟨0xc0004, [], 0, 0, 0, 0xfffff, 0, 0⟩,
  ⟨0xc0008, [], 0, 0, 0, 0x11f, 0, 0⟩,
  ⟨0xc000c, [], 0, 0x7, 0, 0, 0, 0⟩,
  ⟨0xc0020, [], 0xff, 0, 0x80000000, 0, 0, 0⟩,
  ⟨0xc0024, [], 0xffffffff, 0, 0, 0, 0, 0⟩,
  ⟨0xc0028, [], 0x3ffff, 0, 0, 0, 0, 0⟩,
  ⟨0xc002c, [], 0, 0, 0, 0, 0, 0⟩,
  ⟨0xc0030, [], 0, 0, 0, 0, 0, 0⟩,
  ⟨0xc0034, [], 0, 0, 0, 0, 0, 0⟩,
  ⟨0xc0080, [(16, 0x4)], 0xffff, 0, 0, 0, 0, 0⟩,
  ⟨0xc00c0, [(16, 0x4)], 0, 0, 0, 0, 0, 0⟩,
  ⟨0xc0100, [(4, 0x4)], 0, 0, 0, 0, 0, 0⟩,
  ⟨0xc0110, [], 0xffffffc0, 0, 0, 0, 0, 0⟩,
  ⟨0xc0114, [], 0xfffff, 0, 0, 0, 0, 0⟩,
  ⟨0xc0118, [], 0xf0, 0, 0x1, 0, 0, 0⟩,
  ⟨0xc011c, [], 0, 0, 0, 0, 0, 0⟩,
  ⟨0xc0200, [(16, 0x20)], 0, 0, 0, 0xffffffff, 0, 0⟩,
  ⟨0xc0204, [(16, 0x20)], 0, 0, 0, 0x1ffff, 0, 0⟩,
  ⟨0xc0208, [(16, 0x20)], 0, 0, 0, 0xfff00000, 0, 0⟩,
  ⟨0xc020c, [(16, 0x20)], 0, 0, 0, 0xfffff, 0, 0⟩,
  ⟨0xc0210, [(16, 0x20)], 0, 0, 0, 0x7ff, 0, 0⟩,
  ⟨0xc0214, [(16, 0x20)], 0, 0, 0, 0, 0, 0⟩]

/-! ### TIM -/
def Reg.TIM_CTRL (t : Nat) : Nat := 0xd0000 + 0x1000 * t
def Reg.TIM_CFG (t : Nat) : Nat := 0xd0004 + 0x1000 * t
def Reg.TIM_START_SRC (t : Nat) : Nat := 0xd0008 + 0x1000 * t
def Reg.TIM_STOP_SRC (t : Nat) : Nat := 0xd000c + 0x1000 * t
def Reg.TIM_N (t : Nat) : Nat := 0xd0010 + 0x1000 * t
def Reg.TIM_GATE (t : Nat) : Nat := 0xd0014 + 0x1000 * t
def Reg.TIM_HOLDOFF (t : Nat) : Nat := 0xd0018 + 0x1000 * t
def Reg.TIM_TIMEOUT (t : Nat) : Nat := 0xd001c + 0x1000 * t
def Reg.TIM_STATUS (t : Nat) : Nat := 0xd0020 + 0x1000 * t
def Reg.TIM_MISSED (t : Nat) : Nat := 0xd0024 + 0x1000 * t
def Reg.TIM_RES_SEQ (t : Nat) : Nat := 0xd0028 + 0x1000 * t
def Reg.TIM_RES_N (t : Nat) : Nat := 0xd002c + 0x1000 * t
def Reg.TIM_RES_MEAN_LO (t : Nat) : Nat := 0xd0030 + 0x1000 * t
def Reg.TIM_RES_MEAN_HI (t : Nat) : Nat := 0xd0034 + 0x1000 * t
def Reg.TIM_RES_SDEV (t : Nat) : Nat := 0xd0038 + 0x1000 * t
def Reg.TIM_RES_MIN (t : Nat) : Nat := 0xd003c + 0x1000 * t
def Reg.TIM_RES_MAX (t : Nat) : Nat := 0xd0040 + 0x1000 * t
def Reg.TIM_RES_PERIOD_LO (t : Nat) : Nat := 0xd0044 + 0x1000 * t
def Reg.TIM_RES_PERIOD_HI (t : Nat) : Nat := 0xd0048 + 0x1000 * t
def Reg.TIM_RES_FREQ_LO (t : Nat) : Nat := 0xd004c + 0x1000 * t
def Reg.TIM_RES_FREQ_HI (t : Nat) : Nat := 0xd0050 + 0x1000 * t
def Reg.TIM_RES_EVENTS (t : Nat) : Nat := 0xd0054 + 0x1000 * t
def Reg.TIM_RES_FLAGS (t : Nat) : Nat := 0xd0058 + 0x1000 * t
def Reg.TIM_IVL (t k : Nat) : Nat := 0xd0080 + 0x1000 * t + 0x4 * k
def Reg.TIM_TB_STATUS : Nat := 0xd8000
def Reg.TIM_XO_OFF : Nat := 0xd8004
def Reg.TIM_XO_AGE : Nat := 0xd8008
def F.TIM_CTRL_STOP (t : Nat) : RF := ⟨Reg.TIM_CTRL t, 1, 1⟩
def F.TIM_CTRL_ARM (t : Nat) : RF := ⟨Reg.TIM_CTRL t, 0, 1⟩
def F.TIM_CFG_REC_EN (t : Nat) : RF := ⟨Reg.TIM_CFG t, 31, 1⟩
def F.TIM_CFG_SBAY (t : Nat) : RF := ⟨Reg.TIM_CFG t, 29, 2⟩
def F.TIM_CFG_STREAM_T (t : Nat) : RF := ⟨Reg.TIM_CFG t, 24, 5⟩
def F.TIM_CFG_REPEAT (t : Nat) : RF := ⟨Reg.TIM_CFG t, 23, 1⟩
def F.TIM_CFG_DSK (t : Nat) : RF := ⟨Reg.TIM_CFG t, 22, 1⟩
def F.TIM_CFG_PS (t : Nat) : RF := ⟨Reg.TIM_CFG t, 16, 4⟩
def F.TIM_CFG_STAT_STOP (t : Nat) : RF := ⟨Reg.TIM_CFG t, 12, 4⟩
def F.TIM_CFG_NSTOP (t : Nat) : RF := ⟨Reg.TIM_CFG t, 8, 4⟩
def F.TIM_CFG_MODE (t : Nat) : RF := ⟨Reg.TIM_CFG t, 0, 1⟩
def F.TIM_START_SRC_SRC (t : Nat) : RF := ⟨Reg.TIM_START_SRC t, 8, 8⟩
def F.TIM_START_SRC_INDEX (t : Nat) : RF := ⟨Reg.TIM_START_SRC t, 0, 6⟩
def F.TIM_STOP_SRC_SRC (t : Nat) : RF := ⟨Reg.TIM_STOP_SRC t, 8, 8⟩
def F.TIM_STOP_SRC_INDEX (t : Nat) : RF := ⟨Reg.TIM_STOP_SRC t, 0, 6⟩
def F.TIM_N_N (t : Nat) : RF := ⟨Reg.TIM_N t, 0, 24⟩
def F.TIM_GATE_US (t : Nat) : RF := ⟨Reg.TIM_GATE t, 0, 20⟩
def F.TIM_HOLDOFF_SU (t : Nat) : RF := ⟨Reg.TIM_HOLDOFF t, 0, 31⟩
def F.TIM_TIMEOUT_US (t : Nat) : RF := ⟨Reg.TIM_TIMEOUT t, 0, 24⟩
def F.TIM_STATUS_RESULT (t : Nat) : RF := ⟨Reg.TIM_STATUS t, 24, 8⟩
def F.TIM_STATUS_CAUSE (t : Nat) : RF := ⟨Reg.TIM_STATUS t, 20, 4⟩
def F.TIM_STATUS_START_OVR (t : Nat) : RF := ⟨Reg.TIM_STATUS t, 16, 4⟩
def F.TIM_STATUS_STOPS (t : Nat) : RF := ⟨Reg.TIM_STATUS t, 12, 4⟩
def F.TIM_STATUS_STATE (t : Nat) : RF := ⟨Reg.TIM_STATUS t, 0, 3⟩
def F.TIM_MISSED (t : Nat) : RF := ⟨Reg.TIM_MISSED t, 0, 32⟩
def F.TIM_RES_SEQ (t : Nat) : RF := ⟨Reg.TIM_RES_SEQ t, 0, 32⟩
def F.TIM_RES_N (t : Nat) : RF := ⟨Reg.TIM_RES_N t, 0, 32⟩
def F.TIM_RES_MEAN_LO (t : Nat) : RF := ⟨Reg.TIM_RES_MEAN_LO t, 0, 32⟩
def F.TIM_RES_MEAN_HI_HI (t : Nat) : RF := ⟨Reg.TIM_RES_MEAN_HI t, 0, 16⟩
def F.TIM_RES_SDEV (t : Nat) : RF := ⟨Reg.TIM_RES_SDEV t, 0, 32⟩
def F.TIM_RES_MIN (t : Nat) : RF := ⟨Reg.TIM_RES_MIN t, 0, 32⟩
def F.TIM_RES_MAX (t : Nat) : RF := ⟨Reg.TIM_RES_MAX t, 0, 32⟩
def F.TIM_RES_PERIOD_LO (t : Nat) : RF := ⟨Reg.TIM_RES_PERIOD_LO t, 0, 32⟩
def F.TIM_RES_PERIOD_HI_HI (t : Nat) : RF := ⟨Reg.TIM_RES_PERIOD_HI t, 0, 16⟩
def F.TIM_RES_FREQ_LO (t : Nat) : RF := ⟨Reg.TIM_RES_FREQ_LO t, 0, 32⟩
def F.TIM_RES_FREQ_HI_HI (t : Nat) : RF := ⟨Reg.TIM_RES_FREQ_HI t, 0, 16⟩
def F.TIM_RES_EVENTS (t : Nat) : RF := ⟨Reg.TIM_RES_EVENTS t, 0, 32⟩
def F.TIM_RES_FLAGS_TRUNC (t : Nat) : RF := ⟨Reg.TIM_RES_FLAGS t, 5, 1⟩
def F.TIM_RES_FLAGS_NO_SIGNAL (t : Nat) : RF := ⟨Reg.TIM_RES_FLAGS t, 4, 1⟩
def F.TIM_RES_FLAGS_TIMEOUT (t : Nat) : RF := ⟨Reg.TIM_RES_FLAGS t, 3, 1⟩
def F.TIM_RES_FLAGS_SAT (t : Nat) : RF := ⟨Reg.TIM_RES_FLAGS t, 2, 1⟩
def F.TIM_RES_FLAGS_HOLDOVER (t : Nat) : RF := ⟨Reg.TIM_RES_FLAGS t, 1, 1⟩
def F.TIM_RES_FLAGS_OVERWRITE (t : Nat) : RF := ⟨Reg.TIM_RES_FLAGS t, 0, 1⟩
def F.TIM_IVL_IVL (t k : Nat) : RF := ⟨Reg.TIM_IVL t k, 0, 31⟩
def F.TIM_TB_STATUS_HOLD_CNT : RF := ⟨Reg.TIM_TB_STATUS, 16, 16⟩
def F.TIM_TB_STATUS_AGE_VALID : RF := ⟨Reg.TIM_TB_STATUS, 2, 1⟩
def F.TIM_TB_STATUS_XO_VALID : RF := ⟨Reg.TIM_TB_STATUS, 1, 1⟩
def F.TIM_TB_STATUS_HOLDOVER : RF := ⟨Reg.TIM_TB_STATUS, 0, 1⟩
def F.TIM_XO_OFF : RF := ⟨Reg.TIM_XO_OFF, 0, 32⟩
def F.TIM_XO_AGE : RF := ⟨Reg.TIM_XO_AGE, 0, 32⟩
/-- The TIM rows: base, index dimensions (count, stride), and the bit masks RW, W1C, W1S, WL, LIVE, WO1. -/
def regRowsTIM : List RegRow := [
  ⟨0xd0000, [(4, 0x1000)], 0, 0, 0x3, 0, 0, 0⟩,
  ⟨0xd0004, [(4, 0x1000)], 0xffcfff01, 0, 0, 0, 0, 0⟩,
  ⟨0xd0008, [(4, 0x1000)], 0xff3f, 0, 0, 0, 0, 0⟩,
  ⟨0xd000c, [(4, 0x1000)], 0xff3f, 0, 0, 0, 0, 0⟩,
  ⟨0xd0010, [(4, 0x1000)], 0xffffff, 0, 0, 0, 0, 0⟩,
  ⟨0xd0014, [(4, 0x1000)], 0xfffff, 0, 0, 0, 0, 0⟩,
  ⟨0xd0018, [(4, 0x1000)], 0x7fffffff, 0, 0, 0, 0, 0⟩,
  ⟨0xd001c, [(4, 0x1000)], 0xffffff, 0, 0, 0, 0, 0⟩,
  ⟨0xd0020, [(4, 0x1000)], 0, 0, 0, 0, 0, 0⟩,
  ⟨0xd0024, [(4, 0x1000)], 0, 0, 0, 0, 0, 0⟩,
  ⟨0xd0028, [(4, 0x1000)], 0, 0, 0, 0, 0, 0⟩,
  ⟨0xd002c, [(4, 0x1000)], 0, 0, 0, 0, 0, 0⟩,
  ⟨0xd0030, [(4, 0x1000)], 0, 0, 0, 0, 0, 0⟩,
  ⟨0xd0034, [(4, 0x1000)], 0, 0, 0, 0, 0, 0⟩,
  ⟨0xd0038, [(4, 0x1000)], 0, 0, 0, 0, 0, 0⟩,
  ⟨0xd003c, [(4, 0x1000)], 0, 0, 0, 0, 0, 0⟩,
  ⟨0xd0040, [(4, 0x1000)], 0, 0, 0, 0, 0, 0⟩,
  ⟨0xd0044, [(4, 0x1000)], 0, 0, 0, 0, 0, 0⟩,
  ⟨0xd0048, [(4, 0x1000)], 0, 0, 0, 0, 0, 0⟩,
  ⟨0xd004c, [(4, 0x1000)], 0, 0, 0, 0, 0, 0⟩,
  ⟨0xd0050, [(4, 0x1000)], 0, 0, 0, 0, 0, 0⟩,
  ⟨0xd0054, [(4, 0x1000)], 0, 0, 0, 0, 0, 0⟩,
  ⟨0xd0058, [(4, 0x1000)], 0, 0, 0, 0, 0, 0⟩,
  ⟨0xd0080, [(4, 0x1000), (16, 0x4)], 0, 0, 0, 0, 0, 0⟩,
  ⟨0xd8000, [], 0, 0, 0, 0, 0, 0⟩,
  ⟨0xd8004, [], 0xffffffff, 0, 0, 0, 0, 0⟩,
  ⟨0xd8008, [], 0xffffffff, 0, 0, 0, 0, 0⟩]

/-! ### RDR -/
def Reg.RDR_CTRL (c : Nat) : Nat := ctxBase c + 0x0
def Reg.RDR_CFG (c : Nat) : Nat := ctxBase c + 0x4
def Reg.RDR_STATUS (c : Nat) : Nat := ctxBase c + 0x8
def Reg.RDR_ARM_STATUS (c : Nat) : Nat := ctxBase c + 0xc
def Reg.RDR_SEQ_ENTRY (c : Nat) : Nat := ctxBase c + 0x10
def Reg.RDR_IDLE_CN (c : Nat) : Nat := ctxBase c + 0x14
def Reg.RDR_HOLD_CN (c : Nat) : Nat := ctxBase c + 0x18
def Reg.RDR_HOLD_LIMIT (c : Nat) : Nat := ctxBase c + 0x1c
def Reg.RDR_SITE_INIT_LO (c : Nat) : Nat := ctxBase c + 0x20
def Reg.RDR_SITE_INIT_HI (c : Nat) : Nat := ctxBase c + 0x24
def Reg.RDR_SITE_ACT_LO (c : Nat) : Nat := ctxBase c + 0x28
def Reg.RDR_SITE_ACT_HI (c : Nat) : Nat := ctxBase c + 0x2c
def Reg.RDR_MARK_CFG (c : Nat) : Nat := ctxBase c + 0x30
def Reg.RDR_HOSTFLAG (c : Nat) : Nat := ctxBase c + 0x34
def Reg.RDR_POS (c : Nat) : Nat := ctxBase c + 0x38
def Reg.RDR_VCNT_LO (c : Nat) : Nat := ctxBase c + 0x40
def Reg.RDR_VCNT_HI (c : Nat) : Nat := ctxBase c + 0x44
def Reg.RDR_LCNT_LO (c : Nat) : Nat := ctxBase c + 0x48
def Reg.RDR_LCNT_HI (c : Nat) : Nat := ctxBase c + 0x4c
def Reg.RDR_STOP_CN (c : Nat) : Nat := ctxBase c + 0x50
def Reg.RDR_STOP_LEAF (c : Nat) : Nat := ctxBase c + 0x54
def Reg.RDR_STOP_ADDR_LO (c : Nat) : Nat := ctxBase c + 0x58
def Reg.RDR_STOP_ADDR_HI (c : Nat) : Nat := ctxBase c + 0x5c
def Reg.RDR_LOOP_CNT (c j : Nat) : Nat := ctxBase c + 0x80 + 0x4 * j
def Reg.RDR_SEQ (c j : Nat) : Nat := ctxBase c + 0x4000 + 0x4 * j
def Reg.RDR_PER_LO (c j : Nat) : Nat := ctxBase c + 0xf000 + 0x8 * j
def Reg.RDR_PER_HI (c j : Nat) : Nat := ctxBase c + 0xf004 + 0x8 * j
def F.RDR_CTRL_ACK (c : Nat) : RF := ⟨Reg.RDR_CTRL c, 6, 1⟩
def F.RDR_CTRL_DISARM (c : Nat) : RF := ⟨Reg.RDR_CTRL c, 5, 1⟩
def F.RDR_CTRL_RESUME (c : Nat) : RF := ⟨Reg.RDR_CTRL c, 4, 1⟩
def F.RDR_CTRL_FORCE (c : Nat) : RF := ⟨Reg.RDR_CTRL c, 3, 1⟩
def F.RDR_CTRL_HALT (c : Nat) : RF := ⟨Reg.RDR_CTRL c, 2, 1⟩
def F.RDR_CTRL_START (c : Nat) : RF := ⟨Reg.RDR_CTRL c, 1, 1⟩
def F.RDR_CTRL_ARM (c : Nat) : RF := ⟨Reg.RDR_CTRL c, 0, 1⟩
def F.RDR_CFG_REARM (c : Nat) : RF := ⟨Reg.RDR_CFG c, 3, 1⟩
def F.RDR_CFG_HOLD_EN (c : Nat) : RF := ⟨Reg.RDR_CFG c, 2, 1⟩
def F.RDR_CFG_STARVE_PARK (c : Nat) : RF := ⟨Reg.RDR_CFG c, 1, 1⟩
def F.RDR_CFG_STARVE_END (c : Nat) : RF := ⟨Reg.RDR_CFG c, 0, 1⟩
def F.RDR_STATUS_STOP (c : Nat) : RF := ⟨Reg.RDR_STATUS c, 24, 8⟩
def F.RDR_STATUS_CMD_ERR (c : Nat) : RF := ⟨Reg.RDR_STATUS c, 12, 1⟩
def F.RDR_STATUS_HALT_LOST (c : Nat) : RF := ⟨Reg.RDR_STATUS c, 11, 1⟩
def F.RDR_STATUS_MATCH_EXHAUSTED (c : Nat) : RF := ⟨Reg.RDR_STATUS c, 10, 1⟩
def F.RDR_STATUS_FILL (c : Nat) : RF := ⟨Reg.RDR_STATUS c, 9, 1⟩
def F.RDR_STATUS_HELD (c : Nat) : RF := ⟨Reg.RDR_STATUS c, 8, 1⟩
def F.RDR_STATUS_STATE (c : Nat) : RF := ⟨Reg.RDR_STATUS c, 0, 4⟩
def F.RDR_ARM_STATUS_DETAIL (c : Nat) : RF := ⟨Reg.RDR_ARM_STATUS c, 16, 16⟩
def F.RDR_ARM_STATUS_RESULT (c : Nat) : RF := ⟨Reg.RDR_ARM_STATUS c, 0, 8⟩
def F.RDR_SEQ_ENTRY_WORD (c : Nat) : RF := ⟨Reg.RDR_SEQ_ENTRY c, 0, 12⟩
def F.RDR_IDLE_CN_CN (c : Nat) : RF := ⟨Reg.RDR_IDLE_CN c, 0, 32⟩
def F.RDR_HOLD_CN_CN (c : Nat) : RF := ⟨Reg.RDR_HOLD_CN c, 0, 32⟩
def F.RDR_HOLD_LIMIT_LIMIT (c : Nat) : RF := ⟨Reg.RDR_HOLD_LIMIT c, 0, 32⟩
def F.RDR_SITE_INIT_LO_M (c : Nat) : RF := ⟨Reg.RDR_SITE_INIT_LO c, 0, 32⟩
def F.RDR_SITE_INIT_HI_M (c : Nat) : RF := ⟨Reg.RDR_SITE_INIT_HI c, 0, 32⟩
def F.RDR_SITE_ACT_LO (c : Nat) : RF := ⟨Reg.RDR_SITE_ACT_LO c, 0, 32⟩
def F.RDR_SITE_ACT_HI (c : Nat) : RF := ⟨Reg.RDR_SITE_ACT_HI c, 0, 32⟩
def F.RDR_MARK_CFG_EN (c : Nat) : RF := ⟨Reg.RDR_MARK_CFG c, 7, 1⟩
def F.RDR_MARK_CFG_TRIG (c : Nat) : RF := ⟨Reg.RDR_MARK_CFG c, 0, 3⟩
def F.RDR_HOSTFLAG_FLAGS (c : Nat) : RF := ⟨Reg.RDR_HOSTFLAG c, 0, 8⟩
def F.RDR_POS_LOOP_DEPTH (c : Nat) : RF := ⟨Reg.RDR_POS c, 24, 4⟩
def F.RDR_POS_CALL_DEPTH (c : Nat) : RF := ⟨Reg.RDR_POS c, 16, 5⟩
def F.RDR_POS_WORD (c : Nat) : RF := ⟨Reg.RDR_POS c, 0, 12⟩
def F.RDR_VCNT_LO (c : Nat) : RF := ⟨Reg.RDR_VCNT_LO c, 0, 32⟩
def F.RDR_VCNT_HI_WRAP (c : Nat) : RF := ⟨Reg.RDR_VCNT_HI c, 31, 1⟩
def F.RDR_VCNT_HI_HI (c : Nat) : RF := ⟨Reg.RDR_VCNT_HI c, 0, 16⟩
def F.RDR_LCNT_LO (c : Nat) : RF := ⟨Reg.RDR_LCNT_LO c, 0, 32⟩
def F.RDR_LCNT_HI_WRAP (c : Nat) : RF := ⟨Reg.RDR_LCNT_HI c, 31, 1⟩
def F.RDR_LCNT_HI_HI (c : Nat) : RF := ⟨Reg.RDR_LCNT_HI c, 0, 16⟩
def F.RDR_STOP_CN (c : Nat) : RF := ⟨Reg.RDR_STOP_CN c, 0, 32⟩
def F.RDR_STOP_LEAF (c : Nat) : RF := ⟨Reg.RDR_STOP_LEAF c, 0, 32⟩
def F.RDR_STOP_ADDR_LO (c : Nat) : RF := ⟨Reg.RDR_STOP_ADDR_LO c, 0, 32⟩
def F.RDR_STOP_ADDR_HI_ADDR (c : Nat) : RF := ⟨Reg.RDR_STOP_ADDR_HI c, 0, 20⟩
def F.RDR_LOOP_CNT (c j : Nat) : RF := ⟨Reg.RDR_LOOP_CNT c j, 0, 32⟩
def F.RDR_SEQ_W (c j : Nat) : RF := ⟨Reg.RDR_SEQ c j, 0, 32⟩
def F.RDR_PER_LO_WHOLE_LO (c j : Nat) : RF := ⟨Reg.RDR_PER_LO c j, 16, 16⟩
def F.RDR_PER_LO_FRAC (c j : Nat) : RF := ⟨Reg.RDR_PER_LO c j, 0, 16⟩
def F.RDR_PER_HI_VALID (c j : Nat) : RF := ⟨Reg.RDR_PER_HI c j, 31, 1⟩
def F.RDR_PER_HI_WHOLE_HI (c j : Nat) : RF := ⟨Reg.RDR_PER_HI c j, 0, 12⟩
/-- The RDR rows: base, index dimensions (count, stride), and the bit masks RW, W1C, W1S, WL, LIVE, WO1. -/
def regRowsRDR : List RegRow := [
  ⟨0x100000, [(4, 0x100000), (4, 0x10000)], 0, 0, 0x7f, 0, 0, 0⟩,
  ⟨0x100004, [(4, 0x100000), (4, 0x10000)], 0, 0, 0, 0xf, 0, 0⟩,
  ⟨0x100008, [(4, 0x100000), (4, 0x10000)], 0, 0x1f00, 0, 0, 0, 0⟩,
  ⟨0x10000c, [(4, 0x100000), (4, 0x10000)], 0, 0, 0, 0, 0, 0⟩,
  ⟨0x100010, [(4, 0x100000), (4, 0x10000)], 0, 0, 0, 0xfff, 0, 0⟩,
  ⟨0x100014, [(4, 0x100000), (4, 0x10000)], 0, 0, 0, 0xffffffff, 0, 0⟩,
  ⟨0x100018, [(4, 0x100000), (4, 0x10000)], 0, 0, 0, 0xffffffff, 0, 0⟩,
  ⟨0x10001c, [(4, 0x100000), (4, 0x10000)], 0, 0, 0, 0xffffffff, 0, 0⟩,
  ⟨0x100020, [(4, 0x100000), (4, 0x10000)], 0, 0, 0, 0xffffffff, 0, 0⟩,
  ⟨0x100024, [(4, 0x100000), (4, 0x10000)], 0, 0, 0, 0xffffffff, 0, 0⟩,
  ⟨0x100028, [(4, 0x100000), (4, 0x10000)], 0, 0, 0, 0, 0, 0⟩,
  ⟨0x10002c, [(4, 0x100000), (4, 0x10000)], 0, 0, 0, 0, 0, 0⟩,
  ⟨0x100030, [(4, 0x100000), (4, 0x10000)], 0, 0, 0, 0, 0x87, 0⟩,
  ⟨0x100034, [(4, 0x100000), (4, 0x10000)], 0, 0, 0xff, 0, 0, 0⟩,
  ⟨0x100038, [(4, 0x100000), (4, 0x10000)], 0, 0, 0, 0, 0, 0⟩,
  ⟨0x100040, [(4, 0x100000), (4, 0x10000)], 0, 0, 0, 0, 0, 0⟩,
  ⟨0x100044, [(4, 0x100000), (4, 0x10000)], 0, 0, 0, 0, 0, 0⟩,
  ⟨0x100048, [(4, 0x100000), (4, 0x10000)], 0, 0, 0, 0, 0, 0⟩,
  ⟨0x10004c, [(4, 0x100000), (4, 0x10000)], 0, 0, 0, 0, 0, 0⟩,
  ⟨0x100050, [(4, 0x100000), (4, 0x10000)], 0, 0, 0, 0, 0, 0⟩,
  ⟨0x100054, [(4, 0x100000), (4, 0x10000)], 0, 0, 0, 0, 0, 0⟩,
  ⟨0x100058, [(4, 0x100000), (4, 0x10000)], 0, 0, 0, 0, 0, 0⟩,
  ⟨0x10005c, [(4, 0x100000), (4, 0x10000)], 0, 0, 0, 0, 0, 0⟩,
  ⟨0x100080, [(4, 0x100000), (4, 0x10000), (8, 0x4)], 0, 0, 0, 0, 0, 0⟩,
  ⟨0x104000, [(4, 0x100000), (4, 0x10000), (8192, 0x4)], 0, 0, 0, 0xffffffff, 0, 0⟩,
  ⟨0x10f000, [(4, 0x100000), (4, 0x10000), (64, 0x8)], 0, 0, 0, 0xffffffff, 0, 0⟩,
  ⟨0x10f004, [(4, 0x100000), (4, 0x10000), (64, 0x8)], 0, 0, 0, 0x80000fff, 0, 0⟩]

/-! ### UCS -/
def Reg.UCS_ID (b : Nat) : Nat := bayBase b + 0x40000
def Reg.UCS_BUNDLE_VER (b : Nat) : Nat := bayBase b + 0x40004
def Reg.UCS_GEN (b : Nat) : Nat := bayBase b + 0x40008
def Reg.UCS_CMD (b : Nat) : Nat := bayBase b + 0x4000c
def Reg.UCS_SRC_LO (b : Nat) : Nat := bayBase b + 0x40010
def Reg.UCS_SRC_HI (b : Nat) : Nat := bayBase b + 0x40014
def Reg.UCS_STATUS (b : Nat) : Nat := bayBase b + 0x40018
def Reg.UCS_CORR_CNT (b : Nat) : Nat := bayBase b + 0x4001c
def Reg.UCS_TRAP_LAST (b : Nat) : Nat := bayBase b + 0x40020
def Reg.UCS_DIGEST (b i : Nat) : Nat := bayBase b + 0x40040 + 0x4 * i
def Reg.UCS_BRK (b i : Nat) : Nat := bayBase b + 0x40080 + 0x4 * i
def Reg.UCS_FRAME (b i : Nat) : Nat := bayBase b + 0x40100 + 0x4 * i
def F.UCS_ID (b : Nat) : RF := ⟨Reg.UCS_ID b, 0, 32⟩
def F.UCS_BUNDLE_VER (b : Nat) : RF := ⟨Reg.UCS_BUNDLE_VER b, 0, 32⟩
def F.UCS_GEN (b : Nat) : RF := ⟨Reg.UCS_GEN b, 0, 32⟩
def F.UCS_CMD_SOURCE (b : Nat) : RF := ⟨Reg.UCS_CMD b, 2, 1⟩
def F.UCS_CMD_PERSIST (b : Nat) : RF := ⟨Reg.UCS_CMD b, 1, 1⟩
def F.UCS_CMD_RELOAD (b : Nat) : RF := ⟨Reg.UCS_CMD b, 0, 1⟩
def F.UCS_SRC_LO_ADDR (b : Nat) : RF := ⟨Reg.UCS_SRC_LO b, 6, 26⟩
def F.UCS_SRC_HI_ADDR (b : Nat) : RF := ⟨Reg.UCS_SRC_HI b, 0, 20⟩
def F.UCS_STATUS_RESULT (b : Nat) : RF := ⟨Reg.UCS_STATUS b, 8, 8⟩
def F.UCS_STATUS_INTEGRITY (b : Nat) : RF := ⟨Reg.UCS_STATUS b, 5, 1⟩
def F.UCS_STATUS_PERSISTED (b : Nat) : RF := ⟨Reg.UCS_STATUS b, 4, 1⟩
def F.UCS_STATUS_STATE (b : Nat) : RF := ⟨Reg.UCS_STATUS b, 0, 3⟩
def F.UCS_CORR_CNT (b : Nat) : RF := ⟨Reg.UCS_CORR_CNT b, 0, 32⟩
def F.UCS_TRAP_LAST_CTX (b : Nat) : RF := ⟨Reg.UCS_TRAP_LAST b, 8, 2⟩
def F.UCS_TRAP_LAST_CODE (b : Nat) : RF := ⟨Reg.UCS_TRAP_LAST b, 0, 4⟩
def F.UCS_DIGEST (b i : Nat) : RF := ⟨Reg.UCS_DIGEST b i, 0, 32⟩
def F.UCS_BRK_EN (b i : Nat) : RF := ⟨Reg.UCS_BRK b i, 31, 1⟩
def F.UCS_BRK_WORD (b i : Nat) : RF := ⟨Reg.UCS_BRK b i, 0, 12⟩
def F.UCS_FRAME (b i : Nat) : RF := ⟨Reg.UCS_FRAME b i, 0, 32⟩
/-- The UCS rows: base, index dimensions (count, stride), and the bit masks RW, W1C, W1S, WL, LIVE, WO1. -/
def regRowsUCS : List RegRow := [
  ⟨0x140000, [(4, 0x100000)], 0, 0, 0, 0, 0, 0⟩,
  ⟨0x140004, [(4, 0x100000)], 0, 0, 0, 0, 0, 0⟩,
  ⟨0x140008, [(4, 0x100000)], 0, 0, 0, 0, 0, 0⟩,
  ⟨0x14000c, [(4, 0x100000)], 0x6, 0, 0x1, 0, 0, 0⟩,
  ⟨0x140010, [(4, 0x100000)], 0xffffffc0, 0, 0, 0, 0, 0⟩,
  ⟨0x140014, [(4, 0x100000)], 0xfffff, 0, 0, 0, 0, 0⟩,
  ⟨0x140018, [(4, 0x100000)], 0, 0x10, 0, 0, 0, 0⟩,
  ⟨0x14001c, [(4, 0x100000)], 0, 0, 0, 0, 0, 0⟩,
  ⟨0x140020, [(4, 0x100000)], 0, 0, 0, 0, 0, 0⟩,
  ⟨0x140040, [(4, 0x100000), (12, 0x4)], 0, 0, 0, 0, 0, 0⟩,
  ⟨0x140080, [(4, 0x100000), (4, 0x4)], 0x80000fff, 0, 0, 0, 0, 0⟩,
  ⟨0x140100, [(4, 0x100000), (64, 0x4)], 0, 0, 0, 0, 0, 0⟩]

/-! ### LDG -/
def Reg.LDG_SLICE_STATUS (b : Nat) : Nat := bayBase b + 0x50000
def Reg.LDG_SITE_CFG (site : Nat) : Nat := bayBase (site / 16) + 0x50100 + 0x40 * (site % 16)
def Reg.LDG_SITE_QUOTA (site : Nat) : Nat := bayBase (site / 16) + 0x50104 + 0x40 * (site % 16)
def Reg.LDG_SITE_STATUS (site : Nat) : Nat := bayBase (site / 16) + 0x50108 + 0x40 * (site % 16)
def Reg.LDG_SITE_FAIL (site : Nat) : Nat := bayBase (site / 16) + 0x5010c + 0x40 * (site % 16)
def Reg.LDG_SITE_DROP (site : Nat) : Nat := bayBase (site / 16) + 0x50110 + 0x40 * (site % 16)
def Reg.LDG_SITE_SNAP (site : Nat) : Nat := bayBase (site / 16) + 0x50114 + 0x40 * (site % 16)
def Reg.LDG_FF_CN (site : Nat) : Nat := bayBase (site / 16) + 0x50118 + 0x40 * (site % 16)
def Reg.LDG_FF_FLEAF (site : Nat) : Nat := bayBase (site / 16) + 0x5011c + 0x40 * (site % 16)
def Reg.LDG_FF_LEAF_LO (site : Nat) : Nat := bayBase (site / 16) + 0x50120 + 0x40 * (site % 16)
def Reg.LDG_FF_LEAF_HI (site : Nat) : Nat := bayBase (site / 16) + 0x50124 + 0x40 * (site % 16)
def Reg.LDG_FF_POS (site : Nat) : Nat := bayBase (site / 16) + 0x50128 + 0x40 * (site % 16)
def Reg.LDG_CTX_CFG (c : Nat) : Nat := bayBase (c / 4) + 0x50800 + 0x10 * (c % 4)
def Reg.LDG_STR_BASE_LO (b i : Nat) : Nat := bayBase b + 0x51000 + 0x20 * i
def Reg.LDG_STR_BASE_HI (b i : Nat) : Nat := bayBase b + 0x51004 + 0x20 * i
def Reg.LDG_STR_CFG (b i : Nat) : Nat := bayBase b + 0x51008 + 0x20 * i
def Reg.LDG_STR_WR (b i : Nat) : Nat := bayBase b + 0x5100c + 0x20 * i
def Reg.LDG_STR_DR (b i : Nat) : Nat := bayBase b + 0x51010 + 0x20 * i
def Reg.LDG_STR_SEQ (b i : Nat) : Nat := bayBase b + 0x51014 + 0x20 * i
def Reg.LDG_STR_STATUS (b i : Nat) : Nat := bayBase b + 0x51018 + 0x20 * i
def Reg.LDG_STR_LOST (b i : Nat) : Nat := bayBase b + 0x5101c + 0x20 * i
def F.LDG_SLICE_STATUS_BACKLOG (b : Nat) : RF := ⟨Reg.LDG_SLICE_STATUS b, 1, 1⟩
def F.LDG_SLICE_STATUS_DRAINED (b : Nat) : RF := ⟨Reg.LDG_SLICE_STATUS b, 0, 1⟩
def F.LDG_SITE_CFG_STOP_ON_QUOTA (site : Nat) : RF := ⟨Reg.LDG_SITE_CFG site, 31, 1⟩
def F.LDG_SITE_CFG_FAIL_N (site : Nat) : RF := ⟨Reg.LDG_SITE_CFG site, 8, 16⟩
def F.LDG_SITE_CFG_FAIL_REC (site : Nat) : RF := ⟨Reg.LDG_SITE_CFG site, 1, 2⟩
def F.LDG_SITE_CFG_CAP_EN (site : Nat) : RF := ⟨Reg.LDG_SITE_CFG site, 0, 1⟩
def F.LDG_SITE_QUOTA_QUOTA (site : Nat) : RF := ⟨Reg.LDG_SITE_QUOTA site, 0, 20⟩
def F.LDG_SITE_STATUS_FF_CLR (site : Nat) : RF := ⟨Reg.LDG_SITE_STATUS site, 3, 1⟩
def F.LDG_SITE_STATUS_QSTOP (site : Nat) : RF := ⟨Reg.LDG_SITE_STATUS site, 2, 1⟩
def F.LDG_SITE_STATUS_FAILED (site : Nat) : RF := ⟨Reg.LDG_SITE_STATUS site, 1, 1⟩
def F.LDG_SITE_STATUS_OVER (site : Nat) : RF := ⟨Reg.LDG_SITE_STATUS site, 0, 1⟩
def F.LDG_SITE_FAIL_FAIL (site : Nat) : RF := ⟨Reg.LDG_SITE_FAIL site, 0, 32⟩
def F.LDG_SITE_DROP_DROP (site : Nat) : RF := ⟨Reg.LDG_SITE_DROP site, 0, 32⟩
def F.LDG_SITE_SNAP_DROP_SAT (site : Nat) : RF := ⟨Reg.LDG_SITE_SNAP site, 1, 1⟩
def F.LDG_SITE_SNAP_FAIL_SAT (site : Nat) : RF := ⟨Reg.LDG_SITE_SNAP site, 0, 1⟩
def F.LDG_FF_CN (site : Nat) : RF := ⟨Reg.LDG_FF_CN site, 0, 32⟩
def F.LDG_FF_FLEAF (site : Nat) : RF := ⟨Reg.LDG_FF_FLEAF site, 0, 32⟩
def F.LDG_FF_LEAF_LO (site : Nat) : RF := ⟨Reg.LDG_FF_LEAF_LO site, 0, 32⟩
def F.LDG_FF_LEAF_HI_HI (site : Nat) : RF := ⟨Reg.LDG_FF_LEAF_HI site, 0, 16⟩
def F.LDG_FF_POS_VALID (site : Nat) : RF := ⟨Reg.LDG_FF_POS site, 31, 1⟩
def F.LDG_FF_POS_CH_VALID (site : Nat) : RF := ⟨Reg.LDG_FF_POS site, 14, 1⟩
def F.LDG_FF_POS_LANE (site : Nat) : RF := ⟨Reg.LDG_FF_POS site, 13, 1⟩
def F.LDG_FF_POS_VIDX (site : Nat) : RF := ⟨Reg.LDG_FF_POS site, 8, 5⟩
def F.LDG_FF_POS_CHANNEL (site : Nat) : RF := ⟨Reg.LDG_FF_POS site, 0, 8⟩
def F.LDG_CTX_CFG_CAP_COMMON (c : Nat) : RF := ⟨Reg.LDG_CTX_CFG c, 1, 1⟩
def F.LDG_CTX_CFG_MARK_REC (c : Nat) : RF := ⟨Reg.LDG_CTX_CFG c, 0, 1⟩
def F.LDG_STR_BASE_LO_ADDR (b i : Nat) : RF := ⟨Reg.LDG_STR_BASE_LO b i, 16, 16⟩
def F.LDG_STR_BASE_HI_ADDR (b i : Nat) : RF := ⟨Reg.LDG_STR_BASE_HI b i, 0, 20⟩
def F.LDG_STR_CFG_EN (b i : Nat) : RF := ⟨Reg.LDG_STR_CFG b i, 31, 1⟩
def F.LDG_STR_CFG_SIZE_LOG2 (b i : Nat) : RF := ⟨Reg.LDG_STR_CFG b i, 0, 5⟩
def F.LDG_STR_WR (b i : Nat) : RF := ⟨Reg.LDG_STR_WR b i, 0, 32⟩
def F.LDG_STR_DR (b i : Nat) : RF := ⟨Reg.LDG_STR_DR b i, 0, 32⟩
def F.LDG_STR_SEQ (b i : Nat) : RF := ⟨Reg.LDG_STR_SEQ b i, 0, 32⟩
def F.LDG_STR_STATUS_DR_ERR (b i : Nat) : RF := ⟨Reg.LDG_STR_STATUS b i, 3, 1⟩
def F.LDG_STR_STATUS_WRITE_ERR (b i : Nat) : RF := ⟨Reg.LDG_STR_STATUS b i, 2, 1⟩
def F.LDG_STR_STATUS_BACKLOG (b i : Nat) : RF := ⟨Reg.LDG_STR_STATUS b i, 1, 1⟩
def F.LDG_STR_STATUS_FENCED (b i : Nat) : RF := ⟨Reg.LDG_STR_STATUS b i, 0, 1⟩
def F.LDG_STR_LOST_LOST (b i : Nat) : RF := ⟨Reg.LDG_STR_LOST b i, 0, 32⟩
/-- The LDG rows: base, index dimensions (count, stride), and the bit masks RW, W1C, W1S, WL, LIVE, WO1. -/
def regRowsLDG : List RegRow := [
  ⟨0x150000, [(4, 0x100000)], 0, 0x2, 0, 0, 0, 0⟩,
  ⟨0x150100, [(4, 0x100000), (16, 0x40)], 0x80000000, 0, 0, 0xffff07, 0, 0⟩,
  ⟨0x150104, [(4, 0x100000), (16, 0x40)], 0xfffff, 0, 0, 0, 0, 0⟩,
  ⟨0x150108, [(4, 0x100000), (16, 0x40)], 0, 0x4, 0x8, 0, 0, 0⟩,
  ⟨0x15010c, [(4, 0x100000), (16, 0x40)], 0xffffffff, 0, 0, 0, 0, 0⟩,
  ⟨0x150110, [(4, 0x100000), (16, 0x40)], 0xffffffff, 0, 0, 0, 0, 0⟩,
  ⟨0x150114, [(4, 0x100000), (16, 0x40)], 0, 0, 0, 0, 0, 0⟩,
  ⟨0x150118, [(4, 0x100000), (16, 0x40)], 0, 0, 0, 0, 0, 0⟩,
  ⟨0x15011c, [(4, 0x100000), (16, 0x40)], 0, 0, 0, 0, 0, 0⟩,
  ⟨0x150120, [(4, 0x100000), (16, 0x40)], 0, 0, 0, 0, 0, 0⟩,
  ⟨0x150124, [(4, 0x100000), (16, 0x40)], 0, 0, 0, 0, 0, 0⟩,
  ⟨0x150128, [(4, 0x100000), (16, 0x40)], 0, 0, 0, 0, 0, 0⟩,
  ⟨0x150800, [(4, 0x100000), (4, 0x10)], 0, 0, 0, 0x3, 0, 0⟩,
  ⟨0x151000, [(4, 0x100000), (21, 0x20)], 0xffff0000, 0, 0, 0, 0, 0⟩,
  ⟨0x151004, [(4, 0x100000), (21, 0x20)], 0xfffff, 0, 0, 0, 0, 0⟩,
  ⟨0x151008, [(4, 0x100000), (21, 0x20)], 0x1f, 0, 0, 0x80000000, 0, 0⟩,
  ⟨0x15100c, [(4, 0x100000), (21, 0x20)], 0, 0, 0, 0, 0, 0⟩,
  ⟨0x151010, [(4, 0x100000), (21, 0x20)], 0xffffffff, 0, 0, 0, 0, 0⟩,
  ⟨0x151014, [(4, 0x100000), (21, 0x20)], 0, 0, 0, 0, 0, 0⟩,
  ⟨0x151018, [(4, 0x100000), (21, 0x20)], 0, 0xe, 0, 0, 0, 0⟩,
  ⟨0x15101c, [(4, 0x100000), (21, 0x20)], 0, 0, 0, 0, 0, 0⟩]

/-! ### ACQ -/
def Reg.ACQ_CTRL (e : Nat) : Nat := engBase e + 0x0
def Reg.ACQ_CFG (e : Nat) : Nat := engBase e + 0x4
def Reg.ACQ_SRC (e : Nat) : Nat := engBase e + 0x8
def Reg.ACQ_HOLDOFF (e : Nat) : Nat := engBase e + 0xc
def Reg.ACQ_RED (e : Nat) : Nat := engBase e + 0x10
def Reg.ACQ_MASK_CFG (e : Nat) : Nat := engBase e + 0x14
def Reg.ACQ_STATUS (e : Nat) : Nat := engBase e + 0x18
def Reg.ACQ_TRIGS (e : Nat) : Nat := engBase e + 0x1c
def Reg.ACQ_VIOL (e : Nat) : Nat := engBase e + 0x20
def Reg.ACQ_GAP (e : Nat) : Nat := engBase e + 0x24
def Reg.ACQ_EXCL (e : Nat) : Nat := engBase e + 0x28
def Reg.ACQ_CNT0 (e : Nat) : Nat := engBase e + 0x2c
def Reg.ACQ_CNT1 (e : Nat) : Nat := engBase e + 0x30
def Reg.ACQ_TIMER (e : Nat) : Nat := engBase e + 0x34
def Reg.ACQ_SIDX_LO (e : Nat) : Nat := engBase e + 0x38
def Reg.ACQ_SIDX_HI (e : Nat) : Nat := engBase e + 0x3c
def Reg.ACQ_STATE (e k : Nat) : Nat := engBase e + 0x40 + 0x4 * k
def Reg.ACQ_TR_CTRL (e k t : Nat) : Nat := engBase e + 0x100 + 0x40 * k + 0x10 * t
def Reg.ACQ_TR_N (e k t : Nat) : Nat := engBase e + 0x104 + 0x40 * k + 0x10 * t
def Reg.ACQ_TR_LO (e k t : Nat) : Nat := engBase e + 0x108 + 0x40 * k + 0x10 * t
def Reg.ACQ_TR_HI (e k t : Nat) : Nat := engBase e + 0x10c + 0x40 * k + 0x10 * t
def Reg.ACQ_SEG_LEN (e k : Nat) : Nat := engBase e + 0x400 + 0x20 * k
def Reg.ACQ_SEG_A_LO (e k : Nat) : Nat := engBase e + 0x404 + 0x20 * k
def Reg.ACQ_SEG_A_HI (e k : Nat) : Nat := engBase e + 0x408 + 0x20 * k
def Reg.ACQ_SEG_B_LO (e k : Nat) : Nat := engBase e + 0x40c + 0x20 * k
def Reg.ACQ_SEG_B_HI (e k : Nat) : Nat := engBase e + 0x410 + 0x20 * k
def F.ACQ_CTRL_STOP (e : Nat) : RF := ⟨Reg.ACQ_CTRL e, 1, 1⟩
def F.ACQ_CTRL_ARM (e : Nat) : RF := ⟨Reg.ACQ_CTRL e, 0, 1⟩
def F.ACQ_CFG_REARM (e : Nat) : RF := ⟨Reg.ACQ_CFG e, 31, 1⟩
def F.ACQ_CFG_HALT (e : Nat) : RF := ⟨Reg.ACQ_CFG e, 30, 1⟩
def F.ACQ_CFG_SBAY (e : Nat) : RF := ⟨Reg.ACQ_CFG e, 27, 2⟩
def F.ACQ_CFG_STREAM_T (e : Nat) : RF := ⟨Reg.ACQ_CFG e, 22, 5⟩
def F.ACQ_CFG_CTX_EN (e : Nat) : RF := ⟨Reg.ACQ_CFG e, 21, 1⟩
def F.ACQ_CFG_CTX (e : Nat) : RF := ⟨Reg.ACQ_CFG e, 17, 4⟩
def F.ACQ_CFG_TRIG_EN (e : Nat) : RF := ⟨Reg.ACQ_CFG e, 16, 1⟩
def F.ACQ_CFG_TRIG (e : Nat) : RF := ⟨Reg.ACQ_CFG e, 13, 3⟩
def F.ACQ_CFG_EXCL (e : Nat) : RF := ⟨Reg.ACQ_CFG e, 4, 3⟩
def F.ACQ_SRC_KIND (e : Nat) : RF := ⟨Reg.ACQ_SRC e, 30, 2⟩
def F.ACQ_SRC_B_EN (e : Nat) : RF := ⟨Reg.ACQ_SRC e, 29, 1⟩
def F.ACQ_SRC_CH_B (e : Nat) : RF := ⟨Reg.ACQ_SRC e, 8, 6⟩
def F.ACQ_SRC_CH_A (e : Nat) : RF := ⟨Reg.ACQ_SRC e, 0, 6⟩
def F.ACQ_HOLDOFF_MODE (e : Nat) : RF := ⟨Reg.ACQ_HOLDOFF e, 30, 2⟩
def F.ACQ_HOLDOFF_N (e : Nat) : RF := ⟨Reg.ACQ_HOLDOFF e, 0, 24⟩
def F.ACQ_RED_N (e : Nat) : RF := ⟨Reg.ACQ_RED e, 0, 24⟩
def F.ACQ_MASK_CFG_REPEAT (e : Nat) : RF := ⟨Reg.ACQ_MASK_CFG e, 31, 1⟩
def F.ACQ_MASK_CFG_B_CHECK (e : Nat) : RF := ⟨Reg.ACQ_MASK_CFG e, 30, 1⟩
def F.ACQ_MASK_CFG_VSTOP (e : Nat) : RF := ⟨Reg.ACQ_MASK_CFG e, 29, 1⟩
def F.ACQ_MASK_CFG_LAST (e : Nat) : RF := ⟨Reg.ACQ_MASK_CFG e, 0, 4⟩
def F.ACQ_STATUS_RESULT (e : Nat) : RF := ⟨Reg.ACQ_STATUS e, 24, 8⟩
def F.ACQ_STATUS_CAUSE (e : Nat) : RF := ⟨Reg.ACQ_STATUS e, 20, 4⟩
def F.ACQ_STATUS_TSTATE (e : Nat) : RF := ⟨Reg.ACQ_STATUS e, 16, 3⟩
def F.ACQ_STATUS_SEG (e : Nat) : RF := ⟨Reg.ACQ_STATUS e, 12, 4⟩
def F.ACQ_STATUS_HOLDOFF (e : Nat) : RF := ⟨Reg.ACQ_STATUS e, 10, 1⟩
def F.ACQ_STATUS_MASK (e : Nat) : RF := ⟨Reg.ACQ_STATUS e, 9, 1⟩
def F.ACQ_STATUS_STATE (e : Nat) : RF := ⟨Reg.ACQ_STATUS e, 0, 2⟩
def F.ACQ_TRIGS (e : Nat) : RF := ⟨Reg.ACQ_TRIGS e, 0, 32⟩
def F.ACQ_VIOL (e : Nat) : RF := ⟨Reg.ACQ_VIOL e, 0, 32⟩
def F.ACQ_GAP (e : Nat) : RF := ⟨Reg.ACQ_GAP e, 0, 32⟩
def F.ACQ_EXCL (e : Nat) : RF := ⟨Reg.ACQ_EXCL e, 0, 32⟩
def F.ACQ_CNT0 (e : Nat) : RF := ⟨Reg.ACQ_CNT0 e, 0, 32⟩
def F.ACQ_CNT1 (e : Nat) : RF := ⟨Reg.ACQ_CNT1 e, 0, 32⟩
def F.ACQ_TIMER (e : Nat) : RF := ⟨Reg.ACQ_TIMER e, 0, 32⟩
def F.ACQ_SIDX_LO (e : Nat) : RF := ⟨Reg.ACQ_SIDX_LO e, 0, 32⟩
def F.ACQ_SIDX_HI_WRAP (e : Nat) : RF := ⟨Reg.ACQ_SIDX_HI e, 31, 1⟩
def F.ACQ_SIDX_HI_HI (e : Nat) : RF := ⟨Reg.ACQ_SIDX_HI e, 0, 16⟩
def F.ACQ_STATE_REDUCE (e k : Nat) : RF := ⟨Reg.ACQ_STATE e k, 3, 1⟩
def F.ACQ_STATE_CLR1 (e k : Nat) : RF := ⟨Reg.ACQ_STATE e k, 1, 1⟩
def F.ACQ_STATE_CLR0 (e k : Nat) : RF := ⟨Reg.ACQ_STATE e k, 0, 1⟩
def F.ACQ_TR_CTRL_EN (e k t : Nat) : RF := ⟨Reg.ACQ_TR_CTRL e k t, 31, 1⟩
def F.ACQ_TR_CTRL_NEXT (e k t : Nat) : RF := ⟨Reg.ACQ_TR_CTRL e k t, 28, 3⟩
def F.ACQ_TR_CTRL_PRED (e k t : Nat) : RF := ⟨Reg.ACQ_TR_CTRL e k t, 24, 4⟩
def F.ACQ_TR_CTRL_QUAL (e k t : Nat) : RF := ⟨Reg.ACQ_TR_CTRL e k t, 22, 2⟩
def F.ACQ_TR_CTRL_EXT (e k t : Nat) : RF := ⟨Reg.ACQ_TR_CTRL e k t, 16, 6⟩
def F.ACQ_TR_CTRL_KSEL (e k t : Nat) : RF := ⟨Reg.ACQ_TR_CTRL e k t, 15, 1⟩
def F.ACQ_TR_CTRL_ACTIONS (e k t : Nat) : RF := ⟨Reg.ACQ_TR_CTRL e k t, 8, 5⟩
def F.ACQ_TR_N (e k t : Nat) : RF := ⟨Reg.ACQ_TR_N e k t, 0, 32⟩
def F.ACQ_TR_LO (e k t : Nat) : RF := ⟨Reg.ACQ_TR_LO e k t, 0, 32⟩
def F.ACQ_TR_HI (e k t : Nat) : RF := ⟨Reg.ACQ_TR_HI e k t, 0, 32⟩
def F.ACQ_SEG_LEN_LEN (e k : Nat) : RF := ⟨Reg.ACQ_SEG_LEN e k, 0, 24⟩
def F.ACQ_SEG_A_LO (e k : Nat) : RF := ⟨Reg.ACQ_SEG_A_LO e k, 0, 32⟩
def F.ACQ_SEG_A_HI (e k : Nat) : RF := ⟨Reg.ACQ_SEG_A_HI e k, 0, 32⟩
def F.ACQ_SEG_B_LO (e k : Nat) : RF := ⟨Reg.ACQ_SEG_B_LO e k, 0, 32⟩
def F.ACQ_SEG_B_HI (e k : Nat) : RF := ⟨Reg.ACQ_SEG_B_HI e k, 0, 32⟩
/-- The ACQ rows: base, index dimensions (count, stride), and the bit masks RW, W1C, W1S, WL, LIVE, WO1. -/
def regRowsACQ : List RegRow := [
  ⟨0x160000, [(4, 0x100000), (2, 0x1000)], 0, 0, 0x3, 0, 0, 0⟩,
  ⟨0x160004, [(4, 0x100000), (2, 0x1000)], 0xdfffe070, 0, 0, 0, 0, 0⟩,
  ⟨0x160008, [(4, 0x100000), (2, 0x1000)], 0xe0003f3f, 0, 0, 0, 0, 0⟩,
  ⟨0x16000c, [(4, 0x100000), (2, 0x1000)], 0xc0ffffff, 0, 0, 0, 0, 0⟩,
  ⟨0x160010, [(4, 0x100000), (2, 0x1000)], 0xffffff, 0, 0, 0, 0, 0⟩,
  ⟨0x160014, [(4, 0x100000), (2, 0x1000)], 0xe000000f, 0, 0, 0, 0, 0⟩,
  ⟨0x160018, [(4, 0x100000), (2, 0x1000)], 0, 0, 0, 0, 0, 0⟩,
  ⟨0x16001c, [(4, 0x100000), (2, 0x1000)], 0, 0, 0, 0, 0, 0⟩,
  ⟨0x160020, [(4, 0x100000), (2, 0x1000)], 0, 0, 0, 0, 0, 0⟩,
  ⟨0x160024, [(4, 0x100000), (2, 0x1000)], 0, 0, 0, 0, 0, 0⟩,
  ⟨0x160028, [(4, 0x100000), (2, 0x1000)], 0, 0, 0, 0, 0, 0⟩,
  ⟨0x16002c, [(4, 0x100000), (2, 0x1000)], 0, 0, 0, 0, 0, 0⟩,
  ⟨0x160030, [(4, 0x100000), (2, 0x1000)], 0, 0, 0, 0, 0, 0⟩,
  ⟨0x160034, [(4, 0x100000), (2, 0x1000)], 0, 0, 0, 0, 0, 0⟩,
  ⟨0x160038, [(4, 0x100000), (2, 0x1000)], 0, 0, 0, 0, 0, 0⟩,
  ⟨0x16003c, [(4, 0x100000), (2, 0x1000)], 0, 0, 0, 0, 0, 0⟩,
  ⟨0x160040, [(4, 0x100000), (2, 0x1000), (8, 0x4)], 0xb, 0, 0, 0, 0, 0⟩,
  ⟨0x160100, [(4, 0x100000), (2, 0x1000), (8, 0x40), (4, 0x10)], 0xffff9f00, 0, 0, 0, 0, 0⟩,
  ⟨0x160104, [(4, 0x100000), (2, 0x1000), (8, 0x40), (4, 0x10)], 0xffffffff, 0, 0, 0, 0, 0⟩,
  ⟨0x160108, [(4, 0x100000), (2, 0x1000), (8, 0x40), (4, 0x10)], 0xffffffff, 0, 0, 0, 0, 0⟩,
  ⟨0x16010c, [(4, 0x100000), (2, 0x1000), (8, 0x40), (4, 0x10)], 0xffffffff, 0, 0, 0, 0, 0⟩,
  ⟨0x160400, [(4, 0x100000), (2, 0x1000), (16, 0x20)], 0xffffff, 0, 0, 0, 0, 0⟩,
  ⟨0x160404, [(4, 0x100000), (2, 0x1000), (16, 0x20)], 0xffffffff, 0, 0, 0, 0, 0⟩,
  ⟨0x160408, [(4, 0x100000), (2, 0x1000), (16, 0x20)], 0xffffffff, 0, 0, 0, 0, 0⟩,
  ⟨0x16040c, [(4, 0x100000), (2, 0x1000), (16, 0x20)], 0xffffffff, 0, 0, 0, 0, 0⟩,
  ⟨0x160410, [(4, 0x100000), (2, 0x1000), (16, 0x20)], 0xffffffff, 0, 0, 0, 0, 0⟩]

/-! ### PMU -/
def Reg.PMU_CTRL (ch : Nat) : Nat := bayBase (ch / 64) + 0x70000 + 0x40 * (ch % 64)
def Reg.PMU_FORCE (ch : Nat) : Nat := bayBase (ch / 64) + 0x70004 + 0x40 * (ch % 64)
def Reg.PMU_CLAMP (ch : Nat) : Nat := bayBase (ch / 64) + 0x70008 + 0x40 * (ch % 64)
def Reg.PMU_STATUS (ch : Nat) : Nat := bayBase (ch / 64) + 0x7000c + 0x40 * (ch % 64)
def Reg.PMU_SENSE (b i : Nat) : Nat := bayBase b + 0x71000 + 0x4 * i
def F.PMU_CTRL_IRANGE (ch : Nat) : RF := ⟨Reg.PMU_CTRL ch, 8, 3⟩
def F.PMU_CTRL_MODE (ch : Nat) : RF := ⟨Reg.PMU_CTRL ch, 0, 3⟩
def F.PMU_FORCE_CODE (ch : Nat) : RF := ⟨Reg.PMU_FORCE ch, 0, 16⟩
def F.PMU_CLAMP_HI (ch : Nat) : RF := ⟨Reg.PMU_CLAMP ch, 16, 16⟩
def F.PMU_CLAMP_LO (ch : Nat) : RF := ⟨Reg.PMU_CLAMP ch, 0, 16⟩
def F.PMU_STATUS_SENSE_OPEN (ch : Nat) : RF := ⟨Reg.PMU_STATUS ch, 15, 1⟩
def F.PMU_STATUS_CLAMP (ch : Nat) : RF := ⟨Reg.PMU_STATUS ch, 14, 1⟩
def F.PMU_STATUS_CFG_ERR (ch : Nat) : RF := ⟨Reg.PMU_STATUS ch, 13, 1⟩
def F.PMU_STATUS_CODE_RANGE (ch : Nat) : RF := ⟨Reg.PMU_STATUS ch, 12, 1⟩
def F.PMU_STATUS_CLAMP_NOW (ch : Nat) : RF := ⟨Reg.PMU_STATUS ch, 9, 1⟩
def F.PMU_STATUS_SETTLED (ch : Nat) : RF := ⟨Reg.PMU_STATUS ch, 4, 1⟩
def F.PMU_STATUS_STATE (ch : Nat) : RF := ⟨Reg.PMU_STATUS ch, 0, 2⟩
def F.PMU_SENSE_EN (b i : Nat) : RF := ⟨Reg.PMU_SENSE b i, 31, 1⟩
def F.PMU_SENSE_CHANNEL (b i : Nat) : RF := ⟨Reg.PMU_SENSE b i, 0, 6⟩
/-- The PMU rows: base, index dimensions (count, stride), and the bit masks RW, W1C, W1S, WL, LIVE, WO1. -/
def regRowsPMU : List RegRow := [
  ⟨0x170000, [(4, 0x100000), (64, 0x40)], 0, 0, 0, 0x7, 0x700, 0⟩,
  ⟨0x170004, [(4, 0x100000), (64, 0x40)], 0, 0, 0, 0, 0xffff, 0⟩,
  ⟨0x170008, [(4, 0x100000), (64, 0x40)], 0, 0, 0, 0, 0xffffffff, 0⟩,
  ⟨0x17000c, [(4, 0x100000), (64, 0x40)], 0, 0xc000, 0, 0, 0, 0⟩,
  ⟨0x171000, [(4, 0x100000), (4, 0x4)], 0, 0, 0, 0x8000003f, 0, 0⟩]

/-! ### FLT -/
def Reg.FLT_CH (ch : Nat) : Nat := bayBase (ch / 64) + 0x70010 + 0x40 * (ch % 64)
def Reg.FLT_LAST (ch : Nat) : Nat := bayBase (ch / 64) + 0x70014 + 0x40 * (ch % 64)
def Reg.FLT_GD (ch : Nat) : Nat := bayBase (ch / 64) + 0x70018 + 0x40 * (ch % 64)
def Reg.FLT_BANK (b : Nat) : Nat := bayBase b + 0x71100
def Reg.FLT_GRID (b : Nat) : Nat := bayBase b + 0x71104
def Reg.FLT_COEF_A (b i : Nat) : Nat := bayBase b + 0x72000 + 0x4 * i
def Reg.FLT_COEF_B (b i : Nat) : Nat := bayBase b + 0x72200 + 0x4 * i
def F.FLT_CH_EN (ch : Nat) : RF := ⟨Reg.FLT_CH ch, 31, 1⟩
def F.FLT_CH_PHASE (ch : Nat) : RF := ⟨Reg.FLT_CH ch, 16, 10⟩
def F.FLT_CH_PRESET (ch : Nat) : RF := ⟨Reg.FLT_CH ch, 0, 2⟩
def F.FLT_LAST (ch : Nat) : RF := ⟨Reg.FLT_LAST ch, 0, 32⟩
def F.FLT_GD_GD (ch : Nat) : RF := ⟨Reg.FLT_GD ch, 0, 24⟩
def F.FLT_BANK_SWAP (b : Nat) : RF := ⟨Reg.FLT_BANK b, 31, 1⟩
def F.FLT_BANK_PENDING (b : Nat) : RF := ⟨Reg.FLT_BANK b, 30, 1⟩
def F.FLT_BANK_ACTIVE (b : Nat) : RF := ⟨Reg.FLT_BANK b, 16, 1⟩
def F.FLT_BANK_TAPS_B (b : Nat) : RF := ⟨Reg.FLT_BANK b, 8, 7⟩
def F.FLT_BANK_TAPS_A (b : Nat) : RF := ⟨Reg.FLT_BANK b, 0, 7⟩
def F.FLT_GRID_N (b : Nat) : RF := ⟨Reg.FLT_GRID b, 0, 16⟩
def F.FLT_COEF_A_C (b i : Nat) : RF := ⟨Reg.FLT_COEF_A b i, 0, 24⟩
def F.FLT_COEF_B_C (b i : Nat) : RF := ⟨Reg.FLT_COEF_B b i, 0, 24⟩
/-- The FLT rows: base, index dimensions (count, stride), and the bit masks RW, W1C, W1S, WL, LIVE, WO1. -/
def regRowsFLT : List RegRow := [
  ⟨0x170010, [(4, 0x100000), (64, 0x40)], 0, 0, 0, 0x83ff0003, 0, 0⟩,
  ⟨0x170014, [(4, 0x100000), (64, 0x40)], 0, 0, 0, 0, 0, 0⟩,
  ⟨0x170018, [(4, 0x100000), (64, 0x40)], 0, 0, 0, 0, 0, 0⟩,
  ⟨0x171100, [(4, 0x100000)], 0x7f7f, 0, 0x80000000, 0, 0, 0⟩,
  ⟨0x171104, [(4, 0x100000)], 0, 0, 0, 0, 0, 0⟩,
  ⟨0x172000, [(4, 0x100000), (96, 0x4)], 0xffffff, 0, 0, 0, 0, 0⟩,
  ⟨0x172200, [(4, 0x100000), (96, 0x4)], 0xffffff, 0, 0, 0, 0, 0⟩]

/-! ### CHN -/
def Reg.CHN_CTRL (ch : Nat) : Nat := chnBase ch + 0x0
def Reg.CHN_SITE (ch : Nat) : Nat := chnBase ch + 0x4
def Reg.CHN_TERM (ch : Nat) : Nat := chnBase ch + 0x8
def Reg.CHN_PARK (ch : Nat) : Nat := chnBase ch + 0xc
def Reg.CHN_VIH (ch : Nat) : Nat := chnBase ch + 0x10
def Reg.CHN_VIL (ch : Nat) : Nat := chnBase ch + 0x14
def Reg.CHN_VTT (ch : Nat) : Nat := chnBase ch + 0x18
def Reg.CHN_VOH (ch : Nat) : Nat := chnBase ch + 0x1c
def Reg.CHN_VOL (ch : Nat) : Nat := chnBase ch + 0x20
def Reg.CHN_STATIC (ch : Nat) : Nat := chnBase ch + 0x24
def Reg.CHN_FENCE (ch : Nat) : Nat := chnBase ch + 0x28
def Reg.CHN_STATUS (ch : Nat) : Nat := chnBase ch + 0x2c
def F.CHN_CTRL_CTX (ch : Nat) : RF := ⟨Reg.CHN_CTRL ch, 8, 5⟩
def F.CHN_CTRL_PATH (ch : Nat) : RF := ⟨Reg.CHN_CTRL ch, 4, 2⟩
def F.CHN_CTRL_MODE (ch : Nat) : RF := ⟨Reg.CHN_CTRL ch, 0, 1⟩
def F.CHN_SITE_VALID (ch : Nat) : RF := ⟨Reg.CHN_SITE ch, 6, 1⟩
def F.CHN_SITE_SITE (ch : Nat) : RF := ⟨Reg.CHN_SITE ch, 0, 6⟩
def F.CHN_TERM_EN (ch : Nat) : RF := ⟨Reg.CHN_TERM ch, 0, 1⟩
def F.CHN_PARK_MODE (ch : Nat) : RF := ⟨Reg.CHN_PARK ch, 0, 3⟩
def F.CHN_VIH_CODE (ch : Nat) : RF := ⟨Reg.CHN_VIH ch, 0, 16⟩
def F.CHN_VIL_CODE (ch : Nat) : RF := ⟨Reg.CHN_VIL ch, 0, 16⟩
def F.CHN_VTT_CODE (ch : Nat) : RF := ⟨Reg.CHN_VTT ch, 0, 16⟩
def F.CHN_VOH_CODE (ch : Nat) : RF := ⟨Reg.CHN_VOH ch, 0, 16⟩
def F.CHN_VOL_CODE (ch : Nat) : RF := ⟨Reg.CHN_VOL ch, 0, 16⟩
def F.CHN_STATIC_SYM (ch : Nat) : RF := ⟨Reg.CHN_STATIC ch, 0, 4⟩
def F.CHN_FENCE_CAUSE (ch : Nat) : RF := ⟨Reg.CHN_FENCE ch, 12, 4⟩
def F.CHN_FENCE_CLEAR_PENDING (ch : Nat) : RF := ⟨Reg.CHN_FENCE ch, 2, 1⟩
def F.CHN_FENCE_CLEAR (ch : Nat) : RF := ⟨Reg.CHN_FENCE ch, 1, 1⟩
def F.CHN_FENCE_SET (ch : Nat) : RF := ⟨Reg.CHN_FENCE ch, 0, 1⟩
def F.CHN_STATUS_OVERVOLT (ch : Nat) : RF := ⟨Reg.CHN_STATUS ch, 15, 1⟩
def F.CHN_STATUS_ILIM (ch : Nat) : RF := ⟨Reg.CHN_STATUS ch, 14, 1⟩
def F.CHN_STATUS_RANGE (ch : Nat) : RF := ⟨Reg.CHN_STATUS ch, 13, 1⟩
def F.CHN_STATUS_CMP_H (ch : Nat) : RF := ⟨Reg.CHN_STATUS ch, 9, 1⟩
def F.CHN_STATUS_CMP_L (ch : Nat) : RF := ⟨Reg.CHN_STATUS ch, 8, 1⟩
def F.CHN_STATUS_SETTLED (ch : Nat) : RF := ⟨Reg.CHN_STATUS ch, 4, 1⟩
def F.CHN_STATUS_STATE (ch : Nat) : RF := ⟨Reg.CHN_STATUS ch, 0, 3⟩
/-- The CHN rows: base, index dimensions (count, stride), and the bit masks RW, W1C, W1S, WL, LIVE, WO1. -/
def regRowsCHN : List RegRow := [
  ⟨0x180000, [(4, 0x100000), (64, 0x1000)], 0, 0, 0, 0x1f31, 0, 0⟩,
  ⟨0x180004, [(4, 0x100000), (64, 0x1000)], 0, 0, 0, 0x7f, 0, 0⟩,
  ⟨0x180008, [(4, 0x100000), (64, 0x1000)], 0, 0, 0, 0x1, 0, 0⟩,
  ⟨0x18000c, [(4, 0x100000), (64, 0x1000)], 0, 0, 0, 0, 0x7, 0⟩,
  ⟨0x180010, [(4, 0x100000), (64, 0x1000)], 0, 0, 0, 0xffff, 0, 0⟩,
  ⟨0x180014, [(4, 0x100000), (64, 0x1000)], 0, 0, 0, 0xffff, 0, 0⟩,
  ⟨0x180018, [(4, 0x100000), (64, 0x1000)], 0, 0, 0, 0xffff, 0, 0⟩,
  ⟨0x18001c, [(4, 0x100000), (64, 0x1000)], 0, 0, 0, 0xffff, 0, 0⟩,
  ⟨0x180020, [(4, 0x100000), (64, 0x1000)], 0, 0, 0, 0xffff, 0, 0⟩,
  ⟨0x180024, [(4, 0x100000), (64, 0x1000)], 0xf, 0, 0, 0, 0, 0⟩,
  ⟨0x180028, [(4, 0x100000), (64, 0x1000)], 0, 0, 0x3, 0, 0, 0⟩,
  ⟨0x18002c, [(4, 0x100000), (64, 0x1000)], 0, 0xc000, 0, 0, 0, 0⟩]

/-! ### EDG -/
def Reg.EDG_DSK_DRV (ch : Nat) : Nat := chnBase ch + 0x200
def Reg.EDG_DSK_CMP (ch : Nat) : Nat := chnBase ch + 0x204
def Reg.EDG_CORR_DRV (ch : Nat) : Nat := chnBase ch + 0x208
def Reg.EDG_CORR_CMP (ch : Nat) : Nat := chnBase ch + 0x20c
def Reg.EDG_STATUS (ch : Nat) : Nat := chnBase ch + 0x210
def Reg.EDG_TS_CTRL (ch k : Nat) : Nat := chnBase ch + 0x400 + 0x20 * k
def Reg.EDG_TS_D1 (ch k : Nat) : Nat := chnBase ch + 0x404 + 0x20 * k
def Reg.EDG_TS_D2 (ch k : Nat) : Nat := chnBase ch + 0x408 + 0x20 * k
def Reg.EDG_TS_E1 (ch k : Nat) : Nat := chnBase ch + 0x40c + 0x20 * k
def Reg.EDG_TS_E2 (ch k : Nat) : Nat := chnBase ch + 0x410 + 0x20 * k
def Reg.EDG_TS_S1 (ch k : Nat) : Nat := chnBase ch + 0x414 + 0x20 * k
def Reg.EDG_TS_S2 (ch k : Nat) : Nat := chnBase ch + 0x418 + 0x20 * k
def F.EDG_DSK_DRV_DSK (ch : Nat) : RF := ⟨Reg.EDG_DSK_DRV ch, 0, 17⟩
def F.EDG_DSK_CMP_DSK (ch : Nat) : RF := ⟨Reg.EDG_DSK_CMP ch, 0, 17⟩
def F.EDG_CORR_DRV_CORR (ch : Nat) : RF := ⟨Reg.EDG_CORR_DRV ch, 0, 13⟩
def F.EDG_CORR_CMP_CORR (ch : Nat) : RF := ⟨Reg.EDG_CORR_CMP ch, 0, 13⟩
def F.EDG_STATUS_PEND (ch : Nat) : RF := ⟨Reg.EDG_STATUS ch, 16, 8⟩
def F.EDG_STATUS_CHECK (ch : Nat) : RF := ⟨Reg.EDG_STATUS ch, 3, 1⟩
def F.EDG_STATUS_DISCARD (ch : Nat) : RF := ⟨Reg.EDG_STATUS ch, 2, 1⟩
def F.EDG_STATUS_ORDER (ch : Nat) : RF := ⟨Reg.EDG_STATUS ch, 1, 1⟩
def F.EDG_STATUS_SPACING (ch : Nat) : RF := ⟨Reg.EDG_STATUS ch, 0, 1⟩
def F.EDG_TS_CTRL_VALID (ch k : Nat) : RF := ⟨Reg.EDG_TS_CTRL ch k, 8, 1⟩
def F.EDG_TS_CTRL_STROBE (ch k : Nat) : RF := ⟨Reg.EDG_TS_CTRL ch k, 4, 2⟩
def F.EDG_TS_CTRL_FORMAT (ch k : Nat) : RF := ⟨Reg.EDG_TS_CTRL ch k, 0, 3⟩
def F.EDG_TS_D1_EN (ch k : Nat) : RF := ⟨Reg.EDG_TS_D1 ch k, 31, 1⟩
def F.EDG_TS_D1_TIME (ch k : Nat) : RF := ⟨Reg.EDG_TS_D1 ch k, 0, 31⟩
def F.EDG_TS_D2_EN (ch k : Nat) : RF := ⟨Reg.EDG_TS_D2 ch k, 31, 1⟩
def F.EDG_TS_D2_TIME (ch k : Nat) : RF := ⟨Reg.EDG_TS_D2 ch k, 0, 31⟩
def F.EDG_TS_E1_EN (ch k : Nat) : RF := ⟨Reg.EDG_TS_E1 ch k, 31, 1⟩
def F.EDG_TS_E1_TIME (ch k : Nat) : RF := ⟨Reg.EDG_TS_E1 ch k, 0, 31⟩
def F.EDG_TS_E2_EN (ch k : Nat) : RF := ⟨Reg.EDG_TS_E2 ch k, 31, 1⟩
def F.EDG_TS_E2_TIME (ch k : Nat) : RF := ⟨Reg.EDG_TS_E2 ch k, 0, 31⟩
def F.EDG_TS_S1_EN (ch k : Nat) : RF := ⟨Reg.EDG_TS_S1 ch k, 31, 1⟩
def F.EDG_TS_S1_TIME (ch k : Nat) : RF := ⟨Reg.EDG_TS_S1 ch k, 0, 31⟩
def F.EDG_TS_S2_EN (ch k : Nat) : RF := ⟨Reg.EDG_TS_S2 ch k, 31, 1⟩
def F.EDG_TS_S2_TIME (ch k : Nat) : RF := ⟨Reg.EDG_TS_S2 ch k, 0, 31⟩
/-- The EDG rows: base, index dimensions (count, stride), and the bit masks RW, W1C, W1S, WL, LIVE, WO1. -/
def regRowsEDG : List RegRow := [
  ⟨0x180200, [(4, 0x100000), (64, 0x1000)], 0, 0, 0, 0x1ffff, 0, 0⟩,
  ⟨0x180204, [(4, 0x100000), (64, 0x1000)], 0, 0, 0, 0x1ffff, 0, 0⟩,
  ⟨0x180208, [(4, 0x100000), (64, 0x1000)], 0, 0, 0, 0, 0, 0⟩,
  ⟨0x18020c, [(4, 0x100000), (64, 0x1000)], 0, 0, 0, 0, 0, 0⟩,
  ⟨0x180210, [(4, 0x100000), (64, 0x1000)], 0, 0xf, 0, 0, 0, 0⟩,
  ⟨0x180400, [(4, 0x100000), (64, 0x1000), (64, 0x20)], 0, 0, 0, 0x137, 0, 0⟩,
  ⟨0x180404, [(4, 0x100000), (64, 0x1000), (64, 0x20)], 0, 0, 0, 0xffffffff, 0, 0⟩,
  ⟨0x180408, [(4, 0x100000), (64, 0x1000), (64, 0x20)], 0, 0, 0, 0xffffffff, 0, 0⟩,
  ⟨0x18040c, [(4, 0x100000), (64, 0x1000), (64, 0x20)], 0, 0, 0, 0xffffffff, 0, 0⟩,
  ⟨0x180410, [(4, 0x100000), (64, 0x1000), (64, 0x20)], 0, 0, 0, 0xffffffff, 0, 0⟩,
  ⟨0x180414, [(4, 0x100000), (64, 0x1000), (64, 0x20)], 0, 0, 0, 0xffffffff, 0, 0⟩,
  ⟨0x180418, [(4, 0x100000), (64, 0x1000), (64, 0x20)], 0, 0, 0, 0xffffffff, 0, 0⟩]

/-- Every register of the map. -/
def regRows : List RegRow :=
  regRowsSYS ++ regRowsPWR ++ regRowsHST ++ regRowsDMA ++ regRowsFCL ++ regRowsIRQ ++ regRowsSEC ++ regRowsNVS ++ regRowsMTR ++ regRowsNTM ++ regRowsCAL ++ regRowsDBG ++ regRowsIST ++ regRowsWKS ++ regRowsSPD ++ regRowsLNK ++ regRowsGRP ++ regRowsSTK ++ regRowsLIB ++ regRowsTIM ++ regRowsRDR ++ regRowsUCS ++ regRowsLDG ++ regRowsACQ ++ regRowsPMU ++ regRowsFLT ++ regRowsCHN ++ regRowsEDG

/-- The chip-wide registers whose reset value is not zero (Table 23-3; SPD_BANK and LNK_VC_CREDIT per index). -/
def chipResets : List (Nat × List (Nat × Nat) × Word) := [
  (0x0, [], 0xb25600a1),
  (0x4, [], 0x1b2565d3),
  (0x8, [], 0x4100100),
  (0x100, [], 0x1),
  (0x104, [], 0x3),
  (0x114, [], 0xc3),
  (0x8200, [], 0x1),
  (0x14008, [(256, 0x40)], 0x4000000),
  (0x1800c, [(64, 0x10)], 0x1),
  (0x30004, [], 0x10c),
  (0x30034, [], 0x3e8),
  (0x3a100, [(16, 0x4)], 0xa),
  (0x50000, [], 0x3030),
  (0x50008, [], 0x3e80808),
  (0x60000, [], 0x4c4b40),
  (0x60004, [], 0x1),
  (0x60100, [(4, 0x40)], 0x801e0008),
  (0x60118, [(4, 0x40)], 0x8307d0),
  (0x78000, [], 0x8014000f),
  (0x80000, [], 0x1),
  (0x80018, [], 0x10),
  (0x80208, [(4, 0x20)], 0x100010),
  (0x88100, [(32, 0x4)], 0x80000010),
  (0x88180, [(32, 0x4)], 0x10),
  (0x90000, [(4, 0x400)], 0x80000000),
  (0x90004, [(4, 0x400)], 0x4),
  (0x90040, [(4, 0x400)], 0x8000000),
  (0x90044, [(4, 0x400)], 0x1000000),
  (0x90048, [(4, 0x400)], 0x400000),
  (0x9004c, [(4, 0x400)], 0x400000),
  (0x92004, [(16, 0x100)], 0x2710),
  (0x9200c, [(16, 0x100)], 0x8),
  (0x92014, [(16, 0x100)], 0xfff0400),
  (0x92028, [(16, 0x100)], 0x8),
  (0xa0004, [], 0x8),
  (0xa0010, [], 0x42),
  (0xa0014, [], 0x186a0),
  (0xa001c, [], 0x10000a),
  (0xa0020, [], 0x3e8),
  (0xb0000, [], 0x18),
  (0xb0108, [(2, 0x100)], 0x19617595),
  (0xb010c, [(2, 0x100)], 0x1a),
  (0xb0110, [(2, 0x100)], 0x30),
  (0xb0118, [(2, 0x100)], 0x1000000a),
  (0xb0124, [(2, 0x100)], 0x2),
  (0xc0008, [], 0xa),
  (0xd0004, [(4, 0x1000)], 0x100),
  (0xd0010, [(4, 0x1000)], 0x1),
  (0xd0014, [(4, 0x1000)], 0x1)]

/-- The bay-space registers whose reset value is not zero (Table 23-4). -/
def bayResets : List (Nat × List (Nat × Nat) × Word) := [
  (0x140000, [(4, 0x100000)], 0x100a1),
  (0x151008, [(4, 0x100000), (21, 0x20)], 0x10),
  (0x171100, [(4, 0x100000)], 0x6060),
  (0x180000, [(4, 0x100000), (64, 0x1000)], 0x1f00)]

end Sys2Proof.Machine
end

