-- ==== Sys2Proof/Machine/Ops.lean ====
section
/-! DEFINITION. The named operations over sparse maps, registers, bytes and the parts of the state. Every meaning reads
and writes the state through these. -/
namespace Sys2Proof.Machine

/-! ### Sparse maps -/

/-- What a map holds at a key; an unlisted key reads as the default. -/
def SMap.get {α : Type} (d : α) : SMap α → Nat → α
  | [], _ => d
  | (k', v) :: m, k => if k' = k then v else SMap.get d m k

/-- Remove a key. -/
def SMap.erase {α : Type} : SMap α → Nat → SMap α
  | [], _ => []
  | (k', v) :: m, k => if k' = k then SMap.erase m k else (k', v) :: SMap.erase m k

/-- Put an entry at its place by rising key. -/
def SMap.insert {α : Type} : SMap α → Nat → α → SMap α
  | [], k, v => [(k, v)]
  | (k', v') :: m, k, v =>
    if k < k' then (k, v) :: (k', v') :: m
    else if k = k' then (k, v) :: m
    else (k', v') :: SMap.insert m k v

/-- Write a key: the default is not listed, so equal maps are equal lists. -/
def SMap.put {α : Type} [DecidableEq α] (d : α) (m : SMap α) (k : Nat) (v : α) : SMap α :=
  if v = d then SMap.erase m k else SMap.insert m k v

/-- The canonical form: keys strictly rise and no entry equals the default of its key. -/
def SMap.wf {α : Type} [DecidableEq α] (d : Nat → α) : SMap α → Bool
  | [] => true
  | [(k, v)] => decide (v ≠ d k)
  | (k, v) :: (k', v') :: m => decide (k < k') && decide (v ≠ d k) && SMap.wf d ((k', v') :: m)

/-! ### Bits, bytes and numbers -/

/-- Bits [lo + w - 1 : lo] of a number (R7). -/
def bitsAt (v lo w : Nat) : Nat := v / 2 ^ lo % 2 ^ w

/-- The number with bits [lo + w - 1 : lo] replaced. -/
def setBits (v lo w x : Nat) : Nat :=
  v / 2 ^ (lo + w) * 2 ^ (lo + w) + x % 2 ^ w * 2 ^ lo + v % 2 ^ lo

/-- Bit i of a number. -/
def bitAt (v i : Nat) : Bool := v / 2 ^ i % 2 = 1

/-- The number with bit i set or cleared. -/
def setBitTo (v i : Nat) (b : Bool) : Nat := setBits v i 1 (if b then 1 else 0)

/-- A Bool as a bit. -/
def b2n (b : Bool) : Nat := if b then 1 else 0

/-- How many of the low `w` bits are 1. -/
def popCount (v : Nat) : Nat → Nat
  | 0 => 0
  | w + 1 => popCount v w + b2n (bitAt v w)

/-- The indices of the 1 bits among the low `w`. -/
def bitList (v w : Nat) : List Nat := (List.range w).filter (bitAt v)

/-- Two's complement of width w. -/
def signed (w v : Nat) : Int := if v % 2 ^ w < 2 ^ (w - 1) then (v % 2 ^ w : Nat) else ((v % 2 ^ w : Nat) : Int) - 2 ^ w

/-- The w-bit two's-complement code of an integer. -/
def unsigned (w : Nat) (i : Int) : Nat := (i % (2 ^ w : Int)).toNat

/-- Saturating addition at a maximum (R616). -/
def satAdd (max v n : Nat) : Nat := Nat.min max (v + n)

/-- The bytes of a number, least significant first (R8). -/
def leBytes (v : Nat) : Nat → List Byte
  | 0 => []
  | n + 1 => BitVec.ofNat 8 v :: leBytes (v / 256) n

/-- The number that little-endian bytes spell (R8). -/
def ofLe : List Byte → Nat
  | [] => 0
  | b :: bs => b.toNat + 256 * ofLe bs

/-- Bytes [off, off + n) of a list as a number. -/
def leAt (bs : List Byte) (off n : Nat) : Nat := ofLe ((bs.drop off).take n)

/-- One bit step of the reflected CRC-32C, polynomial 0x1EDC6F41 (05_folios_and_leaf_code.md Table 5-1). -/
def crcStep (c : BitVec 32) : BitVec 32 :=
  if c.getLsbD 0 then (c >>> 1) ^^^ 0x82F63B78#32 else c >>> 1

/-- Eight bit steps. -/
def crcByte (c : BitVec 32) (b : Byte) : BitVec 32 :=
  let c := c ^^^ b.setWidth 32
  crcStep (crcStep (crcStep (crcStep (crcStep (crcStep (crcStep (crcStep c)))))))

/-- CRC-32C with initial value and final exclusive-or of all ones (Table 5-1). -/
def crc32c (bs : List Byte) : Nat := ((bs.foldl crcByte 0xFFFFFFFF#32) ^^^ 0xFFFFFFFF#32).toNat

/-- Ceiling of a quotient. -/
def ceilDiv (n d : Nat) : Nat := if d = 0 then 0 else (n + d - 1) / d

/-! ### Registers -/

/-- Whether an address lies in a row's register array: its offset from the base is a sum of index times stride. -/
def inDims : Nat → List (Nat × Nat) → Bool
  | off, [] => off = 0
  | off, (n, st) :: ds => decide (off / st < n) && inDims (off % st) ds

/-- The row of an address, none for an unassigned offset (R11, R607). -/
def rowOf (a : Nat) : Option RegRow := regRows.find? (fun r => decide (r.base ≤ a) && inDims (a - r.base) r.dims)

/-- The value among reset rows for an address; 0 where none is listed. -/
def resetIn (a : Nat) : List (Nat × List (Nat × Nat) × Word) → Word
  | [] => 0
  | (base, dims, v) :: rs => if decide (base ≤ a) && inDims (a - base) dims then v else resetIn a rs

/-- The reset value of a register (R12, Tables 23-3 and 23-4). -/
def Reg.resetOf (a : Nat) : Word := if a < 0x100000 then resetIn a chipResets else resetIn a bayResets

/-- The stored value of a register. -/
def State.rd (s : State) (a : Nat) : Word := SMap.get (Reg.resetOf a) s.regs a

/-- Store a register. -/
def State.wr (s : State) (a : Nat) (v : Word) : State := { s with regs := SMap.put (Reg.resetOf a) s.regs a v }

/-- The stored value of a field, as a number. -/
def State.f (s : State) (r : RF) : Nat := bitsAt (s.rd r.addr).toNat r.lo r.width

/-- Store a field, leaving the register's other bits. -/
def State.setF (s : State) (r : RF) (v : Nat) : State :=
  s.wr r.addr (BitVec.ofNat 32 (setBits (s.rd r.addr).toNat r.lo r.width v))

/-- A field as a flag. -/
def State.flag (s : State) (r : RF) : Bool := s.f r ≠ 0

/-- Set or clear a flag. -/
def State.setFlag (s : State) (r : RF) (b : Bool) : State := s.setF r (b2n b)

/-- A field as a signed number. -/
def State.fs (s : State) (r : RF) : Int := signed r.width (s.f r)

/-- Add 1 to a field, saturating at its maximum (R616). -/
def State.satInc (s : State) (r : RF) : State := s.setF r (satAdd (2 ^ r.width - 1) (s.f r) 1)

/-- Apply an action for each index below n, in ascending order. -/
def State.each (s : State) (n : Nat) (act : Nat → State → State) : State :=
  (List.range n).foldl (fun s i => act i s) s

/-- Apply an action for each index of a list, in order. -/
def State.eachOf {α : Type} (s : State) (l : List α) (act : α → State → State) : State :=
  l.foldl (fun s i => act i s) s

/-- Apply an action under a condition. -/
def State.when (s : State) (c : Bool) (act : State → State) : State := if c then act s else s

/-! ### The parts of the state -/

/-- Record what the block sends outside. -/
def State.emit (s : State) (o : Out) : State := { s with out := s.out ++ [o] }

/-- The current free value (notes/assumptions/2.md). -/
def State.freeBits (s : State) (w : Nat) : BitVec w := Config.freeValue w s.fresh

/-- Advance to the next free value. -/
def State.nextFree (s : State) : State := { s with fresh := s.fresh + 1 }

def State.chan (s : State) (ch : Nat) : Chan := SMap.get {} s.chans ch
def State.setChan (s : State) (ch : Nat) (c : Chan) : State := { s with chans := SMap.put {} s.chans ch c }
def State.onChan (s : State) (ch : Nat) (g : Chan → Chan) : State := s.setChan ch (g (s.chan ch))
def State.ctx (s : State) (c : Nat) : Ctx := SMap.get {} s.ctxs c
def State.setCtx (s : State) (c : Nat) (x : Ctx) : State := { s with ctxs := SMap.put {} s.ctxs c x }
def State.onCtx (s : State) (c : Nat) (g : Ctx → Ctx) : State := s.setCtx c (g (s.ctx c))

/-- A byte of stack memory by LOCAL address (08_library_and_catalogue.md R208). -/
def State.ldByte (s : State) (a : Nat) : Byte := SMap.get 0 s.mem a
/-- Store a byte of stack memory. -/
def State.stByte (s : State) (a : Nat) (b : Byte) : State := { s with mem := SMap.put 0 s.mem a b }
/-- n bytes from a LOCAL address. -/
def State.ldBytes (s : State) (a n : Nat) : List Byte := (List.range n).map (fun i => s.ldByte (a + i))
/-- Store bytes from a LOCAL address on. -/
def State.stBytes (s : State) (a : Nat) : List Byte → State
  | [] => s
  | b :: bs => (s.stByte a b).stBytes (a + 1) bs

/-- Memory in canonical form: addresses strictly rise and no entry equals what an unlisted address reads as. -/
def Memory.wf (m : List Host.Cell) : Bool := SMap.wf (fun _ => (0 : Byte)) m

/-- The register map in canonical form. -/
def Regs.wf (m : SMap Word) : Bool := SMap.wf Reg.resetOf m

end Sys2Proof.Machine
end

