-- ==== Sys2Proof/Machine/Flags.lean ====
section
/-! DEFINITION. Modes and local states as the registers code them, sticky flags, interrupt sources, the active fault table
and the fault log: what every family of commands sets (02_modes_and_startup.md, 19_faults_and_interrupts.md). -/
namespace Sys2Proof.Machine

/-! ### Modes and context states -/

/-- Codes of Table 2-1. -/
def Mode.code : Mode → Nat
  | .cold => 0 | .boot => 1 | .standby => 2 | .idle => 3 | .calibrate => 4 | .load => 5
  | .armed => 6 | .run => 7 | .paused => 8 | .characterise => 9 | .selftest => 10 | .safe => 11

/-- The mode of a code of Table 2-1. -/
def Mode.ofCode : Nat → Mode
  | 1 => .boot | 2 => .standby | 3 => .idle | 4 => .calibrate | 5 => .load | 6 => .armed | 7 => .run
  | 8 => .paused | 9 => .characterise | 10 => .selftest | 11 => .safe | _ => .cold

/-- Codes of RDR_STATUS.STATE (Table 6-13). -/
def CtxState.code : CtxState → Nat
  | .off => 0 | .idle => 1 | .armed => 2 | .play => 3 | .wait => 4 | .hold => 5 | .paused => 6 | .stopped => 7

def CtxState.ofCode : Nat → CtxState
  | 1 => .idle | 2 => .armed | 3 => .play | 4 => .wait | 5 => .hold | 6 => .paused | 7 => .stopped | _ => .off

/-- A context's state (R178). -/
def State.ctxState (s : State) (c : Nat) : CtxState := CtxState.ofCode (s.f (F.RDR_STATUS_STATE c))

/-- In PLAY, WAIT or HOLD (R41). -/
def CtxState.playing : CtxState → Bool
  | .play | .wait | .hold => true
  | _ => false

/-- In ARMED, PLAY, WAIT, HOLD or PAUSED. -/
def CtxState.active : CtxState → Bool
  | .armed | .play | .wait | .hold | .paused => true
  | _ => false

/-- Some context satisfies a test on its state. -/
def State.anyCtx (s : State) (p : CtxState → Bool) : Bool := (List.range 16).any (fun c => p (s.ctxState c))

/-- The host-held mode, which SYS_MODE.MODE stores (R41). -/
def State.heldMode (s : State) : Mode := Mode.ofCode (s.f F.SYS_MODE_MODE)

/-- The mode in force: Cold, the host-held mode, or while that is Idle the first matching line of R41. -/
def State.mode (s : State) : Mode :=
  if s.sys.cold then .cold
  else if s.heldMode = .idle then
    if s.anyCtx CtxState.playing then .run
    else if s.anyCtx (fun x => decide (x = .paused)) then .paused
    else if s.anyCtx (fun x => decide (x = .armed)) then .armed
    else .idle
  else s.heldMode

/-- The modes in which WL registers are locked (Table 0-4). -/
def State.locked (s : State) : Bool := decide (s.mode = .armed) || decide (s.mode = .run)

/-! ### Units and fences -/

/-- A unit code: kind in bits [15:12], index in bits [11:0] (R523). -/
def unitCode (kind index : Nat) : Nat := kind * 0x1000 + index % 0x1000
def unitKind (u : Nat) : Nat := u / 0x1000
def unitIndex (u : Nat) : Nat := u % 0x1000

/-- The fence of a unit that is not a channel. -/
def State.fence (s : State) (u : Nat) : Option Fence := SMap.get none s.fcl.fences u

/-- Whether a unit is fenced: a channel by CHN_FENCE.CAUSE, any other by the collector's fence state. -/
def State.fenced (s : State) (u : Nat) : Bool :=
  if unitKind u = 1 then s.flag (F.CHN_FENCE_CAUSE (unitIndex u)) else (s.fence u).isSome

/-- Some unit is fenced. -/
def State.anyFence (s : State) : Bool :=
  (s.fcl.fences.any (fun p => p.2.isSome)) || (List.range 256).any (fun ch => s.flag (F.CHN_FENCE_CAUSE ch))

/-- SYS_MODE.DEGRADED (R40). -/
def State.degraded (s : State) : Bool :=
  s.anyFence && decide (s.mode ∈ [.idle, .calibrate, .load, .armed, .run, .paused, .characterise])

/-! ### Interrupt sources -/

/-- A vector may send: MSI-X is on, and neither the vector nor the function is masked (R60, R451; the function mask lies where
notes/assumptions/32.md presumes it). -/
def State.msixFree (s : State) (v : Nat) : Bool :=
  s.sys.msixOn && !s.flag (F.HST_MSIX_CTRL_MASK v) && !bitAt (SMap.get 0 s.hp.cfg 32).toNat 30

/-- A vector's message: sent where the vector may send, else pending in the PBA (R451, R545, R546). -/
def State.signal (s : State) (v : Nat) : State :=
  if s.msixFree v then s.emit (.msi v)
  else s.setFlag ⟨Reg.HST_MSIX_PBA (v / 32), v % 32, 1⟩ true

/-- A vector unmasked with a message pending sends it (R451). -/
def State.release (s : State) (v : Nat) : State :=
  let p : RF := ⟨Reg.HST_MSIX_PBA (v / 32), v % 32, 1⟩
  if s.flag p && s.msixFree v then (s.setFlag p false).emit (.msi v) else s

/-- An event of an interrupt source: its count rises, saturating at 255, and an enabled source whose count rises signals its
vector (R544, R545). -/
def State.irq (s : State) (n : Nat) : State :=
  let c := s.f (F.IRQ_SRC_CNT_COUNT n)
  if c = 255 then s
  else
    let s := s.setF (F.IRQ_SRC_CNT_COUNT n) (c + 1)
    if s.flag (F.IRQ_SRC_CFG_EN n) then s.signal (s.f (F.IRQ_SRC_CFG_VECTOR n)) else s

/-- Source 0x0C9 counts a change of SYS_MODE.MODE or DEGRADED (Table 19-9); `s0` is the state before. -/
def State.modeIrq (s s0 : State) : State :=
  if s.mode = s0.mode ∧ s.degraded = s0.degraded then s else s.irq 0xC9

/-- SYS_MODE.RESULT is written, with LAST_SEQ, and source 0x0CA counts it (R46, Table 19-9). -/
def State.modeResult (s : State) (seq r : Nat) : State :=
  ((s.setF F.SYS_MODE_LAST_SEQ seq).setF F.SYS_MODE_RESULT r).irq 0xCA

/-! ### The Archive's own writes -/

/-- The service order of R585. -/
def Writer.rank : Writer → Nat
  | .faultLog => 0 | .journal => 1 | .cal _ _ => 2 | .errata => 3 | .licence => 4 | .host => 5

/-- Insert a write behind those that are served before it; the write under way stays first. -/
def insertWrite (w : OwnWrite) : List OwnWrite → List OwnWrite
  | [] => [w]
  | q :: qs => if q.writer.rank ≤ w.writer.rank then q :: insertWrite w qs else w :: q :: qs

/-- Start the write at the head, unless one runs or the inhibit holds (R585, R587). -/
def Archive.start (a : Archive) : Archive :=
  match a.queue with
  | [] => a
  | _ :: _ => if a.busy || a.inhibit then a else { a with busy := true }

/-- Queue a write of the Archive. -/
def Archive.enqueue (a : Archive) (w : OwnWrite) : Archive :=
  (match a.busy, a.queue with
   | true, q :: qs => { a with queue := q :: insertWrite w qs }
   | _, qs => { a with queue := insertWrite w qs }).start

/-- Entries of one writer that wait. -/
def Archive.waiting (a : Archive) (w : Writer) : Nat := (a.queue.filter (fun q => decide (q.writer.rank = w.rank))).length

def State.onArch (s : State) (g : Archive → Archive) : State := { s with arch := g s.arch }

/-! ### The fault log and the active table -/

/-- The local clock's stamp: 6 bytes of seconds, 2 zero bytes, 4 bytes of nanoseconds (Table 19-8, R288). -/
def Clock.stamp (c : Clock) : List Byte := leBytes c.sec 6 ++ leBytes 0 2 ++ leBytes c.ns 4

/-- The first 56 bytes of a fault-log record (Table 19-8). -/
def logBody (kind cls unit rseq cause mode flags : Nat) (c : Clock) (detail reset boot : Nat) : List Byte :=
  leBytes 0x4C464B56 4 ++ leBytes kind 1 ++ leBytes cls 1 ++ leBytes unit 2 ++ leBytes rseq 4 ++ leBytes cause 1 ++
  leBytes mode 1 ++ leBytes flags 1 ++ leBytes 0 1 ++ c.stamp ++ leBytes detail 4 ++ leBytes reset 4 ++ leBytes boot 4 ++
  leBytes 0 16

/-- Write a fault-log record: into the ring of R540, or under the inhibit into the retention RAM, up to 64, and source 0x104
counts the queued write; further records are counted in LOG_DROPPED (R539, R540, Table 19-9). -/
def State.logRecord (s : State) (kind cls unit cause mode : Nat) (esc : Bool) (detail reset boot : Nat) : State :=
  let n := s.arch.logSeq
  if s.arch.inhibit && decide (64 ≤ s.arch.waiting .faultLog) then s.satInc F.FCL_STATUS_LOG_DROPPED
  else
    let flags := b2n esc + 2 * b2n s.fcl.torn + 4 * b2n s.arch.inhibit
    let body := logBody kind cls unit n cause mode flags s.clk detail reset boot
    let slot := n % 8192
    let a := 0x1C0000 + 64 * slot
    let w : OwnWrite := { writer := .faultLog, erase := if slot % 1024 = 0 then [a] else [], addr := a,
                          data := body ++ leBytes (crc32c body) 4, commitAddr := a + 0x3C,
                          commit := leBytes 0x6C674631 4, tag := n }
    let s := s.onArch (fun x => { x.enqueue w with logSeq := n + 1 })
    let s : State := { s with fcl := { s.fcl with torn := false } }
    if s.arch.inhibit then s.irq 0x104 else s

def State.entry (s : State) (k : Nat) : FaultEntry := SMap.get {} s.fcl.active k
def State.setEntry (s : State) (k : Nat) (e : FaultEntry) : State :=
  { s with fcl := { s.fcl with active := SMap.put {} s.fcl.active k e } }

/-- The uncleared entry among 0 to 251 with a unit and a cause. -/
def State.findEntry (s : State) (u cause : Nat) : Option Nat :=
  (List.range 252).find? (fun k => let e := s.entry k; e.uncleared && decide (e.unit = u) && decide (e.cause = cause))

/-- The lowest free entry among 0 to 251: a cleared entry is free (R534). -/
def State.freeEntry (s : State) : Option Nat := (List.range 252).find? (fun k => !(s.entry k).uncleared)

/-- Enter a fault in the active table: merged, new, or counted in the overflow entry of its class (R534, R535). Sources
0x100 to 0x103 count it, and a new entry of a class at least LOG_MIN, or an escalation, writes a FAULT record (R539). -/
def State.enter (s : State) (u cause cls detail : Nat) (cond : Condition) (esc : Bool) : State :=
  let s := s.irq (0x100 + cls)
  match s.findEntry u cause with
  | some k =>
    let e := s.entry k
    let s := s.setEntry k { e with count := satAdd 0xFFFF e.count 1, lastSec := s.clk.sec, cls := Nat.max e.cls cls,
                                   escalated := e.escalated || esc, cond := if cond = .ended then e.cond else cond }
    if esc then s.logRecord 1 cls u cause s.mode.code true detail 0 0 else s
  | none =>
    match s.freeEntry with
    | some k =>
      let s := s.setEntry k { unit := u, cls := cls, cause := cause, count := 1, valid := true, uncleared := true, cond := cond,
                              escalated := esc, mode := s.mode.code, firstSec := s.clk.sec, firstNs := s.clk.ns,
                              detail := detail, lastSec := s.clk.sec }
      if esc || decide (s.f F.FCL_CFG_LOG_MIN ≤ cls) then s.logRecord 1 cls u cause s.mode.code esc detail 0 0 else s
    | none =>
      let k := 252 + cls
      let e := s.entry k
      (s.setEntry k { e with cls := cls, count := satAdd 0xFFFF e.count 1, valid := true, uncleared := true,
                             lastSec := s.clk.sec }).satInc F.FCL_LOST_LOST

/-- A Note-class fault: the event is recorded and nothing else happens (Table 19-2). -/
def State.note (s : State) (u cause : Nat) (detail : Nat := 0) : State := s.enter u cause 0 detail .ended false

/-- An uncleared fault of a class exists. -/
def State.pendClass (s : State) (cls : Nat) : Bool := s.fcl.active.any (fun p => p.2.uncleared && decide (p.2.cls = cls))

/-- FAULT_N is driven low (R533). -/
def State.faultN (s : State) : Bool :=
  s.sys.cold || s.sys.faultnHeld ||
  (List.range 4).any (fun k => bitAt (s.f F.FCL_CFG_FAULTN_EN) k && s.pendClass k)

end Sys2Proof.Machine
end

