-- ==== Sys2Proof/Machine/Operands.lean ====
section
/-! DEFINITION. Operand forms: which unit a BAR0 address belongs to, the period and timing-set values, and the one path by
which every register write goes: its denial (23_register_reference.md R609, Tables 23-5 and 23-6) or its effect under the
access codes (00_scope.md Table 0-4). -/
namespace Sys2Proof.Machine

/-! ### Addresses -/

/-- The register blocks of Table 23-1 that a rule names. -/
inductive Block where
  | sys | pwr | hst | dma | fcl | irq | sec | nvs | mtr | ntm | cal | dbg | wks | lnk | grp | stk | lib | tim
  | timebase | rdr (c : Nat) | ucs (b : Nat) | ldg (b : Nat) | acq (e : Nat) | pmu (ch : Nat) | flt (b : Nat) | chn (ch : Nat)
  | none
  deriving DecidableEq, Repr

/-- The block of a bay-space offset (Table 23-4). -/
def bayBlock (b off : Nat) : Block :=
  if off < 0x40000 then .rdr (4 * b + off / 0x10000)
  else if off < 0x50000 then .ucs b
  else if off < 0x60000 then .ldg b
  else if off < 0x70000 then .acq (2 * b + (off - 0x60000) / 0x1000)
  else if off < 0x71000 then .pmu (64 * b + (off - 0x70000) / 0x40)
  else if off < 0x80000 then .flt b
  else if off < 0xC0000 then .chn (64 * b + (off - 0x80000) / 0x1000)
  else .none

/-- The block of a BAR0 address (Table 23-1). -/
def blockOf (a : Nat) : Block :=
  if a < 0x8000 then .sys else if a < 0x10000 then .pwr else if a < 0x20000 then .hst else if a < 0x30000 then .dma
  else if a < 0x38000 then .fcl else if a < 0x40000 then .irq else if a < 0x44000 then .sec else if a < 0x48000 then .nvs
  else if a < 0x50000 then .mtr else if a < 0x60000 then .ntm else if a < 0x70000 then .cal else if a < 0x80000 then .dbg
  else if a < 0x90000 then .wks else if a < 0xA0000 then .lnk else if a < 0xB0000 then .grp else if a < 0xC0000 then .stk
  else if a < 0xD0000 then .lib else if a < 0xD4000 then .tim else if a < 0xE0000 then .timebase
  else if a < 0x100000 then .none
  else if a < 0x500000 then bayBlock ((a - 0x100000) / 0x100000) (a % 0x100000)
  else .none

/-- The bay of channel n, its global shelf and the domains it lies in (R2, R3, Table 2-14). -/
def bayOfCh (ch : Nat) : Nat := ch / 64
def shelfOfCh (ch : Nat) : Nat := ch / 8
def domShelf (ch : Nat) : Nat := shelfOfCh ch
def domPin (b : Nat) : Nat := 32 + b
def domPmu (b : Nat) : Nat := 36 + b

/-- PWR_DOM_STATUS.STATE reads ON. -/
def State.domOn (s : State) (d : Nat) : Bool := decide (s.f (F.PWR_DOM_STATUS_STATE d) = 2)

/-- The owning context of a channel, 0x10 and above none (R18). -/
def State.ownerCode (s : State) (ch : Nat) : Nat := s.f (F.CHN_CTRL_CTX ch)
def State.owner (s : State) (ch : Nat) : Option Nat := if s.ownerCode ch < 16 then some (s.ownerCode ch) else none
/-- The channel set of context c (R150). -/
def State.channelsOf (s : State) (c : Nat) : List Nat := (List.range 256).filter (fun ch => decide (s.ownerCode ch = c))

/-! ### Periods and timing sets -/

/-- P_k in 1/65,536 FU (R103). -/
def State.period (s : State) (c k : Nat) : Nat :=
  (s.f (F.RDR_PER_HI_WHOLE_HI c k) * 65536 + s.f (F.RDR_PER_LO_WHOLE_LO c k)) * 65536 + s.f (F.RDR_PER_LO_FRAC c k)
def State.periodValid (s : State) (c k : Nat) : Bool := s.flag (F.RDR_PER_HI_VALID c k)
/-- The shortest valid entry (Table 4-12). -/
def State.periodMin (s : State) (c : Nat) : Nat :=
  ((List.range 64).filter (s.periodValid c)).foldl (fun m k => if m = 0 then s.period c k else Nat.min m (s.period c k)) 0
def State.wide (s : State) (ch : Nat) : Bool := s.flag (F.CHN_CTRL_MODE ch)
/-- The least period of R104: 2,048 FU, or 13,107 + 13,107/65,536 FU for a set with a wide-mode channel. -/
def perMinFast : Nat := 2048 * 65536
def perMinWide : Nat := 13107 * 65536 + 13107

/-- Drive edges a format uses (Table 3-3): D1, D2, E1, E2. -/
def fmtUses (fmt : Nat) : List Nat :=
  if fmt = 0 then [0, 2, 3] else if fmt ≤ 3 then [0, 1, 2, 3] else if fmt = 4 then [3] else []
/-- Strobes a strobe type uses (Table 4-7): S1 is 4, S2 is 5. -/
def strobeUses (t : Nat) : List Nat := if t = 0 then [] else if t = 1 then [4] else [4, 5]
/-- EN and TIME of event e of set k (Tables 4-4, 4-8): D1, D2, E1, E2, S1, S2. -/
def State.evEn (s : State) (ch k e : Nat) : Bool := s.flag ⟨Reg.EDG_TS_D1 ch k + 4 * e, 31, 1⟩
def State.evTime (s : State) (ch k e : Nat) : Nat := s.f ⟨Reg.EDG_TS_D1 ch k + 4 * e, 0, 31⟩
def State.tsFormat (s : State) (ch k : Nat) : Nat := s.f (F.EDG_TS_CTRL_FORMAT ch k)
def State.tsStrobe (s : State) (ch k : Nat) : Nat := s.f (F.EDG_TS_CTRL_STROBE ch k)

/-- Spacing limits of Table 4-11 in FU: minimum pulse, strobe spacing, window width, close to next strobe. -/
def minPulse (wide : Bool) : Nat := if wide then 3933 else 787
def minStrobe (wide : Bool) : Nat := if wide then 6554 else 1024
def minWindow (wide : Bool) : Nat := if wide then 5243 else 1311

/-- The carry limit of set k: P_k + 4·P_min − 1, rounded down to FU (Table 4-12). -/
def carryLimit (pk pmin : Nat) : Nat := (pk + 4 * pmin - 65536) / 65536

/-- One condition of Table 4-12 on a valid set k of a channel, by its place in the table from TSET_INVALID on. -/
def State.tsBreaks (s : State) (c ch k cond : Nat) : Bool :=
  let fmt := s.tsFormat ch k
  let str := s.tsStrobe ch k
  let uses := fmtUses fmt ++ strobeUses str
  let w := s.wide ch
  let t := fun e => (s.evTime ch k e : Int)
  let pulsed := decide (1 ≤ fmt ∧ fmt ≤ 3)
  match cond with
  | 0 => !s.flag (F.EDG_TS_CTRL_VALID ch k)
  | 1 => decide (6 ≤ fmt)
  | 2 => uses.any (fun e => !s.evEn ch k e)
  | 3 => uses.any (fun e => decide (carryLimit (s.period c k) (s.periodMin c) < s.evTime ch k e))
  | 4 => pulsed && decide (t 1 - t 0 < (minPulse w : Int))
  | 5 => pulsed && decide ((s.period c k / 65536 : Nat) + t 0 - t 1 < (minPulse w : Int))
  | 6 => decide (str = 2) && decide ((t 5 - t 4).natAbs < minStrobe w)
  | _ => decide (str = 3) && decide (t 5 - t 4 < (minWindow w : Int))

/-- Status of each of those conditions (Table 6-8). -/
def tsStatus : Nat → Nat
  | 0 => 0x0B | 1 => 0x0C | 2 => 0x0D | 3 => 0x0E | 4 => 0x0F | 5 => 0x0F | _ => 0x10

/-- The Arm check on timing: Table 4-12 in order, each condition over channels and sets in ascending order (R120, R187). -/
def State.timingFail (s : State) (c : Nat) : Option (Nat × Nat) :=
  let ks := (List.range 64).filter (s.periodValid c)
  let chs := s.channelsOf c
  let least := if chs.any s.wide then perMinWide else perMinFast
  if ks = [] then some (0x09, 0)
  else match ks.find? (fun k => decide (s.period c k < least)) with
    | some k => some (0x0A, k)
    | none =>
      (List.range 8).findSome? (fun cond =>
        (chs.find? (fun ch => ks.any (fun k => s.tsBreaks c ch k cond))).map (fun ch => (tsStatus cond, ch)))

/-! ### Denied writes -/

/-- MASTER and CORE of SYS_DENY_STATUS (Table 23-2). -/
def masterCode : Master → Nat
  | .host => 0 | .dap => 1 | .clerk _ => 2
def masterCore : Master → Nat
  | .clerk i => i | _ => 0
/-- The gate number of a master: clerks 0 to 15, the debug access port 16. -/
def masterGate : Master → Nat
  | .clerk i => i | _ => 16

def State.gate (s : State) (g : Nat) : Gate := SMap.get {} s.gates g
def State.setGate (s : State) (g : Nat) (v : Gate) : State := { s with gates := SMap.put {} s.gates g v }

/-- The denied-write record and its Note-class fault (R610). -/
def State.deny (s : State) (a : Nat) (w : BusWrite) (cause : Nat) : State :=
  let s :=
    if s.flag F.SYS_DENY_STATUS_DENIED then s.satInc F.SYS_DENY_STATUS_COUNT
    else
      ((((((s.setFlag F.SYS_DENY_STATUS_DENIED true).setF F.SYS_DENY_STATUS_COUNT 1).setF F.SYS_DENY_STATUS_CAUSE
        cause).setF F.SYS_DENY_STATUS_MASTER (masterCode w.master)).setF F.SYS_DENY_STATUS_CORE (masterCore w.master)).setF
        F.SYS_DENY_ADDR_ADDR a).wr Reg.SYS_DENY_DATA w.data
  s.note 0xE00A 0x0E a

/-- The bits of a row that a write can change. -/
def RegRow.writable (r : RegRow) : Word := r.rw ||| r.w1c ||| r.w1s ||| r.wl ||| r.live ||| r.wo1

/-- Cause BOOT: Boot admits writes to SYS, FCL and IRQ only (R61), recovery service to SYS, FCL, SEC and NVS (R574). -/
def State.denyBoot (s : State) (k : Block) : Bool :=
  (decide (s.mode = .boot) && !decide (k ∈ [.sys, .fcl, .irq])) ||
  (s.sys.recovery && !decide (k ∈ [.sys, .fcl, .sec, .nvs]))

/-- Cause POWER (R69, R303, R618). -/
def State.denyPower (s : State) (k : Block) : Bool :=
  match k with
  | .chn ch => !s.domOn (domShelf ch)
  | .pmu ch => !s.domOn (domPmu (bayOfCh ch))
  | .flt b => !s.domOn (domPmu b)
  | .tim => !s.domOn 48
  | _ => false

/-- Cause GATE (R598): the gated blocks, and TIM_XO_OFF and TIM_XO_AGE. -/
def gated (k : Block) (a : Nat) : Bool :=
  decide (k ∈ [.sys, .pwr, .fcl, .irq, .ntm]) || decide (a = Reg.TIM_XO_OFF) || decide (a = Reg.TIM_XO_AGE)
def State.denyGate (s : State) (k : Block) (a : Nat) (m : Master) : Bool :=
  decide (m ≠ .host) && gated k a && !(s.gate (masterGate m)).opened

/-- The register's channel or period table belongs to a context under the Arm check (R581). -/
def State.underArm (s : State) (k : Block) (a : Nat) : Bool :=
  match k with
  | .chn ch | .pmu ch => match s.owner ch with
    | some c => (s.ctx c).arming
    | none => false
  | .rdr c => (s.ctx c).arming && decide (ctxBase c + 0xF000 ≤ a)
  | _ => false

/-- The owning unit's state locks the register (Table 23-6). `nw` is the value the write would leave. -/
def State.denyOwner (s : State) (k : Block) (a : Nat) (old nw : Word) : Bool :=
  let ctxFree := fun c => decide (s.ctxState c ∈ [.idle, .stopped, .off])
  match k with
  | .rdr c =>
    let o := a - ctxBase c
    let seq := decide (o = 4) || decide (0x10 ≤ o ∧ o ≤ 0x24) || decide (0x4000 ≤ o ∧ o < 0xC000)
    seq && !ctxFree c
  | .lib => decide (0xC0200 ≤ a) && !ctxFree ((a - 0xC0200) / 0x20)
  | .acq e => decide (s.f (F.ACQ_STATUS_STATE e) = 1) && !decide (a = Reg.ACQ_CTRL e)
  | .tim =>
    let t := (a - 0xD0000) / 0x1000
    decide (s.f (F.TIM_STATUS_STATE t) = 1) && !decide (a = Reg.TIM_CTRL t)
  | .timebase => (decide (a = Reg.TIM_XO_OFF) || decide (a = Reg.TIM_XO_AGE)) && s.flag F.TIM_TB_STATUS_HOLDOVER
  | .grp =>
    !decide (a = Reg.GRP_CTRL) && !decide (a = Reg.GRP_STATUS) && !decide (s.f F.GRP_STATUS_STATE ∈ [0, 7])
  | .hst =>
    if 0x14000 ≤ a ∧ a < 0x18000 then
      let r := (a - 0x14000) / 0x40
      let o := (a - 0x14000) % 0x40
      s.flag (F.HST_RING_CFG_EN r) &&
        (decide (o = 0) || decide (o = 4) || decide (o = 0x10) || (decide (o = 8) && decide (nw ≠ (old &&& 0x7FFFFFFF#32))))
    else false
  | .ldg b =>
    if 0x1000 ≤ a - (bayBase b + 0x50000) then
      let t := (a - (bayBase b + 0x51000)) / 0x20
      let o := (a - (bayBase b + 0x51000)) % 0x20
      s.flag (F.LDG_STR_CFG_EN b t) &&
        (decide (o = 0) || decide (o = 4) || (decide (o = 8) && decide ((nw ^^^ old) &&& 0x1F#32 ≠ 0#32)))
    else false
  | .stk =>
    if 0xB0400 ≤ a ∧ a < 0xB0480 then
      let w := (a - 0xB0400) / 0x10
      s.flag (F.STK_MIR_BASE_EN w) && !(decide (a = Reg.STK_MIR_BASE w) && decide (nw = old &&& 0x7FFFFFFF#32))
    else
      (List.range 2).any (fun n =>
        (decide (a = Reg.STK_TS_A n) && !s.flag (F.STK_FREQ_ACTIVE n)) ||
        (decide (a = Reg.STK_TS_B n) && s.flag (F.STK_FREQ_ACTIVE n)))
  | .flt b =>
    let pend := s.flag (F.FLT_BANK_PENDING b)
    let act := s.flag (F.FLT_BANK_ACTIVE b)
    let o := a - bayBase b
    if a = Reg.FLT_BANK b then
      decide ((nw ^^^ old) &&& (if pend then 0x7F7F#32 else if act then 0x7F00#32 else 0x007F#32) ≠ 0#32)
    else if 0x72000 ≤ o ∧ o < 0x72200 then pend || !act
    else decide (0x72200 ≤ o) && (pend || act)
  | .wks =>
    decide (0x88100 ≤ a) && decide (nw.getLsbD 31 ≠ old.getLsbD 31) && !decide (s.f F.WKS_STATUS_STATE ∈ [0, 3])
  | .cal =>
    (decide (a = Reg.CAL_REF_V) || decide (a = Reg.CAL_TREF_CFG)) &&
      (List.range 4).any (fun b => decide (s.f (F.CAL_BAY_STATUS_STATE b) ≠ 0))
  | .ntm =>
    decide (a = Reg.NTM_CFG) && decide ((nw ^^^ old) &&& 0x30000000#32 ≠ 0#32) &&
      (List.range 4).any (fun p => decide (s.f (F.NTM_PORT_CTRL_STATE p) ≠ 0))
  | _ => false

/-- The port states a role allows (18_time_and_metering.md Table 18-1): 1 MASTER, 2 SLAVE, 3 PASSIVE. -/
def portStatesOk (role : Nat) (sts : List Nat) : Bool :=
  let slaves := (sts.filter (fun x => decide (x = 2))).length
  match role with
  | 0 => sts.all (fun x => decide (x = 0))
  | 1 => sts.all (fun x => decide (x = 0 ∨ x = 1))
  | 2 => sts.all (fun x => decide (x = 0 ∨ x = 2)) && decide (slaves ≤ 1)
  | _ => decide (slaves ≤ 1)

/-- A stream's ring lies within one stack: 48 GiB each (R208, R272). -/
def streamRangeOk (base log2 : Nat) : Bool :=
  decide (16 ≤ log2 ∧ log2 ≤ 31) && decide (base % 0x10000 = 0) && decide (base / 2 ^ 40 < 2) &&
    decide (base % 2 ^ 40 + 2 ^ log2 ≤ 0xC00000000)

/-- A configuration-space dword by its offset div 4 (R435; the places of PCI Express 5.0 and of its capabilities are PRESUMED,
notes/assumptions/32.md). -/
def State.cfgDword (s : State) (d : Nat) : Nat := (SMap.get 0 s.hp.cfg d).toNat

/-- A host range overlaps one of the Burcel's own BARs (R436, R439, R461); an unassigned BAR claims no space. -/
def State.ownBar (s : State) (a n : Nat) : Bool :=
  let base := fun i => s.cfgDword (4 + i) / 16 * 16 + s.cfgDword (5 + i) * 2 ^ 32
  let hit := fun (b size : Nat) => decide (b ≠ 0 ∧ a < b + size ∧ b < a + n)
  hit (base 0) 0x4000000 || hit (base 2) 0x100000 || (s.flag F.HST_CFG_BAR4 && hit (base 4) 0x1000000000)

/-- Host address of a ring, and its size in bytes (R439). -/
def State.ringBase (s : State) (r : Nat) : Nat := s.f (F.HST_RING_BASE_HI_ADDR r) * 2 ^ 32 + s.f (F.HST_RING_BASE_LO_ADDR r) * 4096
def State.ringEntries (s : State) (r : Nat) : Nat := 2 ^ s.f (F.HST_RING_CFG_SIZE_LOG2 r)
/-- Bytes of an entry: 64 in a SUBMIT ring, 32 in the others. -/
def State.ringEntry (s : State) (r : Nat) : Nat := if s.f (F.HST_RING_CFG_KIND r) = 0 then 64 else 32

/-- The written value breaks a rule checked at the write (cause VALUE; R125, R262, R272, R310, R439, R452, R473,
R497, Table 17-8). -/
def State.denyValue (s : State) (k : Block) (a : Nat) (old nw : Word) : Bool :=
  let s' := s.wr a nw
  let sets := !old.getLsbD 31 && nw.getLsbD 31
  match k with
  | .chn ch => decide (0x200 ≤ a - chnBase ch) && decide (s.mode = .characterise) &&
      (match s.owner ch with
       | some c => (s.ctxState c).active && (s'.timingFail c).isSome
       | none => false)
  | .rdr c => decide (ctxBase c + 0xF000 ≤ a) && decide (s.mode = .characterise) && (s.ctxState c).active &&
      (s'.timingFail c).isSome
  | .stk =>
    (List.range 8).any (fun w => decide (a = Reg.STK_MIR_BASE w) && sets &&
      (let b := s'.f (F.STK_MIR_BASE_BASE w)
       let n := s'.f (F.STK_MIR_SIZE_SIZE w)
       decide (24576 < b + n) ||
       (List.range 8).any (fun v => decide (v ≠ w) && s.flag (F.STK_MIR_BASE_EN v) &&
         decide (b < s.f (F.STK_MIR_BASE_BASE v) + s.f (F.STK_MIR_SIZE_SIZE v) ∧ s.f (F.STK_MIR_BASE_BASE v) < b + n))))
  | .ldg b =>
    (List.range 21).any (fun t => decide (a = Reg.LDG_STR_CFG b t) && sets &&
      !streamRangeOk (s.f (F.LDG_STR_BASE_HI_ADDR b t) * 2 ^ 32 + s.f (F.LDG_STR_BASE_LO_ADDR b t) * 65536)
        (s'.f (F.LDG_STR_CFG_SIZE_LOG2 b t)))
  | .flt b =>
    (List.range 4).any (fun i => decide (a = Reg.PMU_SENSE b i) && sets &&
      (List.range 4).any (fun j => decide (j ≠ i) && s.flag (F.PMU_SENSE_EN b j) &&
        decide (s.f (F.PMU_SENSE_CHANNEL b j) = s'.f (F.PMU_SENSE_CHANNEL b i))))
  | .hst =>
    if 0x10100 ≤ a ∧ a < 0x10200 then
      let h := (a - 0x10100) / 0x10
      decide (a = Reg.HST_ORIGIN h) && sets &&
        !(s.flag (F.HST_RING_CFG_EN (s'.f (F.HST_ORIGIN_REQUEST h))) &&
          decide (s.f (F.HST_RING_CFG_KIND (s'.f (F.HST_ORIGIN_REQUEST h))) = 2) &&
          s.flag (F.HST_RING_CFG_EN (s'.f (F.HST_ORIGIN_RESPONSE h))) &&
          decide (s.f (F.HST_RING_CFG_KIND (s'.f (F.HST_ORIGIN_RESPONSE h))) = 0))
    else if 0x14000 ≤ a ∧ a < 0x18000 then
      let r := (a - 0x14000) / 0x40
      let cr := s'.f (F.HST_RING_CFG_CRING r)
      decide (a = Reg.HST_RING_CFG r) &&
        ((sets && (!decide (4 ≤ s'.f (F.HST_RING_CFG_SIZE_LOG2 r)) || s'.ownBar (s'.ringBase r) (s'.ringEntries r * s'.ringEntry r) || decide (s'.f (F.HST_RING_CFG_KIND r) = 3) ||
            (decide (s'.f (F.HST_RING_CFG_KIND r) = 0) &&
              !(s.flag (F.HST_RING_CFG_EN cr) && decide (s.f (F.HST_RING_CFG_KIND cr) = 1))))) ||
         (old.getLsbD 31 && !nw.getLsbD 31 && decide (s.f (F.HST_RING_CFG_KIND r) = 1) &&
            (List.range 256).any (fun q => s.flag (F.HST_RING_CFG_EN q) && decide (s.f (F.HST_RING_CFG_KIND q) = 0) &&
              decide (s.f (F.HST_RING_CFG_CRING q) = r))))
    else false
  | .wks =>
    let complete := fun (r : Nat) => s.flag (F.HST_RING_CFG_EN r) && decide (s.f (F.HST_RING_CFG_KIND r) = 1)
    (decide (a = Reg.WKS_HOST_CRING) && nw.getLsbD 31 && !complete (s'.f F.WKS_HOST_CRING_RING)) ||
      (List.range 4).any (fun d => decide (a = Reg.WKS_DLOG_CFG d) && nw.getLsbD 31 && !complete (s'.f (F.WKS_DLOG_CFG_CRING d)))
  | .ntm =>
    (List.range 4).any (fun p => decide (a = Reg.NTM_PORT_CTRL p) &&
      !portStatesOk (s.f F.NTM_CFG_ROLE) ((List.range 4).map (fun q => s'.f (F.NTM_PORT_CTRL_STATE q))))
  | _ => false

/-- What a write leaves in a register: each bit by its access code; a W1S bit stays for its meaning to act on, and a locked WL
bit keeps its value (Table 0-4). -/
def RegRow.apply (r : RegRow) (old data : Word) (lockedWl : Bool) : Word :=
  let m := r.rw ||| r.live ||| r.wo1 ||| (if lockedWl then 0 else r.wl)
  ((old &&& ~~~m) ||| (data &&& m)) &&& ~~~(data &&& r.w1c)

/-- How a write ends: its cause of denial, if any, and the value it leaves (R609; the lowest cause of Table 23-5). -/
def State.judge (s : State) (r : RegRow) (a : Nat) (w : BusWrite) : Option Nat × Word :=
  let old := s.rd a
  let k := blockOf a
  let lock := s.locked || s.underArm k a
  let nw := r.apply old w.data lock
  let free := r.apply old w.data false
  if s.denyBoot k then (some 1, old)
  else if s.denyPower k then (some 2, old)
  else if s.denyGate k a w.master then (some 3, old)
  else if decide (r.wo1 ≠ 0#32) && decide (a ∈ s.wo1) then (some 4, old)
  else if !w.whole then (some (if lock && decide (free &&& r.wl ≠ old &&& r.wl) then 5
                               else if s.denyOwner k a old nw then 6 else if s.denyValue k a old nw then 7 else 8), old)
  else if lock && decide (free &&& r.wl ≠ old &&& r.wl) then (some 5, nw)
  else if s.denyOwner k a old nw then (some 6, old)
  else if s.denyValue k a old nw then (some 7, old)
  else (none, nw)

/-- An open gate admits one gated write (R598). -/
def State.useGate (s : State) (a : Nat) (m : Master) : State :=
  if decide (m ≠ .host) && gated (blockOf a) a then s.setGate (masterGate m) {} else s

/-! ### Inventory steps that a write or a request reaches -/

/-- The inventory step in progress is abandoned where it is one of those named: its unit is as it was, the step is counted in
IST_ABORTS and done again later in the cycle (22_debug_and_in_service_test.md R605). -/
def State.istDrop (s : State) (p : IstStep → Bool) : State :=
  match s.ist.step with
  | none => s
  | some x =>
    if !p x then s
    else
      let s : State := { s with ist := { s.ist with step := none } }
      let s := if x.kind = 0 ∧ x.unit < 256 then s.onChan x.unit (fun c => { c with taken := false }) else s
      (s.setFlag F.IST_STATUS_BUSY false).satInc F.IST_ABORTS

/-- A step on a channel or on its shelf's monitor is abandoned. -/
def State.istAbandonCh (s : State) (ch : Nat) : State :=
  s.istDrop (fun x => decide (x.kind = 0) && (decide (x.unit = ch) || decide (x.unit = 256 + ch / 8)))
/-- A reload of a cluster abandons the re-check of its control store, which starts again from its beginning (R206). -/
def State.istAbandonCluster (s : State) (b : Nat) : State :=
  let s := s.istDrop (fun x => decide (x.kind = 1 ∧ x.unit = b))
  { s with ist := { s.ist with done := SMap.put 0 s.ist.done 1 (setBits (SMap.get 0 s.ist.done 1) (40 * b) 40 0) } }
/-- Every step is abandoned (R603, R605). -/
def State.istAbandon (s : State) : State := s.istDrop (fun _ => true)

/-- A register write reaches the unit of a step (R605); a segment under a march waits instead (R491). -/
def State.istWrite (s : State) (a : Nat) : State :=
  match s.ist.step with
  | none => s
  | some x => match x.kind, blockOf a with
    | 0, .chn ch => s.istAbandonCh ch
    | 0, .pmu ch => s.istAbandonCh ch
    | 1, .ucs b => s.istDrop (fun x => decide (x.unit = b))
    | 3, .nvs => s.istAbandon
    | _, _ => s

/-- BAR0 does not answer a master: in Cold and Standby, but for the debug access port's accesses to the DBG, FCL and IRQ blocks (Table 2-1,
R595). -/
def State.barDown (s : State) (a : Nat) (m : Master) : Bool :=
  decide (s.mode = .cold ∨ s.mode = .standby) && !(decide (m = .dap) && decide (blockOf a ∈ [.dbg, .fcl, .irq]))

/-- Carry out a BAR0 write: the state, and whether the register's meaning is to act. In Cold and Standby BAR0 is not
accessible (Table 2-1). A WL denial leaves the register's other fields to take the write (R10). -/
def State.busWrite (s : State) (a : Nat) (w : BusWrite) : State × Bool :=
  if s.barDown a w.master then (s, false)
  else
    let s := s.istWrite a
    match rowOf a with
    | none => if w.whole then (s, false) else (s.deny a w 8, false)
    | some r =>
      if r.writable = 0#32 then (if w.whole then (s, false) else (s.deny a w 8, false))
      else match s.judge r a w with
        | (none, v) =>
          let s := (s.wr a v).useGate a w.master
          (if r.wo1 = 0#32 then s else { s with wo1 := a :: s.wo1 }, true)
        | (some 5, v) => if w.whole then ((s.wr a v).deny a w 5, true) else (s.deny a w 5, false)
        | (some c, _) => (s.deny a w c, false)

/-- A write of a register with a meaning of its own: the meaning acts only where the write reaches the register. -/
def State.onWrite (s : State) (a : Nat) (w : BusWrite) (act : State → State) : State :=
  match s.busWrite a w with
  | (s', true) => act s'
  | (s', false) => s'

/-- A write that acts on a register whatever its data (R395, R404, R301): the same denials, no stored value. -/
def State.onPlain (s : State) (a : Nat) (w : BusWrite) (act : State → State) : State :=
  let k := blockOf a
  if s.barDown a w.master then s
  else if s.denyBoot k then s.deny a w 1
  else if s.denyPower k then s.deny a w 2
  else if s.denyGate k a w.master then s.deny a w 3
  else if !w.whole then s.deny a w 8
  else act ((s.istWrite a).useGate a w.master)

end Sys2Proof.Machine
end

