-- ==== Sys2Proof/Machine/Records.lean ====
section
/-! DEFINITION. The admission of a record into a Ledger stream (10_ledger.md R271 to R298), and the records every family
writes. -/
namespace Sys2Proof.Machine

/-- Something falls due for a context n leaf boundaries from now (Table 1-4). -/
def State.addDue (s : State) (c n : Nat) (d : Due) : State := s.onCtx c (fun x => { x with due := x.due ++ [(n, d)] })

/-- The context plays in a group that has committed and not ended (R405, R418). -/
def State.inGroup (s : State) (c : Nat) : Bool :=
  s.flag F.GRP_CFG_EN && bitAt (s.rd Reg.GRP_CTX).toNat c && !bitAt s.grp.left c &&
    decide (2 ≤ s.f F.GRP_STATUS_STATE ∧ s.f F.GRP_STATUS_STATE ≤ 6)

/-- A halt by host, debug, engine or quota, registered in the leaf now playing (R180, Table 1-4): of a group context it is a
group halt request (R427). -/
def State.haltRegistered (s : State) (c : Nat) : State :=
  if s.inGroup c then { s with grp := { s.grp with haltReq := true } } else s.addDue c 2 .halt

/-- A halt request that acts only on a playing context. -/
def State.requestHalt (s : State) (c : Nat) : State := if (s.ctxState c).playing then s.haltRegistered c else s

/-! ### Streams -/

/-- Streams by 21·bay + stream index (R271). -/
def strOfSite (site : Nat) : Nat := 21 * (site / 16) + site % 16
def strOfCtx (c : Nat) : Nat := 21 * (c / 4) + 16 + c % 4
def strOfChip : Nat := 20

def State.stream (s : State) (k : Nat) : Stream := SMap.get {} s.ldg.streams k
def State.setStream (s : State) (k : Nat) (x : Stream) : State :=
  { s with ldg := { s.ldg with streams := SMap.put {} s.ldg.streams k x } }
def State.siteCount (s : State) (site : Nat) : SiteCount := SMap.get {} s.ldg.sites site
def State.setSiteCount (s : State) (site : Nat) (x : SiteCount) : State :=
  { s with ldg := { s.ldg with sites := SMap.put {} s.ldg.sites site x } }

/-- Ring size in bytes and base address of a stream (R272). -/
def State.strSize (s : State) (k : Nat) : Nat := 2 ^ s.f (F.LDG_STR_CFG_SIZE_LOG2 (k / 21) (k % 21))
def State.strBase (s : State) (k : Nat) : Nat :=
  s.f (F.LDG_STR_BASE_HI_ADDR (k / 21) (k % 21)) * 2 ^ 32 + s.f (F.LDG_STR_BASE_LO_ADDR (k / 21) (k % 21)) * 65536
def State.strEn (s : State) (k : Nat) : Bool := s.flag (F.LDG_STR_CFG_EN (k / 21) (k % 21))
def State.strDr (s : State) (k : Nat) : Nat := (s.rd (Reg.LDG_STR_DR (k / 21) (k % 21))).toNat
/-- Bytes admitted and not drained, modulo 2³² (R273). -/
def State.strLevel (s : State) (k : Nat) : Nat := ((s.stream k).adm + 2 ^ 32 - s.strDr k) % 2 ^ 32
/-- The effective quota of a site stream (R291). -/
def State.quota (s : State) (site : Nat) : Nat :=
  let q := s.f (F.LDG_SITE_QUOTA_QUOTA site)
  let m := s.strSize (strOfSite site) - 64
  if q = 0 then m else Nat.min (q * 4096) m

/-- The channels of a site, and the common channels of a context (R151, R152). -/
def State.siteChannels (s : State) (site : Nat) : List Nat :=
  (List.range 256).filter (fun ch => s.flag (F.CHN_SITE_VALID ch) && decide (s.f (F.CHN_SITE_SITE ch) = site))
def State.commonChannels (s : State) (c : Nat) : List Nat :=
  (s.channelsOf c).filter (fun ch => !s.flag (F.CHN_SITE_VALID ch))
/-- The context a site belongs to (R151): the owner of its channels. -/
def State.siteOwner (s : State) (site : Nat) : Nat := ((s.siteChannels site).findSome? s.owner).getD 16
def State.chFenced (s : State) (ch : Nat) : Bool := s.flag (F.CHN_FENCE_CAUSE ch)

/-- A record that is lost (R272, R297, R299). -/
def State.lose (s : State) (k : Nat) : State :=
  (s.satInc (F.LDG_STR_LOST_LOST (k / 21) (k % 21))).setStream k { s.stream k with lossy := true }

/-- Bytes of a slice's write buffer that hold records of the general kinds, or of the others (R297). -/
def isGeneral (kind : Nat) : Bool := decide (kind = 1 ∨ kind = 2 ∨ kind = 3 ∨ kind = 14 ∨ kind = 15)
def State.bufferUse (s : State) (b : Nat) (general : Bool) : Nat :=
  (List.range 21).foldl (fun n t => (s.stream (21 * b + t)).buf.foldl
    (fun n r => if isGeneral (ofLe (r.take 1)) = general then n + r.length else n) n) 0

/-- Next SEQ of a stream: it rises for every record the stream produces (R275). -/
def State.takeSeq (s : State) (k : Nat) : Nat × State :=
  let a := Reg.LDG_STR_SEQ (k / 21) (k % 21)
  ((s.rd a).toNat, s.wr a (s.rd a + 1))

/-- A record header (Table 10-1). -/
def recHeader (kind flags len seq leaf ctx site : Nat) : List Byte :=
  leBytes kind 1 ++ leBytes flags 1 ++ leBytes len 2 ++ leBytes seq 4 ++ leBytes leaf 6 ++ leBytes ctx 1 ++ leBytes site 1

/-- Pad with zeros to a multiple of 8 bytes. -/
def pad8 (bs : List Byte) : List Byte := bs ++ List.replicate ((8 - bs.length % 8) % 8) 0

/-- Put a record into the write buffer behind the PAD that keeps it from straddling the ring's end (R273). -/
def State.takeRecord (s : State) (k kind flags leaf ctx site : Nat) (payload : List Byte) : State :=
  let body := pad8 payload
  let len := 16 + body.length
  let sz := s.strSize k
  let st := s.stream k
  let off := st.adm % sz
  let (s, st) :=
    if off + len ≤ sz then (s, st)
    else
      let (seq, s) := s.takeSeq k
      let n := sz - off
      (s, { st with buf := st.buf ++ [((recHeader 0 0 (n / 8) seq 0 ctx site) ++ List.replicate n 0).take n],
                    adm := (st.adm + n) % 2 ^ 32 })
  let (seq, s) := s.takeSeq k
  let fl := flags + (if st.lossy then 4 else 0)
  s.setStream k { st with buf := st.buf ++ [recHeader kind fl (len / 8) seq leaf ctx site ++ body],
                          adm := (st.adm + len) % 2 ^ 32, lossy := false }

/-- A site enters over-quota: OVER, source 0x080 + s, and with STOP_ON_QUOTA the halt of R294. -/
def State.overQuota (s : State) (site c : Nat) : State :=
  if s.flag (F.LDG_SITE_STATUS_OVER site) then s
  else
    let s := (s.setFlag (F.LDG_SITE_STATUS_OVER site) true).irq (0x80 + site)
    if s.flag (F.LDG_SITE_CFG_STOP_ON_QUOTA site) then
      (s.setFlag (F.LDG_SITE_STATUS_QSTOP site) true).requestHalt c
    else s

/-- The write buffer has no room: BACKLOG of stream and slice, and one Note until the host clears it (R297). -/
def State.backlog (s : State) (k kind : Nat) : State :=
  let b := k / 21
  let s := (s.lose k).setFlag (F.LDG_STR_STATUS_BACKLOG b (k % 21)) true
  if s.flag (F.LDG_SLICE_STATUS_BACKLOG b) then s
  else ((s.setFlag (F.LDG_SLICE_STATUS_BACKLOG b) true).irq (0x7C + b)).note (unitCode 5 b) 0x19 kind

/-- The Ledger produces a record for a stream: written to the buffer, dropped under the quota, or lost (R272, R292, R297, R299).
`site` is 0xFF in a context or chip stream. -/
def State.record (s : State) (k kind flags leaf ctx site : Nat) (payload : List Byte) : State :=
  let b := k / 21
  let len := 16 + (pad8 payload).length
  let fl := if decide (site < 64) && (s.siteChannels site).any s.chFenced then flags + 1 else flags
  if !s.strEn k || s.fenced (unitCode 5 b) then (s.takeSeq k).2.lose k
  else if decide (site < 64) && decide (kind ≠ 0x0D) &&
      (s.flag (F.LDG_SITE_STATUS_OVER site) || decide (s.quota site < s.strLevel k + len)) then
    let s := (s.takeSeq k).2
    let c := s.siteCount site
    let s := s.setSiteCount site { c with drop := satAdd 0xFFFFFFFF c.drop 1,
                                          dropSat := c.dropSat || decide (0xFFFFFFFE ≤ c.drop) }
    let st := s.stream k
    (s.setStream k { st with lossy := true, dropped := satAdd 0xFFFFFFFF st.dropped 1 }).overQuota site (s.siteOwner site)
  else if decide (64 ≤ site) && decide (s.strSize k < s.strLevel k + len) then (s.takeSeq k).2.lose k
  else if (if isGeneral kind then 126976 else 4096) < s.bufferUse b (isGeneral kind) + len then
    (s.takeSeq k).2.backlog k kind
  else s.takeRecord k kind fl leaf ctx site payload

/-- An event record: the stamp of R288, then the payload of Table 10-5 padded to `n` bytes. -/
def State.event (s : State) (k kind leaf ctx site n : Nat) (payload : List Byte) : State :=
  s.record k kind 0 leaf ctx site (s.clk.stamp ++ leBytes 0 4 ++ (payload ++ List.replicate n 0).take n)

/-- The sites of a context (R151). -/
def State.sitesOf (s : State) (c : Nat) : List Nat :=
  (List.range 64).filter (fun site => (s.channelsOf c).any (fun ch => s.flag (F.CHN_SITE_VALID ch) && decide (s.f (F.CHN_SITE_SITE ch) = site)))

/-- A RUN_END latches LDG_SITE_FAIL of each site of its context into the site's run-end copy (R472). -/
def State.latchRunEnd (s : State) (c : Nat) : State :=
  s.eachOf (s.sitesOf c) (fun site s =>
    let x := s.siteCount site
    s.setSiteCount site { x with runEnds := x.runEnds ++ [((s.ctx c).lcnt, s.f (F.LDG_SITE_FAIL_FAIL site))] })

/-- An event record of a context stream. -/
def State.ctxEvent (s : State) (c kind n : Nat) (payload : List Byte) : State :=
  let s := if kind = 0x0C then s.latchRunEnd c else s
  s.event (strOfCtx c) kind (s.ctx c).lcnt c 0xFF n payload

/-! ### Counters of failing vectors -/

/-- LDG_SITE_FAIL counts failing vectors, saturating; a fenced slice does not count (R278, R299, R300). Run-end copies of this leaf
or a later one count them too: a RUN_END is written behind the records of its leaf (R472; DEDUCED, notes/assumptions/41.md). -/
def State.countFails (s : State) (site leaf n : Nat) : State :=
  if s.fenced (unitCode 5 (site / 16)) then s
  else
    let v := s.f (F.LDG_SITE_FAIL_FAIL site)
    let c := s.siteCount site
    (s.setF (F.LDG_SITE_FAIL_FAIL site) (satAdd 0xFFFFFFFF v n)).setSiteCount site
      { c with failSat := c.failSat || decide (0xFFFFFFFF ≤ v + n),
               runEnds := c.runEnds.map (fun q => if leaf ≤ q.1 then (q.1, satAdd 0xFFFFFFFF q.2 n) else q) }

/-- Active sites of a context: RDR_SITE_ACT (R153), the sites that belong to it. -/
def State.siteAct (s : State) (c : Nat) : Nat := (s.rd (Reg.RDR_SITE_ACT_HI c)).toNat * 2 ^ 32 + (s.rd (Reg.RDR_SITE_ACT_LO c)).toNat
def State.activeSites (s : State) (c : Nat) : List Nat := (s.sitesOf c).filter (bitAt (s.siteAct c))

/-- INVALIDATE records of a context's active sites (R289). -/
def State.invalidate (s : State) (c reason : Nat) : State :=
  s.eachOf (s.activeSites c) (fun site s => s.event (strOfSite site) 0x09 (s.ctx c).lcnt c site 8 (leBytes reason 1))

end Sys2Proof.Machine
end

