-- ==== Sys2Proof/Machine/Contexts.lean ====
section
/-! DEFINITION. What a context or a channel can be made to do by any family of commands: connect, disconnect, apply its static
symbol, park (03_pin_channels.md), change a context's state, stop a context (06_reader.md Tables 6-7 and 6-8). -/
namespace Sys2Proof.Machine

/-! ### Channels -/

/-- The shelf and pin-die domains of a channel are ON (R68, R83). -/
def State.chPowered (s : State) (ch : Nat) : Bool := s.domOn (domShelf ch) && s.domOn (domPin (bayOfCh ch))

/-- The bay is CALIBRATING: a full calibration of all its shelves runs (R551). -/
def State.bayCalibrating (s : State) (b : Nat) : Bool :=
  match (SMap.get {} s.cals b : Cal).run with
  | some r => r.full && decide (r.shelves = 0xFF)
  | none => false

/-- The chip mode permits a connection (R85): in Safe a channel only stays connected. -/
def State.mayConnect (s : State) (ch : Nat) : Bool :=
  match s.mode with
  | .idle | .load | .characterise | .armed | .run | .paused => true
  | .calibrate => !s.bayCalibrating (bayOfCh ch)
  | .safe => s.flag F.SYS_SAFE_CFG_PINS && decide ((s.chan ch).conn ≠ 0)
  | _ => false

/-- The driver state CHN_STATIC.SYM gives (R84). -/
def State.staticOut (s : State) (ch : Nat) : Drv :=
  match s.f (F.CHN_STATIC_SYM ch) with
  | 8 => .drive false
  | 12 => .drive true
  | 4 => .vtt
  | 6 => .opened
  | _ => if s.flag (F.CHN_TERM_EN ch) then .term else .opened

/-- The park mode in force: CHN_PARK.MODE, or OFF for a fence of cause DAC, OVERCURRENT or WIRE (R87, R90). -/
def State.parkMode (s : State) (ch : Nat) : Nat :=
  if s.f (F.CHN_FENCE_CAUSE ch) ∈ [2, 5, 9] then 0 else s.f (F.CHN_PARK_MODE ch)

/-- The driver state park gives (R87). KEEP holds the state at the end of the last vector, or the static symbol's. -/
def State.parkOut (s : State) (ch : Nat) : Drv :=
  match s.parkMode ch with
  | 1 => .vtt
  | 2 => .drive false
  | 3 => .drive true
  | 4 => if (s.chan ch).played then (s.chan ch).out else s.staticOut ch
  | _ => .opened

/-- Strobes are events of kind 4 (S1) and 5 (S2). -/
def EdgeEvent.isStrobe (e : EdgeEvent) : Bool := decide (e.kind = 4 ∨ e.kind = 5)

/-- The leaf number and vector of an event. -/
def EdgeEvent.leaf (e : EdgeEvent) : Nat := e.vec / 32
def EdgeEvent.vector (e : EdgeEvent) : Nat := e.vec % 32

/-- Change the result of a vector of a context, which begins empty. -/
def State.onResult (s : State) (c leaf vec : Nat) (g : VecResult → VecResult) : State :=
  s.onCtx c (fun x =>
    if x.results.any (fun r => decide (r.leaf = leaf ∧ r.vec = vec)) then
      { x with results := x.results.map (fun r => if r.leaf = leaf ∧ r.vec = vec then g r else r) }
    else { x with results := x.results ++ [g { leaf := leaf, vec := vec }] })

/-- A window that has opened: its S1 has acted and its S2 pends. -/
def windowOpen (l : List EdgeEvent) (e : EdgeEvent) : Bool :=
  decide (e.kind = 5) && decide (e.strobe = 3) && !l.any (fun q => decide (q.kind = 4 ∧ q.vec = e.vec))

/-- Discard the pending events at or after a boundary; a window that has opened is cut at the boundary. DISCARD is set where a
strobe is among them, and their records carry FLAGS.DISCARD (R124, R287). -/
def State.discard (s : State) (ch : Nat) (boundary : Int) : State :=
  let x := s.chan ch
  let gone := x.events.filter (fun e => decide (boundary ≤ e.time))
  let cut := (gone.filter (windowOpen x.events)).map (fun e => { e with time := boundary })
  let s := s.setChan ch { x with events := x.events.filter (fun e => decide (e.time < boundary)) ++ cut }
  let strobes := gone.filter EdgeEvent.isStrobe
  if strobes = [] then s
  else
    let s := s.setFlag (F.EDG_STATUS_DISCARD ch) true
    match s.owner ch with
    | some c => s.eachOf strobes (fun e s => s.onResult c e.leaf e.vector (fun r => { r with discard := ch :: r.discard }))
    | none => s

/-- The boundary now reached by the channel's owning context, in FU; every event counts as later where it has none. -/
def State.boundaryOf (s : State) (ch : Nat) : Int :=
  match s.owner ch with
  | some c => ((s.ctx c).acc / 65536 : Nat)
  | none => -(2 ^ 80)

/-- Park a connected channel (R87, R88). -/
def State.park (s : State) (ch : Nat) : State :=
  let s := s.discard ch (s.boundaryOf ch)
  if (s.chan ch).conn = 0 then s
  else
    let o := s.parkOut ch
    s.onChan ch (fun x => { x with ctl := .parked, out := o })

/-- Disconnect every element from a channel's ball (R57, R99): it settles, and its driver state is lost. -/
def State.disconnect (s : State) (ch : Nat) : State :=
  let s := s.discard ch (s.boundaryOf ch)
  if (s.chan ch).conn = 0 then s.onChan ch (fun x => { x with reconnect := none })
  else s.onChan ch (fun x => { x with conn := 0, ctl := .static, out := .opened, settling := true, reconnect := none })

/-- Connect a channel's PATH: the last driven level is 0 (R78), no vector has been played (R87). -/
def State.connect (s : State) (ch : Nat) : State :=
  let p := s.f (F.CHN_CTRL_PATH ch)
  let o := if p = 1 ∨ p = 3 then s.staticOut ch else .opened
  (s.istAbandonCh ch).onChan ch (fun x => { x with conn := p, ctl := .static, out := o, last := false, played := false, settling := true,
                                                   reconnect := none })

/-- Bring a channel's connection to what PATH, the mode, the domains and its fence allow (R83, R85, R90). -/
def State.syncConn (s : State) (ch : Nat) : State :=
  let want := if s.chPowered ch && s.mayConnect ch then s.f (F.CHN_CTRL_PATH ch) else 0
  let x := s.chan ch
  if want = 0 then (if x.conn = 0 ∧ x.reconnect = none then s else s.disconnect ch)
  else if want = x.conn ∨ x.reconnect.isSome then s
  else if x.conn = 0 then s.connect ch
  else
    let o := s.staticOut ch
    s.onChan ch (fun x => { x with
      conn := want, settling := true, out := if want = 2 then .opened else if x.conn = 2 then o else x.out,
      ctl := if x.conn = 2 then .static else x.ctl })

/-- Every channel's connection follows a change of mode or of domains. -/
def State.syncAll (s : State) : State := s.each 256 (fun ch s => s.syncConn ch)

/-- Return a channel to its static symbol (R84). -/
def State.static (s : State) (ch : Nat) : State :=
  let s := s.discard ch (s.boundaryOf ch)
  if (s.chan ch).conn = 0 ∨ s.chFenced ch then s
  else
    let o := s.staticOut ch
    s.onChan ch (fun x => { x with ctl := .static, out := o })

/-! ### Levels and settling -/

/-- Code range of a mode (Table 3-1). -/
def codeLo (wide : Bool) : Int := if wide then -6000 else -4800
def codeHi (wide : Bool) : Int := if wide then 26000 else 24000
/-- The nearest code in range (R72). -/
def clipCode (wide : Bool) (v : Int) : Int := if v < codeLo wide then codeLo wide else if codeHi wide < v then codeHi wide else v

/-- A level register's code: 0 VIH, 1 VIL, 2 VTT, 3 VOH, 4 VOL (R71). -/
def State.levelCode (s : State) (ch i : Nat) : Int := signed 16 (s.f ⟨Reg.CHN_VIH ch + 4 * i, 0, 16⟩)

/-- The level the channel applies, clipped under R72 (a fast-mode swing above 1.2 V, 19,200 codes, lowers VIH). -/
def State.level (s : State) (ch i : Nat) : Int :=
  let w := s.wide ch
  let v := clipCode w (s.levelCode ch i)
  let vil := clipCode w (s.levelCode ch 1)
  if i = 0 ∧ w = false ∧ 19200 < v - vil then vil + 19200 else v

/-- CHN_STATUS.RANGE (R72). -/
def State.rangeBad (s : State) (ch : Nat) : Bool :=
  let w := s.wide ch
  (List.range 5).any (fun i => decide (clipCode w (s.levelCode ch i) ≠ s.levelCode ch i)) ||
  (!w && decide (19200 < s.levelCode ch 0 - s.levelCode ch 1))

/-- A change of Table 3-5 takes effect on a channel: it settles (R96). -/
def State.settle (s : State) (ch : Nat) : State := s.onChan ch (fun x => { x with settling := true })

/-- EDG_CORR_DRV and EDG_CORR_CMP show the corrections in use in the channel's mode (R128). -/
def State.showCorr (s : State) (ch : Nat) : State :=
  let x : Corr := SMap.get {} s.corrs ch
  (s.setF (F.EDG_CORR_DRV_CORR ch) (if s.wide ch then x.drvW else x.drvF)).setF (F.EDG_CORR_CMP_CORR ch) (if s.wide ch then x.cmpW else x.cmpF)

/-- CHN_CTRL, CHN_TERM or a level takes effect on a channel (R85, R96, R98): a change of MODE opens the ball until it has
settled; a channel under its static symbol takes that symbol anew. -/
def State.chanApply (s : State) (ch : Nat) : State :=
  let x := s.chan ch
  let s :=
    if x.wideNow ≠ s.wide ch then
      let s := if x.conn = 0 then s else s.disconnect ch
      let w := s.wide ch
      (s.showCorr ch).onChan ch (fun y => { y with wideNow := w, settling := true, reconnect := if x.conn = 0 then x.reconnect else some x.conn })
    else s
  let s := (s.syncConn ch).settle ch
  let o := s.staticOut ch
  let active := match s.owner ch with
    | some c => (s.ctxState c).active
    | none => false
  if active = true ∨ (s.chan ch).conn = 0 ∨ (s.chan ch).conn = 2 ∨ s.chFenced ch ∨ s.mode = .safe then s
  else if (s.chan ch).ctl = .static then s.onChan ch (fun y => { y with out := o })
  else if (s.owner ch).map s.ctxState = some .stopped then s else s.static ch

/-- CHN_STATUS.STATE: the first row of Table 3-4 whose condition holds (R83). -/
def State.chanState (s : State) (ch : Nat) : Nat :=
  let x := s.chan ch
  let st := (s.owner ch).map s.ctxState
  if !s.chPowered ch then 0
  else if s.chFenced ch then 6
  else if s.mode = .selftest ∨ x.taken then 7
  else if x.conn = 0 then 1
  else if x.settling then 2
  else if s.mode = .safe then 5
  else match (s.owner ch), st with
    | some c, some .stopped => if x.ctl = .static then 3 else 5 + 0 * c
    | some c, some .paused => if s.flag (F.RDR_CFG_HOLD_EN c) then 4 else 5
    | some c, some .hold => if s.flag (F.RDR_CFG_STARVE_PARK c) then 5 else 4
    | some _, some .armed | some _, some .play | some _, some .wait => 4
    | _, _ => 3

/-! ### When a register write takes effect -/

/-- A LIVE field: at the next boundary of an owning context that has leaf boundaries, else at once (Table 0-4, Table 1-4). -/
def State.atLeaf (s : State) (ch : Nat) (d : Due) (act : State → State) : State :=
  match s.owner ch with
  | some c => if (s.ctxState c).active then s.addDue c 1 d else act s
  | none => act s

/-- A WL field: in Characterise at the next boundary of an owning context in PLAY, WAIT or HOLD, else at once (R43). -/
def State.atCharacterise (s : State) (ch : Nat) (d : Due) (act : State → State) : State :=
  match s.owner ch with
  | some c => if decide (s.mode = .characterise) && (s.ctxState c).playing then s.addDue c 1 d else act s
  | none => act s

/-! ### Context states -/

/-- The WAIT or SYNC now playing. -/
def Ctx.waiting (x : Ctx) : Option WaitSt :=
  match x.plan with
  | p :: _ => match p.seg with
    | .wait w => some w
    | _ => none
  | [] => none

/-- Change the WAIT or SYNC now playing. -/
def Ctx.onWait (x : Ctx) (g : WaitSt → WaitSt) : Ctx :=
  match x.plan with
  | p :: ps => match p.seg with
    | .wait w => { x with plan := { p with seg := .wait (g w) } :: ps }
    | _ => x
  | [] => x

/-- A context named in a waiting local SYNC has left: the waiting contexts stop with SYNC_BROKEN from their L+2 (R177). -/
def State.breakSyncs (s : State) (c : Nat) : State :=
  s.each 16 (fun c' s =>
    match s.ctxState c', (s.ctx c').waiting with
    | .wait, some w => match w.sync with
      | some m => if c' ≠ c ∧ bitAt m c then s.addDue c' 2 (.stop 0x24) else s
      | none => s
    | _, _ => s)

/-- Change a context's state: the interrupt sources of Table 19-9, the chip mode that follows (R41), broken barriers (R177). -/
def State.setCtxState (s : State) (c : Nat) (st : CtxState) : State :=
  let s1 := s.setF (F.RDR_STATUS_STATE c) st.code
  let s1 := if s.ctxState c = st then s1 else match st with
    | .stopped => s1.irq (0x30 + c)
    | .paused => s1.irq (0x40 + c)
    | .hold => s1.irq (0x50 + c)
    | _ => s1
  let s1 := s1.modeIrq s
  match st with
  | .idle | .stopped | .off => s1.breakSyncs c
  | _ => s1

/-- A decision that concerns a channel, not the context's flow (R29). -/
def Due.ofChannel : Due → Bool
  | .fence _ | .settle _ | .repark _ | .pmu _ | .flt _ | .cal _ => true
  | _ => false

/-- Drop what a context holds of its run: plan, decisions, folios. Counters, latches, the period domain, results still to be
recorded and decisions on channels stay. -/
def Ctx.clearRun (x : Ctx) : Ctx :=
  { x with due := x.due.filter (fun d => d.2.ofChannel), pre := [], plan := [], watches := [], watchCalls := [], watch := 0,
           xfer := none, folios := [], cache := [], calls := [], loops := [], susp := none, ended := true,
           curSrc := .park, override := none, parkedSites := 0, lack := 0 }

/-- RDR_POS and RDR_STOP of a stopping context (R183). -/
def State.markStop (s : State) (c cn leaf addr : Nat) : State :=
  (((s.wr (Reg.RDR_STOP_CN c) (BitVec.ofNat 32 cn)).wr (Reg.RDR_STOP_LEAF c) (BitVec.ofNat 32 leaf)).wr
    (Reg.RDR_STOP_ADDR_LO c) (BitVec.ofNat 32 addr)).setF (F.RDR_STOP_ADDR_HI_ADDR c) (addr / 2 ^ 32)

/-- Call number and leaf index now playing; 0 outside a pattern leaf. -/
def Ctx.place (x : Ctx) : Nat × Nat :=
  match x.curSrc with
  | .pattern id k | .fill id k => (((x.folios.find? (fun f => decide (f.id = id))).map (fun f => f.cn)).getD 0, k)
  | _ => (0, 0)

/-- The channels of a stopped context take their pins: high-impedance in Safe with PINS = 0, else parked (R50, R166, R178). -/
def State.stopPins (s : State) (c : Nat) : State :=
  s.eachOf (s.channelsOf c) (fun ch s =>
    if s.mode = .safe ∧ (!s.flag F.SYS_SAFE_CFG_PINS ∨ s.f (F.CHN_CTRL_PATH ch) = 0) then s.disconnect ch else s.park ch)

/-- End a context STOPPED with a code (Table 6-8): RUN_END where a run was under way, the state, and the pins `n` boundaries
from now; 0 is this boundary. -/
def State.stopCtx (s : State) (c code n : Nat) : State :=
  let (cn, leaf) := (s.ctx c).place
  let s := s.markStop c cn leaf 0
  let s := s.ctxEvent c 0x0C 16 (leBytes code 1 ++ leBytes 0 1 ++ leBytes (s.f (F.RDR_POS_WORD c)) 2 ++ leBytes 0 4 ++ leBytes (s.ctx c).vcnt 6)
  let s := (s.setF (F.RDR_STATUS_STOP c) code).onCtx c Ctx.clearRun
  let s := s.setCtxState c .stopped
  if n = 0 then s.stopPins c else s.addDue c n .stopPins

/-- A context goes OFF with its cluster (Table 6-7): stop status FENCED where the cluster is fenced, channels parked from L+2. -/
def State.offCtx (s : State) (c : Nat) (fencedCode : Bool) : State :=
  let was := s.ctxState c
  let s := if fencedCode then s.setF (F.RDR_STATUS_STOP c) 0x28 else s
  let s := if was.active then s.onCtx c Ctx.clearRun else s
  let s := s.setCtxState c .off
  if was.active then s.addDue c 2 .stopPins else s

end Sys2Proof.Machine
end

