-- ==== Sys2Proof/Machine/Units.lean ====
section
/-! DEFINITION. The measuring units as every family of commands can stop or restart them: the PMUs and decimation chains
(11_pmu_and_decimation.md), the acquisition engines (12_acquisition.md) and the TIMs (13_time_interval.md). -/
namespace Sys2Proof.Machine

/-! ### PMUs and decimation chains -/

def State.pmu (s : State) (ch : Nat) : Pmu := SMap.get {} s.pmus ch
def State.setPmu (s : State) (ch : Nat) (p : Pmu) : State := { s with pmus := SMap.put {} s.pmus ch p }
def State.onPmu (s : State) (ch : Nat) (g : Pmu → Pmu) : State := s.setPmu ch (g (s.pmu ch))

/-- The mode in force: MODE with PATH = PMU, FNMV with PE_MV, else none, as OFF (R304); reserved codes act as OFF. -/
def State.pmuMode (s : State) (ch : Nat) : Nat :=
  match (s.chan ch).conn with
  | 2 => let m := bitsAt (s.pmu ch).ctrl.toNat 0 3; if m ≤ 5 then m else 0
  | 3 => 5
  | _ => 0

/-- IRANGE in force; reserved codes act as I2U (Table 11-3). -/
def State.pmuRange (s : State) (ch : Nat) : Nat :=
  let r := bitsAt (s.pmu ch).ctrl.toNat 8 3
  if r ≤ 4 then r else 0

/-- The modes that force, and among them those that force a voltage (Table 11-1). -/
def forces (m : Nat) : Bool := decide (1 ≤ m ∧ m ≤ 4)
def forcesVoltage (m : Nat) : Bool := decide (m = 1 ∨ m = 3)
/-- The modes that measure a voltage. -/
def measuresVoltage (m : Nat) : Bool := decide (m = 2 ∨ m = 3 ∨ m = 5)

def Pmu.forceCode (p : Pmu) : Int := signed 16 p.force.toNat
def Pmu.clampHi (p : Pmu) : Int := signed 16 (p.clamp.toNat / 65536)
def Pmu.clampLo (p : Pmu) : Int := signed 16 p.clamp.toNat

/-- A clamp pair in the wrong order in a mode that uses clamps (R308). -/
def State.pmuClampBad (s : State) (ch : Nat) : Bool :=
  forces (s.pmuMode ch) && decide ((s.pmu ch).clampHi < (s.pmu ch).clampLo)

/-- PMU_STATUS.CFG_ERR (Table 11-1, R308). -/
def State.pmuCfgErr (s : State) (ch : Nat) : Bool :=
  decide (6 ≤ bitsAt (s.pmu ch).ctrl.toNat 0 3) || s.pmuClampBad ch

/-- The code limits of Table 11-2 for a voltage or a current, and the nearest limit (R307). -/
def codeOut (volt : Bool) (v : Int) : Bool :=
  if volt then decide (v < -6000 ∨ 26000 < v) else decide (v < -32000 ∨ 32000 < v)
def codeClip (volt : Bool) (v : Int) : Int :=
  let lo : Int := if volt then -6000 else -32000
  let hi : Int := if volt then 26000 else 32000
  if v < lo then lo else if hi < v then hi else v

/-- PMU_STATUS.CODE_RANGE (R307): the force code, and the clamps, which limit the other quantity. -/
def State.pmuCodeRange (s : State) (ch : Nat) : Bool :=
  let m := s.pmuMode ch
  let p := s.pmu ch
  forces m && (codeOut (forcesVoltage m) p.forceCode || codeOut (!forcesVoltage m) p.clampHi ||
    codeOut (!forcesVoltage m) p.clampLo)

/-- The force amplifier drives the ball (R303, R304, R308, R314). -/
def State.pmuForcing (s : State) (ch : Nat) : Bool :=
  forces (s.pmuMode ch) && !(s.pmu ch).stopped && !s.pmuClampBad ch && s.domOn (domPmu (bayOfCh ch))

/-- The code the force amplifier applies to the ball, and the clamp codes it keeps to, each at the nearest limit (R307); none where it
does not force. -/
def State.pmuDrive (s : State) (ch : Nat) : Option (Int × Int × Int) :=
  let p := s.pmu ch
  let v := forcesVoltage (s.pmuMode ch)
  if s.pmuForcing ch then some (codeClip v p.forceCode, codeClip (!v) p.clampLo, codeClip (!v) p.clampHi) else none

/-- PMU_STATUS.STATE (Table 11-8). -/
def State.pmuState (s : State) (ch : Nat) : Nat :=
  if (s.pmu ch).stopped then 3 else if s.pmuForcing ch then 1 else if s.pmuMode ch = 5 then 2 else 0

/-- The PMU stops forcing until MODE is written (R314). -/
def State.pmuStop (s : State) (ch : Nat) : State := s.onPmu ch (fun p => { p with stopped := true, clampNow := false })

/-- Total decimation N = 4·D1 of a preset (Table 11-5). -/
def decimation (preset : Nat) : Nat := match preset with | 0 => 64 | 1 => 1024 | 2 => 8192 | _ => 65536

def State.fltEn (s : State) (ch : Nat) : Bool := bitAt (s.pmu ch).flt.toNat 31
def State.fltPhase (s : State) (ch : Nat) : Nat := bitsAt (s.pmu ch).flt.toNat 16 10
def State.fltPreset (s : State) (ch : Nat) : Nat := bitsAt (s.pmu ch).flt.toNat 0 2

/-- TAPS of the active bank: 0 acts as 1, above 96 as 96 (Table 11-8). -/
def State.taps (s : State) (b : Nat) : Nat :=
  let t := if s.flag (F.FLT_BANK_ACTIVE b) then s.f (F.FLT_BANK_TAPS_B b) else s.f (F.FLT_BANK_TAPS_A b)
  if t = 0 then 1 else if 96 < t then 96 else t

/-- Group delay in 5 ns units (R316, R317, R318). -/
def State.groupDelay (s : State) (ch : Nat) : Nat :=
  let d1 := decimation (s.fltPreset ch) / 4
  (s.taps (bayOfCh ch) - 1) * d1 + 5 * (d1 - 1) + 16 + 2 * s.fltPhase ch

/-- FLT_GD follows a restart or a bank swap (R318). -/
def State.showGd (s : State) (ch : Nat) : State := s.setF (F.FLT_GD_GD ch) (s.groupDelay ch)

/-- A channel's chain restarts: 26 invalid samples follow (R320). -/
def State.fltRestart (s : State) (ch : Nat) : State :=
  if s.fltEn ch then (s.onPmu ch (fun p => { p with restart := 26 })).showGd ch else s

/-- A fence of the decimation cluster: FLT_LAST of every channel reads with VALID = 0 (R315). -/
def State.fltFence (s : State) (b : Nat) : State :=
  s.each 64 (fun i s => s.setF ⟨Reg.FLT_LAST (64 * b + i), 7, 1⟩ 0)

/-! ### Acquisition engines -/

def State.acq (s : State) (e : Nat) : Acq := SMap.get {} s.acqs e
def State.setAcq (s : State) (e : Nat) (a : Acq) : State := { s with acqs := SMap.put {} s.acqs e a }
def State.onAcq (s : State) (e : Nat) (g : Acq → Acq) : State := s.setAcq e (g (s.acq e))
def State.acqArmed (s : State) (e : Nat) : Bool := decide (s.f (F.ACQ_STATUS_STATE e) = 1)

/-- An occurrence of EXT source x sets the latch of every enabled EXT transition, of the state each armed engine is in, that names it
(R336). -/
def State.acqExt (s : State) (x : Nat) : State :=
  s.each 8 (fun e s =>
    if !s.acqArmed e then s
    else
      let k := s.f (F.ACQ_STATUS_TSTATE e)
      s.each 4 (fun t s =>
        if s.flag (F.ACQ_TR_CTRL_EN e k t) && decide (s.f (F.ACQ_TR_CTRL_PRED e k t) = 0xE ∧ s.f (F.ACQ_TR_CTRL_EXT e k t) = x) then
          s.onAcq e (fun a => { a with latches := setBitTo a.latches t true })
        else s))

/-- The stream of a record and the site of its header (R352, R368): index t below 16 is site 16·bay + t. -/
def streamKey (sbay t : Nat) : Nat := 21 * sbay + t
def streamSite (sbay t : Nat) : Nat := if t < 16 then 16 * sbay + t else 0xFF

/-- RDR_LCNT of the named context, and its number, or 0 and 0xFF (R352). -/
def State.acqLeaf (s : State) (e : Nat) : Nat :=
  if s.flag (F.ACQ_CFG_CTX_EN e) then (s.ctx (s.f (F.ACQ_CFG_CTX e))).lcnt else 0
def State.acqCtx (s : State) (e : Nat) : Nat := if s.flag (F.ACQ_CFG_CTX_EN e) then s.f (F.ACQ_CFG_CTX e) else 0xFF

/-- An ACQ record (Table 12-6). -/
def State.acqRecord (s : State) (e sub tstate detail w0 w1 w2 a b : Nat) (extra : List Byte) (n : Nat) : State :=
  let sb := s.f (F.ACQ_CFG_SBAY e)
  let t := s.f (F.ACQ_CFG_STREAM_T e)
  s.event (streamKey sb t) 0x0E (s.acqLeaf e) (s.acqCtx e) (streamSite sb t) n
    (leBytes sub 1 ++ leBytes e 1 ++ leBytes tstate 1 ++ leBytes detail 1 ++ leBytes w0 4 ++ leBytes w1 4 ++ leBytes w2 4 ++
      leBytes ((s.acq e).sidx % 2 ^ 48) 8 ++ leBytes a 4 ++ leBytes b 4 ++ extra)

/-- An extreme as the record holds it: for PMU, VALUE above the flags and the unit (R352). -/
def extreme (pmu : Bool) (v : Int) (flags : Nat) : Nat :=
  if pmu then unsigned 24 v * 256 + flags % 256 else unsigned 32 v

/-- Close the reduction interval: a MINMAX record where it holds a sample (R345). -/
def State.acqMinMax (s : State) (e tstate : Nat) : State :=
  let a := s.acq e
  let pmu := decide (s.f (F.ACQ_SRC_KIND e) = 0)
  let s := if a.redN = 0 then s
    else
      let b := if s.flag (F.ACQ_SRC_B_EN e) then leBytes (extreme pmu a.minB a.flagB) 4 ++ leBytes (extreme pmu a.maxB a.flagB) 4
               else []
      s.acqRecord e 3 tstate 0 a.redN a.redX 0 (extreme pmu a.minA a.flagA) (extreme pmu a.maxA a.flagA) b 40
  s.onAcq e (fun x => { x with redN := 0, redX := 0, minA := 0, maxA := 0, minB := 0, maxB := 0, flagA := 0, flagB := 0 })

/-- Sample words of the step for a record; 0 outside a sample step. -/
def State.acqWords (s : State) (e : Nat) (smp : Option (Nat × Nat)) : Nat × Nat :=
  match smp with
  | some (a, b) => (a, if s.flag (F.ACQ_SRC_B_EN e) then b else 0)
  | none => (0, 0)

/-- Show an engine's live fields in ACQ_STATUS. -/
def State.acqShow (s : State) (e : Nat) : State :=
  let a := s.acq e
  (((s.setF (F.ACQ_STATUS_SEG e) a.seg).setFlag (F.ACQ_STATUS_MASK e) a.maskOn).setFlag (F.ACQ_STATUS_HOLDOFF e) (decide (a.hold ≠ 0)))

/-- The engine stops and becomes DONE: a partial interval, then the STOP record (R337, R346). -/
def State.acqDone (s : State) (e cause : Nat) (smp : Option (Nat × Nat)) : State :=
  let t := s.f (F.ACQ_STATUS_TSTATE e)
  let s := s.acqMinMax e t
  let a := s.acq e
  let (wa, wb) := s.acqWords e smp
  let s := s.acqRecord e 4 t cause a.c0 a.c1 a.timer wa wb [] 32
  let s := s.onAcq e (fun x => { x with maskOn := false, hold := 0, waiting := [], gotA := none, gotB := none })
  (((s.setF (F.ACQ_STATUS_CAUSE e) cause).setF (F.ACQ_STATUS_STATE e) 2).acqShow e).irq (0x70 + e)

/-- An ARMED engine is stopped from outside (R346). -/
def State.acqStop (s : State) (e cause : Nat) : State := if s.acqArmed e then s.acqDone e cause none else s

/-- A bay enters CALIBRATING or SELFTEST: its engines with a PMU or CMP source stop (R346). -/
def State.acqStopBay (s : State) (b : Nat) : State :=
  s.eachOf [2 * b, 2 * b + 1] (fun e s => if s.f (F.ACQ_SRC_KIND e) ≤ 1 then s.acqStop e 5 else s)

/-- A fence of an engine: it reads FENCED and writes no STOP record (R346, R348). -/
def State.acqFence (s : State) (e : Nat) : State :=
  let s := if s.acqArmed e then s.setF (F.ACQ_STATUS_CAUSE e) 6 else s
  let s := s.onAcq e (fun x => { x with maskOn := false, hold := 0, waiting := [], gotA := none, gotB := none, redN := 0, redX := 0 })
  (s.setF (F.ACQ_STATUS_STATE e) 3).acqShow e

/-- The mask's position advances; past the last position of LAST it repeats or ends (R342). -/
def State.maskAdvance (s : State) (e : Nat) : State :=
  let a := s.acq e
  if !a.maskOn then s
  else if a.pos + 1 < (s.rd (Reg.ACQ_SEG_LEN e a.seg)).toNat % 2 ^ 24 then s.onAcq e (fun x => { x with pos := x.pos + 1 })
  else if a.seg < s.f (F.ACQ_MASK_CFG_LAST e) then s.onAcq e (fun x => { x with seg := x.seg + 1, pos := 0, passViol := false })
  else if s.flag (F.ACQ_MASK_CFG_REPEAT e) then s.onAcq e (fun x => { x with seg := 0, pos := 0, passViol := false })
  else s.onAcq e (fun x => { x with maskOn := false, seg := 0, pos := 0, passViol := false })

/-- A sample of the bay's TIM or of a played leaf reaches the engine (R329, R361, R363). -/
def State.acqArrive (s : State) (e a b : Nat) : State :=
  if s.acqArmed e then s.onAcq e (fun x => { x with waiting := x.waiting ++ [(a, b)] }) else s

/-! ### TIMs -/

def State.tim (s : State) (t : Nat) : Tim := SMap.get {} s.tims t
def State.setTim (s : State) (t : Nat) (x : Tim) : State := { s with tims := SMap.put {} s.tims t x }
def State.onTim (s : State) (t : Nat) (g : Tim → Tim) : State := s.setTim t (g (s.tim t))
def State.timArmed (s : State) (t : Nat) : Bool := decide (s.f (F.TIM_STATUS_STATE t) = 1)

/-- Clear a TIM's accumulators; the result set written last, and the last events, stay (R365, R369). -/
def Tim.clear (x : Tim) : Tim :=
  { lastStart := x.lastStart, lastStop := x.lastStop, res := x.res, latched := x.latched }

/-- An ARMED TIM stops without a result set: 1 HOST, 2 CAL, 3 SAFE, 4 SELFTEST, 5 FENCED (R370). -/
def State.timStopped (s : State) (t cause : Nat) : State :=
  if s.timArmed t then
    ((s.setF (F.TIM_STATUS_CAUSE t) cause).setF (F.TIM_STATUS_STATE t) 2).onTim t (fun x => { x.clear with lastStart := none, lastStop := none })
  else s

/-- A fence of a TIM (R370). -/
def State.timFence (s : State) (t : Nat) : State := (s.timStopped t 5).setF (F.TIM_STATUS_STATE t) 3

end Sys2Proof.Machine
end

