-- ==== Sys2Proof/Machine/Acq.lean ====
section
/-! DEFINITION. The acquisition engines (12_acquisition.md). -/
namespace Sys2Proof.Machine

/-! ### Arm -/

/-- Transition t of state k. -/
def State.trOn (s : State) (e k t : Nat) : Bool := s.flag (F.ACQ_TR_CTRL_EN e k t)
def State.trPred (s : State) (e k t : Nat) : Nat := s.f (F.ACQ_TR_CTRL_PRED e k t)
def State.trQual (s : State) (e k t : Nat) : Nat := s.f (F.ACQ_TR_CTRL_QUAL e k t)
def State.trAct (s : State) (e k t a : Nat) : Bool := bitAt (s.f (F.ACQ_TR_CTRL_ACTIONS e k t)) a
/-- N of a transition: 0 acts as 1 (Table 12-3). -/
def State.trN (s : State) (e k t : Nat) : Nat := Nat.max 1 (s.rd (Reg.ACQ_TR_N e k t)).toNat
/-- A predicate on B or on D. -/
def predNeedsB (p : Nat) : Bool := decide (5 ≤ p ∧ p ≤ 12)
/-- EXT codes that name a source (R336). -/
def extOk (x : Nat) : Bool := decide (x < 0x18) || decide (0x20 ≤ x ∧ x < 0x30)

/-- Arm refuses the program (R336, R340, Table 12-2, Table 12-8). -/
def State.acqProgramBad (s : State) (e : Nat) : Bool :=
  let bEn := s.flag (F.ACQ_SRC_B_EN e)
  let segBad := (List.range (s.f (F.ACQ_MASK_CFG_LAST e) + 1)).any (fun g => decide ((s.rd (Reg.ACQ_SEG_LEN e g)).toNat % 2 ^ 24 = 0))
  let counts := fun k t => s.trOn e k t && decide (s.trQual e k t = 1 ∨ s.trQual e k t = 2)
  (s.flag (F.ACQ_MASK_CFG_B_CHECK e) && !bEn) ||
  (List.range 8).any (fun k =>
    (List.range 4).any (fun t => s.trOn e k t &&
      (decide (s.trPred e k t = 0xF) ||
       (decide (s.trPred e k t = 0xE) && !extOk (s.f (F.ACQ_TR_CTRL_EXT e k t))) ||
       (decide (s.trQual e k t = 3) && decide (s.trPred e k t ≠ 0)) ||
       (predNeedsB (s.trPred e k t) && !bEn) ||
       (s.trAct e k t 2 && segBad) ||
       (counts k t && (List.range t).any (fun u => counts k u &&
          decide (s.f (F.ACQ_TR_CTRL_KSEL e k u) = s.f (F.ACQ_TR_CTRL_KSEL e k t)))))))

/-- The bay is CALIBRATING, in SELFTEST or FENCED, or the chip mode refuses an Arm of a measuring unit (Tables 12-5, 13-4). -/
def State.measureModeBad (s : State) (b : Nat) : Bool :=
  decide (s.mode ∈ [.cold, .boot, .standby, .selftest, .safe]) || s.bayCalibrating b || s.fenced (unitCode 3 b)

/-- Whether a stream of R271 exists. -/
def streamExists (sbay t : Nat) : Bool := decide (t < 20) || (decide (t = 20) && decide (sbay = 0))

/-- The Arm checks of Table 12-5 in order. -/
def State.acqArmResult (s : State) (e : Nat) : Nat :=
  let b := e / 2
  let kind := s.f (F.ACQ_SRC_KIND e)
  let bEn := s.flag (F.ACQ_SRC_B_EN e)
  let a := 64 * b + s.f (F.ACQ_SRC_CH_A e)
  let c := 64 * b + s.f (F.ACQ_SRC_CH_B e)
  if s.measureModeBad b then 2
  else if decide (kind = 3) ||
      (decide (kind = 0) && (!s.fltEn a || (bEn && (!s.fltEn c || decide (s.fltPreset a ≠ s.fltPreset c))))) ||
      (decide (kind = 1) && ((s.owner a).isNone || (bEn && decide (s.owner a ≠ s.owner c)))) ||
      (decide (kind = 2) && bEn) then 3
  else if s.acqProgramBad e then 4
  else if !streamExists (s.f (F.ACQ_CFG_SBAY e)) (s.f (F.ACQ_CFG_STREAM_T e)) then 5
  else 1

/-- Entering a trigger state (R338). -/
def State.acqEnter (s : State) (e k : Nat) : State :=
  let s := s.setF (F.ACQ_STATUS_TSTATE e) k
  s.onAcq e (fun x => { x with timer := 0, latches := 0, c0 := if s.flag (F.ACQ_STATE_CLR0 e k) then 0 else x.c0,
                               c1 := if s.flag (F.ACQ_STATE_CLR1 e k) then 0 else x.c1 })

/-- ACQ_ARM (R351): from IDLE or DONE the checks run; a passed Arm clears every counter and enters ARMED in S0. -/
def execAcqArm (e : Nat) (w : BusWrite) (s : State) : Host.Outcome State Fault Refusal :=
  .next (s.onWrite (Reg.ACQ_CTRL e) w (fun s =>
    if w.data.getLsbD 0 && decide (s.f (F.ACQ_STATUS_STATE e) ∈ [0, 2]) then
      let r := s.acqArmResult e
      let s := s.setF (F.ACQ_STATUS_RESULT e) r
      if r ≠ 1 then s
      else
        let s := s.setAcq e {}
        let s := s.eachOf [Reg.ACQ_TRIGS e, Reg.ACQ_VIOL e, Reg.ACQ_GAP e, Reg.ACQ_EXCL e] (fun a s => s.wr a 0)
        (((s.setF (F.ACQ_STATUS_CAUSE e) 0).setF (F.ACQ_STATUS_STATE e) 1).acqEnter e 0).acqShow e
    else s))

/-- ACQ_STOP (R346): STOP outside ARMED is ignored. -/
def execAcqStop (e : Nat) (w : BusWrite) (s : State) : Host.Outcome State Fault Refusal :=
  .next (s.onWrite (Reg.ACQ_CTRL e) w (fun s => if w.data.getLsbD 1 then s.acqStop e 3 else s))

/-! ### A step -/

/-- The value V of an input word (R329): the sign-extended VALUE of a sample word, otherwise the word itself. -/
def State.acqValue (s : State) (e word : Nat) : Int :=
  if s.f (F.ACQ_SRC_KIND e) = 0 then signed 24 (word / 256) else signed 32 word

/-- The sample carries a flag that EXCL selects, on any input (R332). -/
def State.acqExcluded (s : State) (e : Nat) (smp : Nat × Nat) : Bool :=
  let bad := fun word => decide ((BitVec.ofNat 3 (bitsAt word 4 3)) &&& (BitVec.ofNat 3 (s.f (F.ACQ_CFG_EXCL e))) ≠ 0#3)
  decide (s.f (F.ACQ_SRC_KIND e) = 0) && (bad smp.1 || (s.flag (F.ACQ_SRC_B_EN e) && bad smp.2))

/-- Predicate of transition t (Table 12-2); `smp` is none in a timer step, `viol` what the mask test found. -/
def State.trHolds (s : State) (e k t : Nat) (smp : Option (Nat × Nat)) (viol : Bool) : Bool :=
  let p := s.trPred e k t
  if p = 0 then true
  else if p = 0xE then bitAt (s.acq e).latches t
  else match smp with
    | none => false
    | some x =>
      if s.acqExcluded e x then false
      else if p = 0xD then viol
      else if p = 0xF then false
      else
        let va := s.acqValue e x.1
        let vb := s.acqValue e x.2
        let v := if p ≤ 4 then va else if p ≤ 8 then vb else va - vb
        let lo := signed 32 (s.rd (Reg.ACQ_TR_LO e k t)).toNat
        let hi := signed 32 (s.rd (Reg.ACQ_TR_HI e k t)).toNat
        match p % 4 with
        | 1 => decide (hi < v)
        | 2 => decide (v < lo)
        | 3 => decide (lo ≤ v ∧ v ≤ hi)
        | _ => decide (v < lo ∨ hi < v)

/-- Counter KSEL of an engine. -/
def Acq.counter (x : Acq) (k : Nat) : Nat := if k = 0 then x.c0 else x.c1
def Acq.setCounter (x : Acq) (k v : Nat) : Acq := if k = 0 then { x with c0 := v } else { x with c1 := v }

/-- The counter updates of a sample step (Table 12-3); MASK_VIOL is not yet known, so `viol` is the test's own outcome. -/
def State.acqCount (s : State) (e k : Nat) (smp : Nat × Nat) (viol : Bool) : State :=
  let ex := s.acqExcluded e smp
  (List.range 4).foldl (fun s' t =>
    if !s.trOn e k t then s'
    else
      let ksel := s.f (F.ACQ_TR_CTRL_KSEL e k t)
      let holds := s.trHolds e k t (some smp) viol
      let up := s'.onAcq e (fun x => x.setCounter ksel (satAdd 0xFFFFFFFF (x.counter ksel) 1))
      match s.trQual e k t with
      | 1 => if holds then up else s'
      | 2 => if holds then up else if ex then s' else s'.onAcq e (fun x => x.setCounter ksel 0)
      | _ => s') s

/-- Whether transition t is satisfied (Table 12-3), with the counters of this step. -/
def State.trSatisfied (s : State) (e k t : Nat) (smp : Option (Nat × Nat)) (viol : Bool) : Bool :=
  let holds := s.trHolds e k t smp viol
  let a := s.acq e
  s.trOn e k t &&
  (match s.trQual e k t with
   | 0 => holds
   | 3 => decide (s.trN e k t ≤ a.timer)
   | _ => smp.isSome && holds && decide (s.trN e k t ≤ a.counter (s.f (F.ACQ_TR_CTRL_KSEL e k t))))

/-- The mask test's outcome on a sample (R343). -/
def State.maskViolates (s : State) (e : Nat) (smp : Nat × Nat) : Bool :=
  let a := s.acq e
  let lim := fun r => signed 32 (s.rd r).toNat
  let va := s.acqValue e smp.1
  let vb := s.acqValue e smp.2
  a.maskOn && !s.acqExcluded e smp &&
    (decide (va < lim (Reg.ACQ_SEG_A_LO e a.seg) ∨ lim (Reg.ACQ_SEG_A_HI e a.seg) < va) ||
     (s.flag (F.ACQ_MASK_CFG_B_CHECK e) && decide (vb < lim (Reg.ACQ_SEG_B_LO e a.seg) ∨ lim (Reg.ACQ_SEG_B_HI e a.seg) < vb)))

/-- Reduction takes a sample (R345). -/
def State.acqReduce (s : State) (e : Nat) (smp : Nat × Nat) : State :=
  if s.acqExcluded e smp then s.onAcq e (fun x => { x with redX := x.redX + 1 })
  else
    let va := s.acqValue e smp.1
    let vb := s.acqValue e smp.2
    let pmu := decide (s.f (F.ACQ_SRC_KIND e) = 0)
    let fl := fun old word => if pmu then (BitVec.ofNat 8 old ||| BitVec.ofNat 8 (bitsAt word 4 3 * 16)).toNat / 16 * 16 + word % 16 else 0
    s.onAcq e (fun x =>
      let first := decide (x.redN = 0)
      { x with redN := x.redN + 1, minA := if first then va else min x.minA va, maxA := if first then va else max x.maxA va,
               minB := if first then vb else min x.minB vb, maxB := if first then vb else max x.maxB vb,
               flagA := fl x.flagA smp.1, flagB := fl x.flagB smp.2 })

/-- The trigger output (R349): count, the ACQ latch in every context, the pulse on TRIG, and the hold-off (R341). -/
def State.acqTrigger (s : State) (e : Nat) : State :=
  let s := (s.satInc (F.ACQ_TRIGS e)).each 16 (fun c s => s.onCtx c (fun x => { x with acq := setBitTo x.acq e true }))
  let s := if s.flag (F.ACQ_CFG_TRIG_EN e) then s.emit (.trigPulse (s.f (F.ACQ_CFG_TRIG e)) 262144) else s
  if s.f (F.ACQ_HOLDOFF_MODE e) = 0 then s else s.onAcq e (fun x => { x with hold := s.f (F.ACQ_HOLDOFF_N e) })

/-- The engine stops by its program or by VSTOP (R346, R347): a halt request where HALT and CTX_EN say so, or S0 again. -/
def State.acqSelfStop (s : State) (e cause : Nat) (smp : Option (Nat × Nat)) : State :=
  if cause = 1 ∧ s.flag (F.ACQ_CFG_REARM e) then
    let t := s.f (F.ACQ_STATUS_TSTATE e)
    let s := s.acqMinMax e t
    let a := s.acq e
    let (wa, wb) := s.acqWords e smp
    let s := s.acqRecord e 4 t 1 a.c0 a.c1 a.timer wa wb [] 32
    let s := s.onAcq e (fun x => { x with c0 := 0, c1 := 0, maskOn := false, seg := 0, pos := 0, passViol := false, hold := 0 })
    (s.acqEnter e 0).acqShow e
  else
    let s := s.acqDone e cause smp
    if s.flag (F.ACQ_CFG_HALT e) && s.flag (F.ACQ_CFG_CTX_EN e) then s.requestHalt (s.f (F.ACQ_CFG_CTX e)) else s

/-- Transition t fires: its actions in the order of R337, then the stop or the next state. -/
def State.acqFire (s : State) (e k t : Nat) (smp : Option (Nat × Nat)) : State :=
  let stop := s.trAct e k t 4
  let next := s.f (F.ACQ_TR_CTRL_NEXT e k t)
  let a := s.acq e
  let (wa, wb) := s.acqWords e smp
  let s := if s.trAct e k t 1 then
      s.acqRecord e 1 (if stop then k else next) (16 * k + t) a.c0 a.c1 a.timer wa wb [] 32 else s
  let s := if s.trAct e k t 0 then s.acqTrigger e else s
  let s := if s.trAct e k t 3 then s.onAcq e (fun x => { x with maskOn := false, seg := 0, pos := 0, passViol := false }) else s
  let s := if s.trAct e k t 2 then s.onAcq e (fun x => { x with maskOn := true, seg := 0, pos := 0, passViol := false }) else s
  let s := match smp with
    | some x => if s.flag (F.ACQ_STATE_REDUCE e k) then
        let s := s.acqReduce e x
        if (s.acq e).redN = Nat.max 1 (s.f (F.ACQ_RED_N e)) then s.acqMinMax e (if stop then k else next) else s
      else s
    | none => s
  if stop then s.acqSelfStop e 1 smp
  else
    let s := if s.flag (F.ACQ_STATE_REDUCE e k) then s.acqMinMax e next else s
    (s.acqEnter e next).acqShow e

/-- No transition fires: reduction takes the sample, and the state stays. -/
def State.acqStay (s : State) (e k : Nat) (smp : Option (Nat × Nat)) : State :=
  match smp with
  | some x =>
    if s.flag (F.ACQ_STATE_REDUCE e k) then
      let s := s.acqReduce e x
      (if (s.acq e).redN = Nat.max 1 (s.f (F.ACQ_RED_N e)) then s.acqMinMax e k else s).acqShow e
    else s.acqShow e
  | none => s.acqShow e

/-- Choose the transition: the lowest-numbered satisfied one, the hold-off taking those with TRIG out (R337, R339, R341). -/
def State.acqChoose (s : State) (e k : Nat) (smp : Option (Nat × Nat)) (viol : Bool) : State :=
  let held := decide ((s.acq e).hold ≠ 0)
  let sat := (List.range 4).filter (fun t => s.trSatisfied e k t smp viol)
  let wouldTrig := match sat with
    | t :: _ => s.trAct e k t 0
    | [] => false
  let mode := s.f (F.ACQ_HOLDOFF_MODE e)
  let s := if held && ((decide (mode = 2) && smp.isSome) || (decide (mode = 3) && wouldTrig)) then
      s.onAcq e (fun x => { x with hold := x.hold - 1 }) else s
  match sat.filter (fun t => !(held && s.trAct e k t 0)) with
  | t :: _ => s.acqFire e k t smp
  | [] => s.acqStay e k smp

/-- The first violation of a pass through a segment writes its record; each counts (R343). -/
def State.acqViolation (s : State) (e k : Nat) (smp : Nat × Nat) (next : Nat) : State :=
  let a := s.acq e
  let (wa, wb) := s.acqWords e (some smp)
  let s := s.satInc (F.ACQ_VIOL e)
  if a.passViol then s
  else (s.acqRecord e 2 (if s.flag (F.ACQ_MASK_CFG_VSTOP e) then k else next) a.seg a.c0 a.c1 a.timer wa wb [] 32).onAcq e
    (fun x => { x with passViol := true })

/-- The state after the step, for the record of a violation (Table 12-6). -/
def State.acqNextState (s : State) (e k : Nat) (smp : Nat × Nat) (viol : Bool) : Nat :=
  match ((List.range 4).filter (fun t => s.trSatisfied e k t (some smp) viol)).filter
      (fun t => !(decide ((s.acq e).hold ≠ 0) && s.trAct e k t 0)) with
  | t :: _ => if s.trAct e k t 4 then k else s.f (F.ACQ_TR_CTRL_NEXT e k t)
  | [] => k

/-- One sample step, in the order of R337. -/
def State.acqStepSample (s : State) (e : Nat) (smp : Nat × Nat) : State :=
  let k := s.f (F.ACQ_STATUS_TSTATE e)
  let s := s.onAcq e (fun x => { x with sidx := (x.sidx + 1) % 2 ^ 48, swrap := x.swrap || decide (x.sidx + 1 = 2 ^ 48) })
  let s := if s.acqExcluded e smp then s.satInc (F.ACQ_EXCL e) else s
  let viol := s.maskViolates e smp
  let s := s.acqCount e k smp viol
  let vstop := viol && s.flag (F.ACQ_MASK_CFG_VSTOP e)
  let s := if viol then s.acqViolation e k smp (s.acqNextState e k smp viol) else s
  let s := s.maskAdvance e
  if vstop then
    let s := if s.flag (F.ACQ_STATE_REDUCE e k) then s.acqReduce e smp else s
    s.acqSelfStop e 2 (some smp)
  else s.acqChoose e k (some smp) viol

/-- ACQ_SAMPLE_STEP (R334, R337): the oldest sample that arrived is evaluated in one step. -/
def execAcqSampleStep (e : Nat) (s : State) : Host.Outcome State Fault Refusal :=
  .next (
    match (s.acq e).waiting with
    | [] => s
    | smp :: rest => if s.acqArmed e then (s.onAcq e (fun x => { x with waiting := rest })).acqStepSample e smp else s)

/-- The ticks at which an enabled TIMER transition of the current state becomes due, least first. -/
def State.timerDue (s : State) (e k : Nat) : Option Nat :=
  ((List.range 4).filter (fun t => s.trOn e k t && decide (s.trQual e k t = 3) && decide ((s.acq e).timer ≤ s.trN e k t))).foldl
    (fun m t => match m with
      | none => some (s.trN e k t)
      | some n => some (Nat.min n (s.trN e k t))) none

/-- ACQ_TIMER_STEP (R335): the tick comes in which ACQ_TIMER reaches the N of the next TIMER transition, with no sample in it. -/
def execAcqTimerStep (e : Nat) (s : State) : Host.Outcome State Fault Refusal :=
  .next (
    let k := s.f (F.ACQ_STATUS_TSTATE e)
    match s.timerDue e k with
    | some n => if s.acqArmed e then (s.onAcq e (fun x => { x with timer := n })).acqChoose e k none false else s
    | none => s)

/-- HOLDOFF_END (R341): a hold-off of ticks completes; one of samples or events completes in the step that ends its count. -/
def execHoldoffEnd (e : Nat) (s : State) : Host.Outcome State Fault Refusal :=
  .next (if s.f (F.ACQ_HOLDOFF_MODE e) = 1 then (s.onAcq e (fun x => { x with hold := 0 })).acqShow e else s)

/-- ACQ_SIDX_READ (R353): one step's index, counters and timer are latched, and the low word is answered. -/
def execAcqSidxRead (e : Nat) (s : State) : Host.Outcome State Fault Refusal :=
  .next (
    let a := s.acq e
    let s := (((s.setF (F.ACQ_SIDX_HI_HI e) (a.sidx / 2 ^ 32)).setFlag (F.ACQ_SIDX_HI_WRAP e) a.swrap).wr (Reg.ACQ_CNT0 e)
      (BitVec.ofNat 32 a.c0)).wr (Reg.ACQ_CNT1 e) (BitVec.ofNat 32 a.c1)
    let s := (s.wr (Reg.ACQ_TIMER e) (BitVec.ofNat 32 a.timer)).wr (Reg.ACQ_SIDX_LO e) (BitVec.ofNat 32 a.sidx)
    (s.onAcq e (fun x => { x with swrap := false })).emit (.answer (Reg.ACQ_SIDX_LO e) (a.sidx % 2 ^ 32)))

end Sys2Proof.Machine
end

