-- ==== Sys2Proof/Machine/Store.lean ====
section
/-! DEFINITION. The stacks and the catalogue as every family of commands uses them: library addresses, a stack's state and
log, catalogue lookups, invalidation, and what a stack loses (08_library_and_catalogue.md, 09_stacks_controller.md). -/
namespace Sys2Proof.Machine

/-! ### Library addresses -/

/-- Bytes of a stack (R208). -/
def stackBytes : Nat := 0xC00000000
def stackOf (a : Nat) : Nat := a / 2 ^ 40 % 2
def offsetOf (a : Nat) : Nat := a % 2 ^ 40
def localAddr (st off : Nat) : Nat := st * 2 ^ 40 + off
/-- n bytes at a LOCAL address lie within one stack (Table 8-1). -/
def localOk (a n : Nat) : Bool := decide (a < 2 ^ 41) && decide (offsetOf a + n ≤ stackBytes)

/-- A current member of the device's group other than itself (R209). -/
def State.memberOk (s : State) (m : Nat) : Bool :=
  s.flag F.GRP_CFG_EN && bitAt (s.f F.GRP_MEMBERS_M) m && decide (m ≠ s.f F.GRP_CFG_SELF)

/-- A host origin bound to its buffer ring (R209). -/
def State.originOk (s : State) (h : Nat) : Bool := s.flag (F.HST_ORIGIN_EN h)

/-- How a library address stands (R208, R209): 0 valid, 1 ADDRESS, 2 NO_ROUTE. -/
def State.addrStatus (s : State) (a : Nat) : Nat :=
  match a / 2 ^ 50 with
  | 0 => if localOk a 1 then 0 else 1
  | 1 => if bitsAt a 41 5 ≠ 0 ∨ localOk (a % 2 ^ 41) 1 = false then 1 else if s.memberOk (bitsAt a 46 4) then 0 else 2
  | 2 => if s.originOk (bitsAt a 46 4) then 0 else 2
  | _ => 1

/-! ### Stacks -/

def State.stk (s : State) (st : Nat) : Stack := SMap.get {} s.stks st
def State.setStk (s : State) (st : Nat) (x : Stack) : State := { s with stks := SMap.put {} s.stks st x }
def State.onStk (s : State) (st : Nat) (g : Stack → Stack) : State := s.setStk st (g (s.stk st))
def Stack.bank (x : Stack) (k : Nat) : Bank := SMap.get {} x.banks k
def Stack.setBank (x : Stack) (k : Nat) (b : Bank) : Stack := { x with banks := SMap.put {} x.banks k b }

/-- STK_STATE.STATE; a change counts on sources 0x0D1 and 0x0D2 (Table 19-9). -/
def State.stkState (s : State) (st : Nat) : Nat := s.f (F.STK_STATE_STATE st)
def State.setStkState (s : State) (st v : Nat) : State :=
  if s.stkState st = v then s else (s.setF (F.STK_STATE_STATE st) v).irq (0xD1 + st)

/-- A stack that serves accesses: ACTIVE or in a frequency change, which holds its requests (R215, R253, R266). -/
def State.stkUp (s : State) (st : Nat) : Bool := decide (s.stkState st = 2 ∨ s.stkState st = 3)

/-- The retrain in progress, which counts as fenced (R524). -/
def State.stkRetraining (s : State) (st : Nat) : Bool := decide (s.stkState st = 4)

/-- SELi in force (R243, R244). -/
def Stack.sel (x : Stack) (i : Nat) : Nat := if i < 5 then bitsAt x.mapLo (6 * i) 6 else bitsAt x.mapHi 0 6

/-- Fields of an OFFSET (Table 9-2, R243). -/
def rowOfOff (off : Nat) : Nat := bitsAt off 21 15
def pcOfOff (off : Nat) : Nat := bitsAt off 6 5
def Stack.bankOf (x : Stack) (off : Nat) : Nat :=
  let xs := (List.range 6).foldl (fun v i => if 21 ≤ x.sel i ∧ x.sel i ≤ 35 ∧ bitAt off (x.sel i) then v + 2 ^ i else v) 0
  (BitVec.ofNat 6 (bitsAt off 15 6) ^^^ BitVec.ofNat 6 xs).toNat
def Stack.bankKey (x : Stack) (off : Nat) : Nat := 64 * pcOfOff off + x.bankOf off

/-- A granule that reads uncorrectable until it is rewritten whole with good data (R257). -/
def State.badGranule (s : State) (a : Nat) : Bool := SMap.get false s.bad (a / 64)
def State.setBad (s : State) (a : Nat) (b : Bool) : State := { s with bad := SMap.put false s.bad (a / 64) b }
/-- Some granule of n bytes from a LOCAL address reads uncorrectable. -/
def State.badRange (s : State) (a n : Nat) : Bool :=
  s.bad.any (fun p => p.2 && decide (a / 64 ≤ p.1) && decide (p.1 * 64 < a + n))

/-- The controller writes a log entry, or adds to the newest one's REPEAT, or drops it while the ring is full (R261). -/
def State.stkLogEntry (s : State) (kind cls st addr detail : Nat) : State :=
  let head := s.f F.STK_LOG_HEAD_IDX
  let newest := (head + 127) % 128 % 64
  let same := match s.stkLog with
    | some (k, a, t) => decide (k = kind) && decide (a = addr) && decide (s.now ≤ t + 100000)
    | none => false
  if same then s.setF ⟨Reg.STK_LOG (8 * newest + 1), 16, 16⟩ (satAdd 0xFFFF (s.f ⟨Reg.STK_LOG (8 * newest + 1), 16, 16⟩) 1)
  else if (head + 128 - s.f F.STK_LOG_TAIL_IDX) % 128 = 64 then s.satInc F.STK_LOG_STATUS_DROPPED
  else
    let off := offsetOf addr
    let plain := decide (kind = 7 ∨ kind = 8)
    let x := s.stk st
    let bytes := leBytes kind 1 ++ leBytes cls 1 ++ leBytes (128 * st + (if plain then 0 else pcOfOff off)) 1 ++
      leBytes (if plain then 0 else x.bankOf off) 1 ++ leBytes (if plain then 0 else rowOfOff off) 2 ++ leBytes 0 2 ++
      leBytes (if plain then 0 else addr) 8 ++ leBytes s.clk.sec 6 ++ leBytes 0 2 ++ leBytes s.clk.ns 4 ++ leBytes detail 4
    let s := (List.range 8).foldl (fun s i => s.wr (Reg.STK_LOG (8 * (head % 64) + i)) (BitVec.ofNat 32 (leAt bytes (4 * i) 4))) s
    let s : State := { s with stkLog := some (kind, addr, s.now) }
    (s.setF F.STK_LOG_HEAD_IDX ((head + 1) % 128)).irq 0xD3

/-! ### The catalogue -/

def State.catBase (s : State) : Nat := s.f F.LIB_CAT_BASE_HI_ADDR * 2 ^ 32 + s.f F.LIB_CAT_BASE_LO_ADDR * 64
def State.catK (s : State) : Nat := s.f F.LIB_CAT_CFG_SIZE_LOG2
def State.catMirror (s : State) : Bool := s.flag F.LIB_CAT_CFG_MIRROR
/-- The table can be used (R211). -/
def State.catOk (s : State) : Bool :=
  decide (10 ≤ s.catK ∧ s.catK ≤ 24) && localOk s.catBase (2 ^ (s.catK + 6)) && decide (s.catBase % 2 ^ (s.catK + 6) = 0)
/-- The stacks that hold a copy of the table, in the order they are read (R212). -/
def State.catStacks (s : State) : List Nat := if s.catMirror then [0, 1] else [stackOf s.catBase]
/-- LOCAL address of entry index i on a stack. -/
def State.entryAddr (s : State) (st i : Nat) : Nat := localAddr st (offsetOf s.catBase + 64 * i)

/-- The 64 bytes of entry index i from the first copy that can be read, in one access (R212, R214). -/
def State.readEntry (s : State) (i : Nat) : Option (List Byte) :=
  (s.catStacks.find? (fun st => s.stkUp st && !s.badRange (s.entryAddr st i) 64)).map (fun st => s.ldBytes (s.entryAddr st i) 64)

/-- Fields of an entry (Table 8-2). -/
def entryCn (e : List Byte) : Nat := leAt e 0 4
def entryStream (e : List Byte) : Bool := bitAt (leAt e 4 1) 1
def entryRes (e : List Byte) : Nat := leAt e 5 1
def entryLength (e : List Byte) : Nat := leAt e 8 8
def entryOrigin (e : List Byte) : Nat := leAt e 0x10 8
def entryLocal (e : List Byte) (st : Nat) : Nat := leAt e (0x18 + 8 * st) 8
def entryLeaves (e : List Byte) : Nat := leAt e 0x28 4
def entryMaxWin (e : List Byte) : Nat := leAt e 0x2C 4
def entryGen (e : List Byte) : Nat := leAt e 0x30 4

/-- The conditions of R213. -/
def State.entryValid (s : State) (e : List Byte) : Bool :=
  decide (leAt e 4 1 < 4) && bitAt (leAt e 4 1) 0 && decide (crc32c (e.take 0x3C) = leAt e 0x3C 4) && decide (leAt e 0x34 8 = 0) &&
  decide (entryRes e < 4) && decide (entryOrigin e < 2 ^ 52) && decide (s.addrStatus (entryOrigin e) = 0) &&
  (List.range 2).all (fun st => let a := entryLocal e st
    (decide (a = 0) && !bitAt (entryRes e) st) || (decide (a ≠ 0) && localOk a 1 && decide (stackOf a = st))) &&
  decide (68 ≤ entryLength e) && decide (entryLength e % 4 = 0) && decide (entryLeaves e ≠ 0)

def State.cache (s : State) (r : Nat) : List (Nat × List Byte) := SMap.get [] s.lib.caches r
def State.setCache (s : State) (r : Nat) (l : List (Nat × List Byte)) : State :=
  { s with lib := { s.lib with caches := SMap.put [] s.lib.caches r l } }
def State.onLib (s : State) (g : Lib → Lib) : State := { s with lib := g s.lib }

/-- A cache takes an entry; a full cache of a cluster (512) or of the prefetcher (1,024) gives up an entry of its own
choice, a free value (08_library_and_catalogue.md, "Changing the catalogue"). -/
def State.cacheAdd (s : State) (r cn : Nat) (e : List Byte) : State :=
  let l := s.cache r
  if l.length < (if r = 4 then 1024 else 512) then s.setCache r (l ++ [(cn, e)])
  else (s.setCache r (l.eraseIdx ((s.freeBits 10).toNat % l.length) ++ [(cn, e)])).nextFree

/-- A lookup of a call number (R211 to R213) by a reader: a cluster's resolver 0 to 3, the prefetcher 4, the command engine or
the Arm check 5, which keep no cache. -/
def State.lookup (s : State) (r cn : Nat) : Option (List Byte) × State :=
  if cn = 0 ∨ s.catOk = false then (none, s)
  else match (s.cache r).find? (fun p => decide (p.1 = cn)) with
    | some p => (some p.2, s)
    | none =>
      match s.readEntry (cn % 2 ^ s.catK) with
      | none => (none, s.setFlag F.LIB_STATUS_TABLE_ERR true)
      | some e =>
        if entryCn e ≠ cn then (none, s)
        else if s.entryValid e then (some e, if r < 5 then s.cacheAdd r cn e else s)
        else (none, (s.setFlag F.LIB_STATUS_ENTRY_BAD true).note 0xE002 0x15 cn)

/-- An entry with another RES_MAP, its check word made anew. -/
def entryWithRes (e : List Byte) (res : Nat) : List Byte :=
  let e := e.take 5 ++ leBytes res 1 ++ (e.drop 6).take 0x36
  e ++ leBytes (crc32c e) 4

/-- The Burcel writes an entry into every copy of the table (R212). -/
def State.putEntry (s : State) (i : Nat) (e : List Byte) : State :=
  s.eachOf s.catStacks (fun st s => if s.stkUp st then s.stBytes (s.entryAddr st i) e else s)

/-- A context still holds a snapshot of this call number, or of any (R228). -/
def Ctx.markOld (x : Ctx) (cn : Option Nat) : Ctx :=
  { x with folios := x.folios.map (fun f => if cn = none ∨ cn = some f.cn then { f with old := true } else f) }

/-- INVALIDATE of a call number, or of all (R227, R228). -/
def State.invalidateCn (s : State) (cn : Option Nat) : State :=
  let s := s.onLib (fun l => { l with caches := l.caches.filterMap (fun p =>
    match cn with
    | none => none
    | some n => let q := p.2.filter (fun x => decide (x.1 ≠ n))
      if q = [] then none else some (p.1, q)) })
  s.each 16 (fun c s => s.onCtx c (fun x => x.markOld cn))

/-- LIB_CMD_STATUS.IN_USE: an old snapshot still plays or is still fetched (R228). -/
def State.libInUse (s : State) : Bool :=
  s.ctxs.any (fun p => p.2.folios.any (fun f => f.old))

/-- Every copy on a stack that lost its contents leaves RES_MAP, in both table copies, and then INVALIDATE_ALL (R229). -/
def State.resMapClear (s : State) (st : Nat) : State :=
  let s := if s.catOk then
      s.each (2 ^ s.catK) (fun i s =>
        match s.readEntry i with
        | some e => if bitAt (entryRes e) st && decide (crc32c (e.take 0x3C) = leAt e 0x3C 4) then
            s.putEntry i (entryWithRes e (setBits (entryRes e) st 1 0)) else s
        | none => s)
    else s
  s.invalidateCn none

/-- A stack's bytes are gone; an unlisted byte reads as power-on memory does. -/
def State.stkErase (s : State) (st : Nat) : State :=
  { s with mem := s.mem.filter (fun p => decide (stackOf p.1 ≠ st)),
           bad := s.bad.filter (fun p => decide (stackOf (64 * p.1) ≠ st)) }

/-- The contents of a stack are lost (R244, R265, R229). -/
def State.stkLose (s : State) (st : Nat) : State :=
  ((s.setFlag (F.STK_STATE_CONTENTS st) true).stkErase st).resMapClear st

/-- A stack is fenced with a cause of STK_STATE.CAUSE: requests complete FENCED, windows lose SYNC, a change in progress ends
FENCED, and for POWER the contents are lost (R254, R265, R266). -/
def State.stkFence (s : State) (st cause : Nat) : State :=
  let s := if s.flag (F.STK_FREQ_GO st) then (s.setFlag (F.STK_FREQ_GO st) false).setF (F.STK_FREQ_RESULT st) 5 else s
  let s := s.eachOf (s.stk st).queue (fun _ s => s.emit (.stk st 2 []))
  let s := s.onStk st (fun x => { x with queue := [] })
  let s := ((s.setF (F.STK_STATE_CAUSE st) cause).setFlag (F.STK_STATE_CONTENTS st) (decide (cause = 5))).setStkState st 5
  let s := s.each 8 (fun w s => s.setFlag (F.STK_MIR_STATUS_SYNC w) false)
  let s := s.stkLogEntry 7 0 st 0 cause
  if cause = 5 then s.stkLose st else s

end Sys2Proof.Machine
end

