-- ==== Sys2Proof/Machine/Links.lean ====
section
/-! DEFINITION. The fabric ports and DUT lanes as every family of commands uses them: port states, sending and receiving
frames, discarding what a port holds (14_weafy_lanes.md). -/
namespace Sys2Proof.Machine

def State.port (s : State) (p : Nat) : Port := SMap.get {} s.ports p
def State.setPort (s : State) (p : Nat) (x : Port) : State := { s with ports := SMap.put {} s.ports p x }
def State.onPort (s : State) (p : Nat) (g : Port → Port) : State := s.setPort p (g (s.port p))

/-- Port states of Table 14-8: 0 DOWN, 1 TRAINING, 2 UP, 3 KEEPALIVE, 4 FENCED. -/
def State.portState (s : State) (p : Nat) : Nat := s.f (F.LNK_PORT_STATUS_STATE p)
/-- A change of state counts on sources 0x0C2 to 0x0C5 (Table 19-9). -/
def State.setPortState (s : State) (p v : Nat) : State :=
  if s.portState p = v then s else (s.setF (F.LNK_PORT_STATUS_STATE p) v).irq (0xC2 + p)
/-- A retrain in progress counts as fenced for the chip budget (R524): TRAINING by a retrain. -/
def State.portRetraining (s : State) (p : Nat) : Bool := decide (s.portState p = 1) && (s.port p).retraining

/-- The port of a member's route (R208). -/
def State.routePort (s : State) (m : Nat) : Option Nat :=
  if s.flag (F.GRP_ROUTE_VALID m) then some (s.f (F.GRP_ROUTE_PORT m)) else none

/-! ### Frames -/

/-- LEN of a frame in flits: the header alone (KEEPALIVE, SUMMARY, HEARTBEAT, TRIGGER), or with payload and FCRC (R389, R390,
Table 14-6, Table 15-6). -/
def frameLen (f : Frame) : Nat :=
  if (f.vc = 3 ∧ f.kind = 2) ∨ (f.vc = 1 ∧ (f.kind = 1 ∨ f.kind = 2)) ∨ f.vc = 2 then 1 else 1 + ceilDiv (f.payload.length + 4) 16

/-- The bytes of a frame on the lanes (Table 14-4, R390). -/
def frameBytes (f : Frame) : List Byte :=
  let h := leBytes (64 * f.vc + f.kind) 1 ++ leBytes (frameLen f) 1 ++ leBytes f.src 1 ++ leBytes (f.dst + 128 * b2n f.bcast) 1 ++
    leBytes f.seq 2 ++ leBytes f.tag 2 ++ leBytes f.arg 4
  let h := h ++ leBytes (crc32c h) 4
  if (frameLen f) = 1 then h
  else
    let n := 16 * ((frameLen f) - 1) - 4
    let body := (f.payload ++ List.replicate n 0).take n
    h ++ body ++ leBytes (crc32c body) 4

/-- Available credits of a VC (R393). -/
def Port.avail (x : Port) (v : Nat) : Nat := (x.freedFar.getD v 0 + 65536 - x.sent.getD v 0) % 65536

/-- LNK_VC_CREDIT.AVAIL shows them. -/
def State.showCredit (s : State) (p : Nat) : State :=
  (List.range 4).foldl (fun s v => s.setF (F.LNK_VC_CREDIT_AVAIL p v) (if (s.port p).credited then (s.port p).avail v else 0)) s

/-- Flits of VC1 to VC3 among the last 512 (R392). -/
def urgentFlits (l : List (Nat × Nat)) : Nat := l.foldl (fun n q => if q.1 = 0 then n else n + q.2) 0
/-- Keep the newest flits, 512 in all. -/
def trimFlits : Nat → List (Nat × Nat) → List (Nat × Nat)
  | _, [] => []
  | 0, _ => []
  | n, (v, k) :: l => if k ≤ n then (v, k) :: trimFlits (n - k) l else [(v, n)]

/-- The order in which the VCs are taken (R392). -/
def Port.order (x : Port) : List Nat := if 64 < urgentFlits x.recent then [0, 1, 2, 3] else [1, 2, 3, 0]

/-- The next frame to leave: the oldest of the first VC in order whose credits hold it (R392). -/
def Port.next (x : Port) : Option Frame :=
  x.order.findSome? (fun v => match x.queue.find? (fun f => decide (f.vc = v)) with
    | some f => if (frameLen f) ≤ x.avail v then some f else none
    | none => none)

/-- The frames a port lets pass in its state: all in UP with credits, VC3 in KEEPALIVE (R384, R388). -/
def State.portOpen (s : State) (p : Nat) (f : Frame) : Bool :=
  (decide (s.portState p = 2) && (s.port p).credited) || (decide (s.portState p = 3) && decide (f.vc = 3))

/-- Send queued frames while the port and its credits allow, at most `fuel` of them (R391 to R393). -/
def State.portDrain (s : State) (p : Nat) : Nat → State
  | 0 => s
  | fuel + 1 =>
    let x := s.port p
    match x.next with
    | none => s
    | some f =>
      if !s.portOpen p f then s
      else
        let g := { f with seq := x.nextSeq }
        let y := { x with queue := x.queue.erase f, replay := x.replay ++ [g], nextSeq := (x.nextSeq + 1) % 65536,
                          sent := x.sent.set f.vc ((x.sent.getD f.vc 0 + (frameLen f)) % 65536),
                          recent := trimFlits 512 ((f.vc, (frameLen f)) :: x.recent) }
        (((s.setPort p y).emit (.frame p g.vc g.kind (frameBytes g))).showCredit p).portDrain p fuel

/-- Queue a frame at a port and send what can leave. -/
def State.sendFrame (s : State) (p : Nat) (f : Frame) : State :=
  let s := s.onPort p (fun x => { x with queue := x.queue ++ [f] })
  s.portDrain p (s.port p).queue.length

/-- Send a frame to a member by its route; without a route it is lost, and false says so. -/
def State.sendTo (s : State) (m : Nat) (f : Frame) : State × Bool :=
  match s.routePort m with
  | some p => (s.sendFrame p { f with src := s.f F.GRP_CFG_SELF, dst := m }, true)
  | none => (s, false)

/-- A port leaves UP or TRAINING for DOWN or FENCED: queued and unacknowledged frames are discarded, and a LOAD part on their
way fails (R387). -/
def State.portDiscard (s : State) (p : Nat) : State :=
  let x := s.port p
  let lost := (x.queue ++ x.replay).filter (fun f => decide (f.vc = 0) && decide (f.kind = 3))
  let s := s.eachOf lost (fun f s => s.onLib (fun l => { l with load := { l.load with fails := setBitTo l.load.fails (f.arg % 18) true } }))
  (s.onPort p (fun x => { x with queue := [], replay := [], recent := [], credited := false, retraining := false })).showCredit p

/-- A port restarts the ladder of R384 at a step; its agreed rate is open again. -/
def State.portLadder (s : State) (p step : Nat) : State :=
  s.onPort p (fun x => { x with step := step, partnerMax := none, accepts := 0, badLanes := none })

/-- An UP port goes to TRAINING and restarts the ladder at step 2; its frames are kept (R385, R386). -/
def State.portRetrain (s : State) (p : Nat) : State :=
  ((s.setPortState p 1).onPort p (fun x => { x with retraining := true, credited := false })).portLadder p 2

/-- A fence of a port (R387). -/
def State.portFence (s : State) (p : Nat) : State :=
  let s := if s.portState p = 1 ∨ s.portState p = 2 then s.portDiscard p else s
  (s.setPortState p 4).portLadder p 0

/-! ### DUT lanes -/

def State.dlane (s : State) (j : Nat) : DutLane := SMap.get {} s.dlanes j
def State.onDlane (s : State) (j : Nat) (g : DutLane → DutLane) : State :=
  { s with dlanes := SMap.put {} s.dlanes j (g (s.dlane j)) }

/-- The lanes of a group stop: electrical idle and no comparison (R403). -/
def State.dlStop (s : State) (g : Nat) : State := s.each 8 (fun i s => s.onDlane (8 * g + i) (fun x => { x with stopped := true }))
/-- The configured modes return where no other cause holds (R403). -/
def State.dlResume (s : State) (g : Nat) : State :=
  if s.fenced (unitCode 0xB g) ∨ s.mode = .safe ∨ s.mode = .selftest ∨ s.domOn (46 + g) = false then s
  else s.each 8 (fun i s => s.onDlane (8 * g + i) (fun x => { x with stopped := false }))

end Sys2Proof.Machine
end

