-- ==== Sys2Proof/Machine/Pool.lean ====
section
/-! DEFINITION. The work scheduler's lists and flows, the clerk pool, the scratchpad banks, calibrations and the inventory as a
fence or a change of mode reaches them (17_clerks.md, 20_calibration.md, 22_debug_and_in_service_test.md). -/
namespace Sys2Proof.Machine

def State.onWks (s : State) (g : Works → Works) : State := { s with wks := g s.wks }
def State.readyList (s : State) (j : Nat) : List Nat := SMap.get [] s.wks.ready j
def State.setReady (s : State) (j : Nat) (l : List Nat) : State := s.onWks (fun w => { w with ready := SMap.put [] w.ready j l })
def State.item (s : State) (n : Nat) : Option WorkItem := s.wks.items.find? (fun x => decide (x.id = n))
def State.onItem (s : State) (n : Nat) (g : WorkItem → WorkItem) : State :=
  s.onWks (fun w => { w with items := w.items.map (fun x => if x.id = n then g x else x) })
/-- The item a clerk runs. -/
def State.runs (s : State) (i : Nat) : Option WorkItem := s.wks.items.find? (fun x => decide (x.place = 2 ∧ x.clerk = i))

/-- With dispatch stopped and no item running, the scheduler reads STOPPED (R481, Table 19-9). -/
def State.wksStopped (s : State) : State :=
  if s.f F.WKS_STATUS_STATE = 2 ∧ s.wks.items.all (fun x => decide (x.place ≠ 2)) then (s.setF F.WKS_STATUS_STATE 3).irq 0xD5 else s

/-- An item goes back to the head of its ready list, its position and claim unchanged (R479, R481). -/
def State.returnItem (s : State) (n : Nat) : State :=
  match s.item n with
  | some x => ((s.onItem n (fun x => { x with place := 1, ran := 0, since := s.wks.tick })).setReady x.list (n :: s.readyList x.list)).wksStopped
  | none => s

/-- A clerk is fenced: its item returns to the head of its ready list (R481); a debug halt is not in force meanwhile (R602). -/
def State.clerkFence (s : State) (i : Nat) : State :=
  let s := s.setFlag ⟨Reg.DBG_CLK_STATUS, i, 1⟩ false
  match s.runs i with
  | some x => s.returnItem x.id
  | none => s

/-- A scratchpad bank is fenced (R492, Table 17-8). -/
def State.bankFence (s : State) (k : Nat) : State :=
  let s := s.istDrop (fun x => decide (x.kind = 2 ∧ x.unit = k))
  let s := s.onWks (fun w => { w with target := SMap.put none w.target k none, march := w.march.bind (fun m => if m.bank = k then none else some m) })
  s.setF (F.SPD_BANK_STATE k) 4

/-! ### Calibrations -/

def State.cal (s : State) (b : Nat) : Cal := SMap.get {} s.cals b
def State.onCal (s : State) (b : Nat) (g : Cal → Cal) : State := { s with cals := SMap.put {} s.cals b (g (s.cal b)) }

/-- A calibration or command of a bay ends with a result (Table 20-8): CAL_CMD.GO reads 0 where it names the bay. -/
def State.calResult (s : State) (b r : Nat) : State :=
  let s := s.setF (F.CAL_BAY_STATUS_RESULT b) r
  if s.f F.CAL_CMD_BAY = b then s.setFlag F.CAL_CMD_GO false else s

/-- The calibration that runs on a bay ends: the bay is ACTIVE again; after a tracking one that gave no set, its temperature is
noted (R551, R556). -/
def State.calEnd (s : State) (b r : Nat) : State :=
  match (s.cal b).run with
  | none => s
  | some x =>
    let s := (s.onCal b (fun c => { c with run := none, failed := if x.full then c.failed else if r = 1 then none else some x.temp })).setF
      (F.CAL_BAY_STATUS_STATE b) 0
    (s.each 64 (fun i s => s.syncConn (64 * b + i))).calResult b r

/-- A running calibration of a bay ends ABORTED, its candidate discarded (R564). -/
def State.calAbort (s : State) (b : Nat) : State := s.calEnd b 0x0A

/-- A running calibration that names a shelf ends ABORTED (R564). -/
def State.calAbortShelf (s : State) (sh : Nat) : State :=
  match (s.cal (sh / 8)).run with
  | some x => if x.full && bitAt x.shelves (sh % 8) then s.calAbort (sh / 8) else s
  | none => s

/-- A channel takes the corrections of its bay's set in force (R560, R561). -/
def State.calStepCh (s : State) (ch : Nat) : State :=
  match (s.cal (ch / 64)).force with
  | none => s
  | some x =>
    let v := fun (w c : Bool) => (Config.calCorr x.body (ch % 64) w c).toNat
    ({ s with corrs := SMap.put {} s.corrs ch { drvF := v false false, cmpF := v false true, drvW := v true false, cmpW := v true true } } : State).showCorr ch

/-- A committed correction set of a bay steps on the channels of one context (R560, R561). -/
def State.calStep (s : State) (b c : Nat) : State :=
  match (s.cal b).force with
  | none => s
  | some x => s.eachOf ((s.channelsOf c).filter (fun ch => decide (ch / 64 = b) && bitAt x.shelves (ch / 8 % 8))) (fun ch s => s.calStepCh ch)

/-- Domain 49 OFF: every item, claim and held output is discarded (R481); a calibration whose fit is discarded ends FIT_FAILED
(R554; DEDUCED, notes/assumptions/46.md). -/
def State.poolLose (s : State) : State :=
  (s.onWks (fun w => { w with items := [], ready := [], delay := [], pos := [], lastDrain := [], ends := [], seen := [], digest := [],
                              stats := [], dlog := [], waitMax := [], busy := [], done := [] })).setF F.WKS_STATUS_STATE 0 |>.each 4 (fun b s => if s.f (F.CAL_BAY_STATUS_STATE b) = 4 then s.calEnd b 9 else s)

end Sys2Proof.Machine
end

