-- ==== Sys2Proof/Machine/Contain.lean ====
section
/-! DEFINITION. Containment of faults: fences, budgets, recovery windows, escalation and Safe entry, as one shared operation
(19_faults_and_interrupts.md R522 to R532, 02_modes_and_startup.md R50). -/
namespace Sys2Proof.Machine

/-! ### Fences -/

/-- CHN_FENCE.CAUSE of a fault cause (Tables 3-13 and 19-7). -/
def chnCause (cause : Nat) : Nat :=
  match cause with
  | 0x10 => 2 | 0x11 => 3 | 0x12 => 4 | 0x13 => 5 | 0x14 => 6 | 0x01 => 9 | _ => 4

/-- STK_STATE.CAUSE of a fault cause (R265). -/
def stkCause (cause : Nat) : Nat :=
  match cause with
  | 0x0A => 1 | 0x17 => 2 | 0x1D => 3 | 0x08 => 5 | _ => 6

/-- A fenced channel's pins: parked, or for OVERVOLT disconnected; its PMU stops with the driver (R89, R90, R314). -/
def State.fencePins (s : State) (ch : Nat) : State :=
  if s.f (F.CHN_FENCE_CAUSE ch) = 6 then
    ((s.setF (F.CHN_CTRL_PATH ch) 0).disconnect ch).pmuStop ch
  else (s.park ch).pmuStop ch

/-- Record a fence of a unit; for a channel, one of its own under that of its shelf or bay. -/
def State.setFence (s : State) (u : Nat) (x : Option Fence) : State :=
  { s with fcl := { s.fcl with fences := SMap.put none s.fcl.fences u x } }

/-- Fence a channel with a cause of Table 3-13: the first cause stays, a fence of its own under that of its shelf or bay being noted
(R100, R529); source 0x200 + n counts; the pins change from leaf L+2
of an owning active context, else at once, and for OVERVOLT always at once (R89 to R91, R100). -/
def State.fenceChannel (s : State) (ch cause : Nat) : State :=
  if s.chFenced ch then
    if s.f (F.CHN_FENCE_CAUSE ch) ∈ [7, 8] ∧ cause ∉ [7, 8] ∧ s.fence (unitCode 1 ch) = none then s.setFence (unitCode 1 ch) (some { cause := cause })
    else s
  else
    let s := ((s.setF (F.CHN_FENCE_CAUSE ch) cause).irq (0x200 + ch)).istAbandonCh ch
    if cause = 6 then (s.fencePins ch).fltRestart ch
    else match s.owner ch with
      | some c => if (s.ctxState c).active then s.addDue c 2 (.fence ch) else s.fencePins ch
      | none => s.fencePins ch

/-- A shelf fence fences its channels with cause SHELF (Table 19-3). -/
def State.fenceShelf (s : State) (sh : Nat) : State :=
  ((s.istDrop (fun x => decide (x.kind = 0 ∧ x.unit = 256 + sh))).each 8 (fun i s => s.fenceChannel (8 * sh + i) 7)).calAbortShelf sh

/-- A bay fence fences its channels with cause BAY and its shelves (Table 19-3). -/
def State.fenceBay (s : State) (b : Nat) : State :=
  let s := s.each 64 (fun i s => s.fenceChannel (64 * b + i) 8)
  let s := s.each 8 (fun i s =>
    let u := unitCode 2 (8 * b + i)
    if s.fenced u then s else s.setFence u (some { cause := 0, byBay := true }))
  s.calAbort b

/-- A cluster fence: its contexts go OFF with stop status FENCED (Table 19-3, R195). -/
def State.fenceCluster (s : State) (b : Nat) : State :=
  let s := ((s.istDrop (fun x => decide (x.kind = 1 ∧ x.unit = b))).setF (F.UCS_STATUS_STATE b) 3).setFlag (F.UCS_CMD_RELOAD b) false
  s.each 4 (fun i s => (s.offCtx (4 * b + i) true).onCtx (4 * b + i) (fun x => { x with trap := none, trapsHeld := [] }))

/-- What a fence does to its unit (Table 19-3). -/
def State.fenceEffect (s : State) (u cause : Nat) (byHost : Bool) : State :=
  let i := unitIndex u
  match unitKind u with
  | 2 => s.fenceShelf i
  | 3 => s.fenceBay i
  | 4 => s.fenceCluster i
  | 6 => (s.fltFence i).calAbort i
  | 7 => s.timFence i
  | 8 => s.acqFence i
  | 9 => s.stkFence i (if byHost then 4 else stkCause cause)
  | 0xA => s.portFence i
  | 0xB => s.dlStop i
  | 0xC => s.clerkFence i
  | 0xD => s.bankFence i
  | _ => s

/-- DEGRADED changes count on source 0x0C9 (Table 19-9). -/
def State.degradedIrq (s s0 : State) : State := if s.mode = s0.mode ∧ s.degraded ≠ s0.degraded then s.irq 0xC9 else s

/-- Fence a unit; one already fenced keeps its fence (R525, R529). Chip services are never fenced (Table 19-3). -/
def State.fenceUnit (s : State) (u cause : Nat) (byHost : Bool) : State :=
  if unitKind u = 1 then (s.fenceChannel (unitIndex u) (if byHost then 1 else chnCause cause)).degradedIrq s
  else if unitKind u = 0xE ∨ unitKind u = 0 then s
  else if s.fenced u then
    match s.fence u with
    | some f => if f.byBay then s.setFence u (some { f with byBay := false, cause := cause }) else s
    | none => s
  else
    let s1 := s.setFence u (some { cause := cause })
    (s1.fenceEffect u cause byHost).degradedIrq s

/-! ### Budgets -/

/-- The parent whose budget a unit counts under: a shelf, a bay, or the kind itself for a chip-level row (Table 19-4). -/
def parentOf (u : Nat) : Nat :=
  let i := unitIndex u
  match unitKind u with
  | 1 => unitCode 2 (i / 8)
  | 2 => unitCode 3 (i / 8)
  | 4 | 5 | 6 | 7 => unitCode 3 i
  | 8 => unitCode 3 (i / 2)
  | k => k

/-- Fenced units counted under a parent (R524). -/
def State.fenceCount (s : State) (parent : Nat) : Nat :=
  let n := fun (l : List Nat) (p : Nat → Bool) => (l.filter p).length
  if unitKind parent = 2 then
    n (List.range 8) (fun i => !decide (s.f (F.CHN_FENCE_CAUSE (8 * unitIndex parent + i)) ∈ [0, 7, 8]))
  else if unitKind parent = 3 then
    let b := unitIndex parent
    n (List.range 8) (fun i => match s.fence (unitCode 2 (8 * b + i)) with
      | some f => !f.byBay
      | none => false) +
    n [4, 5, 6, 7] (fun k => s.fenced (unitCode k b)) + n [0, 1] (fun i => s.fenced (unitCode 8 (2 * b + i)))
  else match parent with
    | 3 => n (List.range 4) (fun i => s.fenced (unitCode 3 i))
    | 9 => n (List.range 2) (fun i => s.fenced (unitCode 9 i) || s.stkRetraining i)
    | 0xA => n (List.range 4) (fun i => s.fenced (unitCode 0xA i) || s.portRetraining i)
    | 0xB => n (List.range 2) (fun i => s.fenced (unitCode 0xB i))
    | 0xC => n (List.range 16) (fun i => s.fenced (unitCode 0xC i))
    | 0xD => n (List.range 64) (fun i => s.fenced (unitCode 0xD i))
    | _ => 0

/-- The budget of a parent (Table 19-4). -/
def budgetOf (parent : Nat) : Nat :=
  if unitKind parent = 2 ∨ unitKind parent = 3 then 4
  else match parent with
    | 3 => 1 | 9 => 1 | 0xA => 2 | 0xC => 8 | 0xD => 16 | _ => 64

def State.overBudget (s : State) (parent : Nat) : Bool := decide (budgetOf parent < s.fenceCount parent)

/-- CONDITION of an entry (R537); an entry of an ended event never combines. -/
def State.condHolds (s : State) : Condition → Bool
  | .ended => false
  | .held => true
  | .budget p => s.overBudget p
  | .twoFault us => (List.range 252).any (fun k => let e := s.entry k
      e.uncleared && decide (e.unit ∈ us) && (match e.cond with
        | .held => true
        | .budget p => s.overBudget p
        | _ => false))

/-- The signalled state behind a unit's entry has ended (R537). -/
def State.endCond (s : State) (u cause : Nat) : State :=
  match s.findEntry u cause with
  | some k => let e := s.entry k
    if e.cond = .held then s.setEntry k { e with cond := .ended } else s
  | none => s

/-! ### Safe -/

/-- A requested transition in progress is abandoned, PREEMPTED (R47). -/
def State.preempt (s : State) : State :=
  if s.flag F.SYS_MODE_BUSY then
    let s := (s.setFlag F.SYS_MODE_BUSY false).modeResult s.sys.reqSeq 4
    { s with sys := { s.sys with target := none } }
  else s

/-- Safe entry (R47, R50, R86, R289, R314, R346, R370, R403, R564): a requested transition is preempted, active contexts
become STOPPED with status SAFE and their channels take the Safe pin state from leaf L+2, other channels at once, and every
measuring unit stops. `pins`: the channels park; else their PATH is NONE. -/
def State.safeEntry (s : State) (pins : Bool) : State :=
  if s.mode = .cold then s
  else if s.mode = .safe then s.preempt
  else
    let s0 := s
    let s := s.preempt
    let s := s.each 16 (fun c s => if (s.ctxState c).playing ∨ s.ctxState c = .paused then s.invalidate c 4 else s)
    let s : State := { s with sys := { s.sys with target := none, testNow := none, testsLeft := [] } }
    let s := (s.setF F.SYS_MODE_MODE Mode.safe.code).modeIrq s0
    let s := s.each 16 (fun c s => if (s.ctxState c).active then s.stopCtx c 0x26 2 else s)
    let s := s.each 256 (fun ch s =>
      let late := match s0.owner ch with
        | some c => (s0.ctxState c).active
        | none => false
      let s := if pins then s else
        let was := s.f (F.CHN_CTRL_PATH ch)
        let s := s.setF (F.CHN_CTRL_PATH ch) 0
        if was = 0 then s else s.fltRestart ch
      let s := if late then s else if pins then s.park ch else s.disconnect ch
      s.pmuStop ch)
    let s := s.each 8 (fun e s => s.acqStop e 4)
    let s := s.each 4 (fun t s => (s.timStopped t 3).calAbort t)
    ((s.dlStop 0).dlStop 1).istAbandon

/-- Safe entry with the pin state of SYS_SAFE_CFG.PINS (R50). -/
def State.enterSafe (s : State) : State := s.safeEntry (s.flag F.SYS_SAFE_CFG_PINS)

/-! ### Raising a fault -/

/-- The collector that contains a unit (Table 19-3). -/
def collectorOf (u : Nat) : Nat :=
  let i := unitIndex u
  match unitKind u with
  | 1 => unitCode 2 (i / 8)
  | 2 => unitCode 3 (i / 8)
  | 4 | 5 | 6 | 7 => unitCode 3 i
  | 8 => unitCode 3 (i / 2)
  | _ => 0xE009

/-- The unit is a recovering unit of an open window (R527, R528). -/
def State.recovering (s : State) (u : Nat) : Bool := s.fcl.windows.any (fun w => decide (w.unit = u ∨ w.collector = u))
/-- The units whose faults a TWO_FAULT escalation combines. -/
def State.combined (s : State) (u : Nat) : List Nat :=
  u :: (s.fcl.windows.filter (fun w => decide (w.unit = u ∨ w.collector = u))).map (fun w => w.unit)

/-- Open a unit's recovery window anew (R527). -/
def State.openWindow (s : State) (u : Nat) : State :=
  { s with fcl := { s.fcl with windows := { unit := u, collector := collectorOf u } :: s.fcl.windows.filter (fun w => decide (w.unit ≠ u)) } }

/-- A Chip-fatal fault enters Safe (R531). -/
def State.chipFatal (s : State) (u cause detail : Nat) (cond : Condition) (esc : Bool) : State :=
  (s.enter u cause 3 detail cond esc).enterSafe

/-- A chip-level row that a fault's fence takes beyond its budget enters Safe, Chip-fatal, cause BUDGET (R524, R525, R531). -/
def State.chipBudget (s : State) (u : Nat) : State :=
  let k := unitKind u
  if decide (k ∈ [3, 9, 0xA, 0xC, 0xD]) && s.overBudget k then s.chipFatal u 0x06 0 (.budget k) false else s

/-- Escalation by one level (R529). -/
def State.escalate (s : State) (u cause : Nat) (cond : Condition) : State :=
  match unitKind u with
  | 1 | 2 | 4 | 5 | 6 | 7 | 8 =>
    let p := parentOf u
    let s := (s.enter p cause 2 0 cond true).fenceUnit p cause false
    s.chipBudget p
  | 0xE => s.chipFatal u cause 0 cond true
  | _ => s.enter u cause 2 0 cond true

/-- A Unit-fatal fault, or (`fatal` false) a Correctable fault that starts an automatic recovery (R522, R525, R527 to R529). -/
def State.raiseUnit (s : State) (u cause cls detail : Nat) (cond : Condition) (fatal : Bool) : State :=
  let second := s.recovering u
  let us := s.combined u
  let s := s.enter u cause cls detail cond false
  if unitKind u = 0xE then (if second then s.escalate u 0x07 (.twoFault us) else s.openWindow u)
  else
    let was := s.fenced u
    let s := if fatal || second then s.fenceUnit u cause false else s
    let s := s.openWindow u
    let p := parentOf u
    let beyond := decide (2 ≤ unitKind p) && !was && s.overBudget p
    let s := if second then s.escalate u 0x07 (.twoFault us)
      else if beyond then s.escalate u 0x06 (.budget p) else s
    if was then s else s.chipBudget u

/-- A fault of a unit (R522): a Note and a Correctable fault are recorded, a Unit-fatal fault is contained, a Chip-fatal fault
enters Safe; a Unit-fatal fault of a chip service is raised as Chip-fatal (Table 19-3). -/
def State.raise (s : State) (r : FaultReport) : State :=
  let cond : Condition := if r.held then .held else .ended
  let cls := if unitKind r.unit = 0xE ∧ r.cls = 2 then 3 else r.cls
  match cls with
  | 0 => s.enter r.unit r.cause 0 r.detail cond false
  | 1 => s.enter r.unit r.cause 1 r.detail cond false
  | 2 => s.raiseUnit r.unit r.cause 2 r.detail cond true
  | _ => s.chipFatal r.unit r.cause r.detail cond false

/-- A Correctable fault whose unit starts an automatic recovery (R527). -/
def State.raiseRecovery (s : State) (u cause detail : Nat) : State := s.raiseUnit u cause 1 detail .ended false

end Sys2Proof.Machine
end

