-- ==== Sys2Proof/Machine/Lanes.lean ====
section
/-! DEFINITION. The fabric ports' rows, bring-up and commands, and the DUT lanes (14_weafy_lanes.md). -/
namespace Sys2Proof.Machine

/-! ### Reservable bandwidth -/

/-- 75 % of the host link's raw data rate (R223). -/
def State.hostBandwidth (s : State) : Nat :=
  (match s.f F.HST_LINK_RATE with | 1 => 25 | 2 => 50 | 3 => 80 | 4 => 160 | 5 => 320 | _ => 0) * s.f F.HST_LINK_WIDTH * 75 / 80
/-- 75 % of eight lanes at a fabric port's lane rate (R223, Table 14-2). -/
def State.fabricBandwidth (s : State) (p : Nat) : Nat :=
  match s.f (F.LNK_PORT_STATUS_RATE p) with | 1 => 60 | 2 => 120 | 3 => 192 | 4 => 240 | _ => 0

/-- A link came back slower than the reservations that armed contexts hold on it: RSV_OVER and a Note (R223; its unit and cause are
DEDUCED, notes/assumptions/35.md). -/
def State.rsvOver (s : State) (held limit unit : Nat) : State :=
  if limit < held then (s.setFlag F.LIB_STATUS_RSV_OVER true).note unit 0x0B else s
def State.armedCtxs (s : State) : List Nat := (List.range 16).filter (fun c => (s.ctxState c).active)

/-! ### Lanes of a port -/

/-- A port with EN = 1 and its domain ON climbs (R384). -/
def State.portEnabled (s : State) (p : Nat) : Bool := s.flag (F.LNK_PORT_CTRL_EN p) && s.domOn (42 + p)

/-- The automatic retrain of an UP port with its Correctable fault (R385). -/
def State.portRetrainAuto (s : State) (p : Nat) : State :=
  if s.portState p = 2 then (s.portRetrain p).raiseRecovery (unitCode 0xA p) 0x0B 0 else s

/-- LANE_LOCK (R380). -/
def execLaneLock (p l : Nat) (s : State) : Host.Outcome State Fault Refusal :=
  .next (
    if s.portEnabled p then
      (s.setFlag (F.LNK_LANE_STATUS_LOCK p l) true).setFlag ⟨Reg.LNK_PORT_STATUS p, 8 + l, 1⟩ true
    else s)

/-- LANE_LOCK_LOST (R380, R385). -/
def execLaneLockLost (p l : Nat) (s : State) : Host.Outcome State Fault Refusal :=
  .next (
    if s.flag (F.LNK_LANE_STATUS_LOCK p l) then
      (((s.setFlag (F.LNK_LANE_STATUS_LOCK p l) false).setFlag (F.LNK_LANE_STATUS_LOST p l) true).setFlag
        ⟨Reg.LNK_PORT_STATUS p, 8 + l, 1⟩ false).portRetrainAuto p
    else s)

/-- ALIGN (R381): the deskew of each lane; a skew of more than 16 blocks is a failure of its lane at the current rate. -/
def execRowAlign (p : Nat) (skews : List Nat) (s : State) : Host.Outcome State Fault Refusal :=
  .next (
    if decide (s.portState p = 1 ∨ s.portState p = 2) then
      let s := s.each 8 (fun l s => s.setF (F.LNK_LANE_STATUS_SKEW p l) (Nat.min (skews.getD l 0) 15))
      let bad := (List.range 8).foldl (fun m l => if 16 < skews.getD l 0 then m + 2 ^ l else m) 0
      if bad ≠ 0 ∧ s.portState p = 1 then s.onPort p (fun x => { x with badLanes := some bad }) else s
    else s)

/-- FILLER (R383). -/
def execRowFiller (p : Nat) (deleted inserted : Bool) (s : State) : Host.Outcome State Fault Refusal :=
  .next (
    if s.portState p = 2 then
      let s := if deleted then s.satInc (F.LNK_PORT_FILL_DEL p) else s
      if inserted then s.satInc (F.LNK_PORT_FILL_INS p) else s
    else s)

/-- IDLE (R383). -/
def execRowIdle (p : Nat) (deleted : Bool) (s : State) : Host.Outcome State Fault Refusal :=
  .next (if s.portState p = 2 ∧ deleted then s.satInc (F.LNK_PORT_FILL_DEL p) else s)

/-- Row errors are counted and a NAK is requested (R382, R391). -/
def execRowError (p : Nat) (s : State) : Host.Outcome State Fault Refusal :=
  .next (
    if s.portState p = 2 then
      ((s.satInc (F.LNK_PORT_ROWERR p)).onPort p (fun x => { x with nak := true })).emit (.row p 0x55 (2 ^ 16 + ((s.port p).expect + 65535) % 65536))
    else s)

/-! ### Bring-up -/

/-- LNK_PORT_CFG.MAXRATE: codes above 0x4 act as 0x4 (Table 14-2). -/
def State.maxRate (s : State) (p : Nat) : Nat := Nat.min 4 (s.f (F.LNK_PORT_CFG_MAXRATE p))

/-- NEG (R384, Table 14-3): a proposal is answered with ACCEPT naming the lower rate less the codes already failed; after 16
ACCEPT rows both ends train at the agreed rate. -/
def execRowNeg (p version st maxRate _rate peerPort identity : Nat) (s : State) : Host.Outcome State Fault Refusal :=
  .next (
    let x := s.port p
    if !s.portEnabled p || !decide (x.step = 1 ∨ x.step = 2) then s
    else if version ≠ 1 then
      ((s.setF (F.LNK_PORT_STATUS_RESULT p) 6).setPortState p 0).onPort p (fun x => { x with step := 1 })
    else
      let s := ((s.wr (Reg.LNK_PORT_PEER_LO p) (BitVec.ofNat 32 identity)).wr (Reg.LNK_PORT_PEER_HI p)
        (BitVec.ofNat 32 (identity / 2 ^ 32))).setF (F.LNK_PORT_PEER_PORT_PORT p) peerPort
      let s := (s.setPortState p 1).onPort p (fun x => { x with step := 2 })
      if st = 0 then
        let agreed := Nat.max 1 (Nat.min (s.maxRate p) (Nat.min 4 maxRate) - x.lowered)
        (s.onPort p (fun x => { x with partnerMax := some maxRate, rate := agreed })).emit (.row p 0x4B agreed)
      else
        let n := x.accepts + 1
        if n < 16 ∨ x.partnerMax = none then s.onPort p (fun x => { x with accepts := n })
        else (s.onPort p (fun x => { x with accepts := 0, step := 3 })).setF (F.LNK_PORT_STATUS_RATE p) x.rate)

/-- NO_PARTNER (R384). -/
def execNoPartner (p : Nat) (s : State) : Host.Outcome State Fault Refusal :=
  .next (
    let x := s.port p
    if s.portEnabled p && decide (x.step = 1 ∨ x.step = 2) && x.partnerMax.isNone then
      let s := if s.portState p = 1 then s.portDiscard p else s
      ((s.setF (F.LNK_PORT_STATUS_RESULT p) 3).setPortState p 0).portLadder p 1
    else s)

/-- BRINGUP_RETRY (R384): a DOWN port sends NEG rows again. -/
def execBringupRetry (p : Nat) (s : State) : Host.Outcome State Fault Refusal :=
  .next (
    if s.portEnabled p && decide (s.portState p = 0) then
      ((s.portLadder p 1).onPort p (fun x => { x with lowered := 0 })).emit (.row p 0x4B (s.maxRate p))
    else s)

/-- The port enters UP: it advertises its initial credits and asks for the round trip (R384, R393). -/
def State.portUp (s : State) (p : Nat) : State :=
  let adv := (List.range 4).map (fun v => Nat.min (s.f (F.LNK_VC_CREDIT_ADV p v)) ([2048, 256, 64, 64].getD v 0))
  let s := s.onPort p (fun x => { x with step := 5, retraining := false, credited := false, sent := [0, 0, 0, 0],
                                         freed := adv, freedFar := [0, 0, 0, 0], lowered := 0, badLanes := none, failures := 0 })
  let s := ((s.setF (F.LNK_PORT_STATUS_RESULT p) 1).setPortState p 2).showCredit p
  let held := (s.armedCtxs.filter (fun c => decide (p ∈ (s.ctx c).fabPorts))).foldl (fun n c => n + s.f (F.LIB_CTX_RSV_FABRIC c)) 0
  let s := s.rsvOver held (s.fabricBandwidth p) (unitCode 0xA p)
  (s.emit (.row p 0x55 0)).emit (.row p 0x66 0)

/-- PORT_TRAIN_DONE (R384). -/
def execPortTrainDone (p badLanes : Nat) (s : State) : Host.Outcome State Fault Refusal :=
  .next (
    let x := s.port p
    let bad := badLanes ||| (x.badLanes.getD 0)
    if !s.portEnabled p || decide (x.step ≠ 3) then s
    else if bad = 0 then s.portUp p
    else
      let only := decide (popCount bad 8 = 1) && (decide (x.lowered = 0) || decide (x.badLanes = some bad))
      if x.rate ≤ 1 then
        let s := (s.portDiscard p).setF (F.LNK_PORT_STATUS_RESULT p) (if only then 5 else 4)
        ((s.setPortState p 0).portLadder p 1).onPort p (fun x => { x with lowered := 0 })
      else s.onPort p (fun x => { x with step := 2, partnerMax := none, accepts := 0, lowered := x.lowered + 1, badLanes := some bad }))

/-- Acknowledged frames leave the replay buffer: all up to the acknowledged SEQ (R391). -/
def ackFrames (ack : Nat) (l : List Frame) : List Frame :=
  if l.any (fun f => decide (f.seq = ack)) then (l.dropWhile (fun f => decide (f.seq ≠ ack))).drop 1 else l

/-- Send the replay buffer again in its order (R385, R391). -/
def State.portReplay (s : State) (p : Nat) : State :=
  s.eachOf (s.port p).replay (fun f s => (s.onPort p (fun x => { x with
    sent := x.sent.set f.vc ((x.sent.getD f.vc 0 + frameLen f) % 65536) })).emit (.frame p f.vc f.kind (frameBytes f)))

/-- CREDIT (R391, R393): freed credits and the acknowledgement; the first row after UP starts the flow of frames, and a NAK
replays from the frame after the acknowledged SEQ. -/
def execRowCredit (p : Nat) (freed : List Nat) (ack : Nat) (nak : Bool) (s : State) : Host.Outcome State Fault Refusal :=
  .next (
    if s.portState p ≠ 2 ∧ s.portState p ≠ 3 then s
    else
      let first := !(s.port p).credited
      let s := s.onPort p (fun x => { x with freedFar := freed, credited := true, replay := ackFrames ack x.replay })
      let s := if first then s.portReplay p
        else if nak then (s.portReplay p).satInc (F.LNK_PORT_REPLAY p) else s
      (s.showCredit p).portDrain p (s.port p).queue.length)

/-- ECHO (R384): a request is answered, and a reply sets LNK_PORT_LAT. -/
def execRowEcho (p : Nat) (reply : Bool) (time roundTrip : Nat) (s : State) : Host.Outcome State Fault Refusal :=
  .next (
    if s.portState p ≠ 2 then s
    else if reply then s.setF (F.LNK_PORT_LAT_LAT p) (Nat.min 0xFFFF roundTrip)
    else s.emit (.row p 0x66 (2 ^ 64 + time)))

/-! ### Port commands -/

/-- An armed group uses the port: a member's route or a tree port names it (Table 2-17). -/
def State.portUsed (s : State) (p : Nat) : Bool :=
  !decide (s.f F.GRP_STATUS_STATE ∈ [0, 6]) &&
    (decide (s.f (F.GRP_PORT_ROLE p) ≠ 0) || (List.range 16).any (fun m => s.memberOk m && decide (s.routePort m = some p)))

/-- Table 2-17 for a port, and for a fence the chip budget (R386, R525). -/
def State.portServiceOk (s : State) (p : Nat) : Bool :=
  !decide (s.mode ∈ [.cold, .boot, .standby]) && !s.portUsed p

/-- LNK_PORT_CTRL takes a write: EN, CLEAR, FENCE, RETRAIN (Table 14-8, R386, R387). -/
def State.portCtrl (s : State) (p : Nat) (w : BusWrite) : State :=
  let was := s.flag (F.LNK_PORT_CTRL_EN p)
  s.onWrite (Reg.LNK_PORT_CTRL p) w (fun s =>
    let en := s.flag (F.LNK_PORT_CTRL_EN p)
    let s := if was && !en && decide (s.portState p ≠ 4) then ((s.portDiscard p).setPortState p 0).portLadder p 0
      else if !was && en && decide (s.portState p = 0) then s.portLadder p 1 else s
    let s := if w.data.getLsbD 2 && decide (s.portState p = 4) then
        let s1 := ((s.setFence (unitCode 0xA p) none).setPortState p 0).portLadder p (if en then 1 else 0)
        s1.degradedIrq s
      else s
    let s := if w.data.getLsbD 1 && decide (s.portState p ≠ 4) then
        if s.portServiceOk p && decide (s.fenceCount 0xA + b2n (!s.portRetraining p) ≤ budgetOf 0xA) then s.fenceUnit (unitCode 0xA p) 0x0C true
        else s.setF (F.LNK_PORT_STATUS_RESULT p) 2
      else s
    if w.data.getLsbD 0 && decide (s.portState p = 2) then
      if s.portServiceOk p && decide (s.fenceCount 0xA + 1 ≤ budgetOf 0xA) then s.portRetrain p else s.setF (F.LNK_PORT_STATUS_RESULT p) 2
    else s)

/-- LNK_PORT_RETRAIN (R386). -/
def execLnkPortRetrain (p : Nat) (w : BusWrite) (s : State) : Host.Outcome State Fault Refusal := .next (s.portCtrl p w)
/-- LNK_PORT_FENCE (R386). -/
def execLnkPortFence (p : Nat) (w : BusWrite) (s : State) : Host.Outcome State Fault Refusal := .next (s.portCtrl p w)
/-- LNK_PORT_CLEAR (R387). -/
def execLnkPortClear (p : Nat) (w : BusWrite) (s : State) : Host.Outcome State Fault Refusal := .next (s.portCtrl p w)

/-- LNK_PORT_COUNT_WRITE (R395). -/
def execLnkPortCountWrite (p k : Nat) (w : BusWrite) (s : State) : Host.Outcome State Fault Refusal :=
  .next (if k < 6 then s.onPlain (Reg.LNK_PORT_CRC p + 4 * k) w (fun s => s.wr (Reg.LNK_PORT_CRC p + 4 * k) 0) else s)

/-! ### DUT lanes -/

/-- LNK_DL_SEARCH (R402). -/
def execLnkDlSearch (j : Nat) (w : BusWrite) (s : State) : Host.Outcome State Fault Refusal :=
  .next (s.onWrite (Reg.LNK_DL_SEARCH j) w (fun s =>
    if w.data.getLsbD 31 && !s.flag (F.LNK_DL_SEARCH_GO j) then
      if decide (s.f (F.LNK_DL_CFG_RX_MODE j) ∈ [1, 6]) && s.flag (F.LNK_DL_STATUS_CDR_LOCK j) then
        (s.onDlane j (fun x => { x with slipBefore := s.f (F.LNK_DL_SLIP_SLIP j) })).setFlag (F.LNK_DL_SEARCH_GO j) true
      else s.setF (F.LNK_DL_SEARCH_RESULT j) 4
    else s))

/-- SEARCH_DONE (R402). -/
def execSearchDone (j : Nat) (found : Option Nat) (noData : Bool) (s : State) : Host.Outcome State Fault Refusal :=
  .next (
    if !s.flag (F.LNK_DL_SEARCH_GO j) then s
    else
      let s := s.setFlag (F.LNK_DL_SEARCH_GO j) false
      let back := (s.dlane j).slipBefore
      match found with
      | some k =>
        if k ≤ s.f (F.LNK_DL_SEARCH_MAX j) ∧ noData = false then (s.setF (F.LNK_DL_SLIP_SLIP j) k).setF (F.LNK_DL_SEARCH_RESULT j) 1
        else (s.setF (F.LNK_DL_SLIP_SLIP j) back).setF (F.LNK_DL_SEARCH_RESULT j) (if noData then 3 else 2)
      | none => (s.setF (F.LNK_DL_SLIP_SLIP j) back).setF (F.LNK_DL_SEARCH_RESULT j) (if noData then 3 else 2))

/-- LNK_DL_ERR_WRITE (R404): both counters clear. -/
def execLnkDlErrWrite (j : Nat) (w : BusWrite) (s : State) : Host.Outcome State Fault Refusal :=
  .next (s.onPlain (Reg.LNK_DL_ERR j) w (fun s => (s.onDlane j (fun x => { x with bits := 0, errs := 0 })).wr (Reg.LNK_DL_ERR j) 0))

/-- LNK_DL_BITS_READ (R404): the counts of one cycle are latched. -/
def execLnkDlBitsRead (j bits errs : Nat) (s : State) : Host.Outcome State Fault Refusal :=
  .next (
    let x := s.dlane j
    let n := x.bits + bits
    let e := if s.flag (F.LNK_DL_SEARCH_GO j) || x.stopped then x.errs else satAdd 0xFFFFFFFF x.errs errs
    let wrap := x.wrap || decide (2 ^ 48 ≤ n)
    let n := n % 2 ^ 48
    let s := s.onDlane j (fun x => { x with bits := n, errs := e, wrap := false })
    let s := (s.setF (F.LNK_DL_BITS_HI_HI j) (n / 2 ^ 32)).setFlag (F.LNK_DL_BITS_HI_WRAP j) wrap
    let s := (s.wr (Reg.LNK_DL_BITS_LO j) (BitVec.ofNat 32 n)).wr (Reg.LNK_DL_ERR j) (BitVec.ofNat 32 e)
    s.emit (.answer (Reg.LNK_DL_BITS_LO j) (n % 2 ^ 32)))

/-- CDR_LOCK (R400). -/
def execCdrLock (j : Nat) (s : State) : Host.Outcome State Fault Refusal :=
  .next (if s.domOn (46 + j / 8) then s.setFlag (F.LNK_DL_STATUS_CDR_LOCK j) true else s)

/-- CDR_LOCK_LOST (R400): a FOLIO receiver without lock shows UNLOCK. -/
def execCdrLockLost (j : Nat) (s : State) : Host.Outcome State Fault Refusal :=
  .next (
    let s := s.setFlag (F.LNK_DL_STATUS_CDR_LOCK j) false
    if s.f (F.LNK_DL_CFG_RX_MODE j) = 6 then s.setFlag (F.LNK_DL_STATUS_UNLOCK j) true else s)

/-- PRBS_LOCK (R396). -/
def execPrbsLock (j : Nat) (lock : Bool) (s : State) : Host.Outcome State Fault Refusal :=
  .next (
    if decide (s.f (F.LNK_DL_CFG_RX_MODE j) ∈ [2, 3, 4, 5]) && s.domOn (46 + j / 8) then s.setFlag (F.LNK_DL_STATUS_PRBS_LOCK j) lock
    else s)

end Sys2Proof.Machine
end

