-- ==== Sys2Proof/Machine/Folio.lean ====
section
/-! DEFINITION. Folios and the leaf code: the header checks of Table 5-10 and the decoding of leaf records
(05_folios_and_leaf_code.md R129 to R148). -/
namespace Sys2Proof.Machine

/-! ### The header -/

/-- MAGIC, VERSION, HCRC and the reserved fields of a folio header (Table 5-1). -/
def headerShapeOk (h : List Byte) : Bool :=
  decide (h.length = 64) && decide (leAt h 0 4 = 0x4F464B56) && decide (leAt h 4 2 = 1) && decide (leAt h 6 2 = 0) &&
  decide (leAt h 0x22 2 = 0) && decide (crc32c (h.take 0x3C) = leAt h 0x3C 4)

/-- The first two rows of Table 5-10, for a folio of `len` bytes by its catalogue entry. -/
def folioHeaderOk (h : List Byte) (len : Nat) : Bool :=
  let lanes := decide (leAt h 0x1C 2 ≠ 0 ∨ leAt h 0x1E 2 ≠ 0)
  let lb := leAt h 0x20 2
  headerShapeOk h && decide (leAt h 0x0C 4 ≠ 0) && decide (leAt h 0x10 8 % 4 = 0) && decide (64 + leAt h 0x10 8 = len) &&
  (if lanes then decide (lb % 8 = 0 ∧ 8 ≤ lb ∧ lb ≤ 4096) else decide (lb = 0))

/-- The lane rate LANE_BITS / (32 × P) lies within 1.0 Gb/s to 32 Gb/s (R143); P in 1/65,536 FU of 312.5 ps / 4,096. -/
def laneRateOk (laneBits p : Nat) : Bool := decide (10 * p ≤ laneBits * 2 ^ 28) && decide (laneBits * 2 ^ 28 ≤ 320 * p)

/-- The lane is assigned to the context in folio-track mode, and its site, if valid, belongs to it (Table 5-10, R401). -/
def State.laneAssigned (s : State) (c j : Nat) (rx : Bool) : Bool :=
  decide (s.f (F.LNK_DL_CFG_CTX j) = c) &&
  decide (s.f (if rx then F.LNK_DL_CFG_RX_MODE j else F.LNK_DL_CFG_TX_MODE j) = 6) &&
  (!s.flag (F.LNK_DL_CFG_SITE_VALID j) || decide (s.f (F.LNK_DL_CFG_SITE j) ∈ s.sitesOf c))

/-- The numbers of a timing-set mask all select one period, within the lane rates; an override's set must agree (R143, R144). -/
def State.lanePeriodOk (s : State) (c mask laneBits : Nat) (override : Option Nat) : Bool :=
  match bitList mask 64 with
  | [] => true
  | k :: ks => ks.all (fun i => decide (s.period c i = s.period c k)) && laneRateOk laneBits (s.period c k) &&
    (match override with
     | some o => s.periodValid c o && decide (s.period c o = s.period c k)
     | none => true)

/-- The lane row of Table 5-10. -/
def State.lanesOk (s : State) (c tx rx mask laneBits : Nat) : Bool :=
  (decide (tx = 0) && decide (rx = 0)) ||
  ((bitList tx 16).all (fun j => s.laneAssigned c j false) && (bitList rx 16).all (fun j => s.laneAssigned c j true) &&
    s.lanePeriodOk c mask laneBits none)

/-- The checks of Table 5-10 in order: the status of the first that fails (R147). -/
def State.headerFail (s : State) (c cn len : Nat) (h : List Byte) : Option Nat :=
  let mask := leAt h 0x34 8
  if !folioHeaderOk h len then some 0x11
  else if leAt h 8 4 ≠ cn then some 0x12
  else if (s.channelsOf c).any (fun ch => !bitAt (leAt h 0x18 4) (shelfOfCh ch)) then some 0x13
  else if (List.range 4).any (fun b => decide (leAt h (0x24 + 4 * b) 4 ≠ 0) && decide (leAt h (0x24 + 4 * b) 4 ≠ s.f (F.LIB_CONC_ID b)))
    then some 0x14
  else if (bitList mask 64).any (fun k => !s.periodValid c k || (s.channelsOf c).any (fun ch => !s.flag (F.EDG_TS_CTRL_VALID ch k)))
    then some 0x0B
  else if !s.lanesOk c (leAt h 0x1C 2) (leAt h 0x1E 2) mask (leAt h 0x20 2) then some 0x15
  else none

/-- A folio opened from its header and catalogue snapshot. -/
def openOf (id cn : Nat) (entry h : List Byte) : OpenFolio :=
  { id := id, cn := cn, entry := entry, leaves := leAt h 0x0C 4, bodyBytes := leAt h 0x10 8, shelfMask := leAt h 0x18 4,
    txMask := leAt h 0x1C 2, rxMask := leAt h 0x1E 2, laneBits := leAt h 0x20 2,
    concIds := (List.range 4).map (fun b => leAt h (0x24 + 4 * b) 4), tsetMask := leAt h 0x34 8 }

/-! ### Leaf records -/

/-- INVERT of a channel's leaf: bit D inverted in every symbol whose bit E is 1 (R136). -/
def invertLeaf (x : Nat) : Nat :=
  (BitVec.ofNat 128 x ^^^ ((BitVec.ofNat 128 x &&& 0x88888888888888888888888888888888#128) >>> 1)).toNat

/-- Invert track bits. -/
def invertBits (bs : List Byte) : List Byte := bs.map (fun b => ~~~b)

/-- The entries of a bay's concordance (R139). -/
def State.concEntries (s : State) (b : Nat) : Nat := leAt (SMap.get [] s.lib.concs b) 0x0C 2
def State.concEntry (s : State) (b x : Nat) : Nat := leAt (SMap.get [] s.lib.concs b) (0x40 + 16 * x) 16

/-- A record being decoded: its bytes, the offset reached, and what has been decoded. -/
structure Decoding where
  off : Nat := 4
  leaf : Leaf := {}
  deriving DecidableEq, Repr

/-- The timing-set track (R133). -/
def decodeTsets (rec : List Byte) (first : Bool) (prev : Leaf) (d : Decoding) : Option Decoding :=
  let hw := leAt rec 0 4
  let k := bitsAt hw 0 6
  match bitsAt hw 14 2 with
  | 0 => if first || decide (k ≠ 0) then none else some { d with leaf := { d.leaf with tsets := List.replicate 32 (prev.tsets.getD 31 0) } }
  | 1 => some { d with leaf := { d.leaf with tsets := List.replicate 32 k } }
  | 2 => if k ≠ 0 then none else
      some { off := d.off + 24, leaf := { d.leaf with tsets := (List.range 32).map (fun i => bitsAt (leAt rec d.off 24) (6 * i) 6) } }
  | _ => none

/-- The capture and marker tracks (R134). -/
def decodeSide (rec : List Byte) (d : Decoding) : Decoding :=
  let hw := leAt rec 0 4
  let d := if bitAt hw 13 then { off := d.off + 4, leaf := { d.leaf with cap := leAt rec d.off 4 } } else d
  if bitAt hw 12 then { off := d.off + 4, leaf := { d.leaf with mrk := leAt rec d.off 4 } } else d

/-- One shelf block (R135 to R137). -/
def State.decodeShelf (s : State) (f : OpenFolio) (rec : List Byte) (first : Bool) (g : Nat) (d : Decoding) : Option Decoding :=
  let hdr := leAt rec d.off 2
  let code := fun p => bitsAt hdr (2 * p) 2
  let cs := (List.range 8).filter (fun p => decide (code p = 1))
  let ls := (List.range 8).filter (fun p => decide (code p = 3))
  let nb := ceilDiv (12 * cs.length) 8
  let ixs := leAt rec (d.off + 2) nb
  let b := g / 8
  let bad := (first && (List.range 8).any (fun p => decide (code p = 0 ∨ code p = 2))) ||
    (decide (cs ≠ []) && decide (f.concIds.getD b 0 = 0)) ||
    (List.range cs.length).any (fun i => decide (s.concEntries b ≤ bitsAt ixs (12 * i) 12)) ||
    decide (ixs / 2 ^ (12 * cs.length) ≠ 0)
  if bad then none
  else
    let value := fun p =>
      match code p with
      | 0 => SMap.get 0 f.prev.syms (8 * g + p)
      | 1 => s.concEntry b (bitsAt ixs (12 * cs.findIdx (fun q => decide (q = p))) 12)
      | 2 => invertLeaf (SMap.get 0 f.prev.syms (8 * g + p))
      | _ => leAt rec (d.off + 2 + nb + 16 * ls.findIdx (fun q => decide (q = p))) 16
    some { off := d.off + 2 + nb + 16 * ls.length,
           leaf := { d.leaf with syms := (List.range 8).foldl (fun m p => SMap.put 0 m (8 * g + p) (value p)) d.leaf.syms } }

/-- One lane of one direction (R142); none if its code is forbidden (R137, R148). -/
def decodeLane (rec : List Byte) (first : Bool) (code mask bytes off j : Nat) (prev : SMap (Option (List Byte))) :
    Option (Option (List Byte) × Nat) :=
  let k := bitsAt code (2 * j) 2
  let p := SMap.get none prev j
  if !bitAt mask j then (if k = 0 then some (none, off) else none)
  else match k with
    | 0 => some (none, off)
    | 2 => some (some ((rec.drop off).take bytes), off + bytes)
    | 1 => if first then none else p.map (fun bs => (some bs, off))
    | _ => if first then none else p.map (fun bs => (some (invertBits bs), off))

/-- The lanes of one direction in ascending order. -/
def decodeLanes (rec : List Byte) (first : Bool) (code mask bytes : Nat) (prev : SMap (Option (List Byte))) (off : Nat) :
    Option (SMap (Option (List Byte)) × Nat) :=
  (List.range 16).foldl (fun (acc : Option (SMap (Option (List Byte)) × Nat)) j => acc.bind (fun a =>
    (decodeLane rec first code mask bytes a.2 j prev).map (fun r => (SMap.put none a.1 j r.1, r.2)))) (some ([], off))

/-- The lane part of a record (R142). -/
def decodeTracks (f : OpenFolio) (rec : List Byte) (first : Bool) (d : Decoding) : Option Decoding :=
  if f.txMask = 0 ∧ f.rxMask = 0 then some d
  else
    let txc := leAt rec d.off 4
    let rxc := leAt rec (d.off + 4) 4
    let n := f.laneBits / 8
    (decodeLanes rec first txc f.txMask n f.prev.tx (d.off + 8)).bind (fun t =>
      (decodeLanes rec first rxc f.rxMask n f.prev.rx t.2).map (fun r =>
        { off := r.2, leaf := { d.leaf with tx := t.1, rx := r.1 } }))

/-- Decode leaf record number `f.fetched` of a folio: the leaf, or none where R148 fails. -/
def State.decodeRecord (s : State) (f : OpenFolio) (rec : List Byte) : Option Leaf :=
  let first := decide (f.fetched = 0)
  let hw := leAt rec 0 4
  if bitsAt hw 6 6 ≠ 0 ∨ rec.length ≠ 4 * bitsAt hw 16 16 then none
  else
    let d := (decodeTsets rec first f.prev {}).map (decodeSide rec)
    let d := (bitList f.shelfMask 32).foldl (fun acc g => acc.bind (s.decodeShelf f rec first g)) d
    (d.bind (decodeTracks f rec first)).bind (fun d =>
      if rec.length < d.off ∨ d.off + 4 ≤ rec.length ∨ (rec.drop d.off).any (fun b => decide (b ≠ 0)) ∨
          d.leaf.tsets.any (fun k => !bitAt f.tsetMask k) ∨
          (f.fetched + 1 = f.leaves ∧ f.fetchOff + rec.length ≠ f.bodyBytes) then none
      else some d.leaf)

/-- A timing-set number of the leaf selects an entry with VALID = 0 (R109). -/
def State.leafTsetBad (s : State) (c : Nat) (l : Leaf) : Bool := l.tsets.any (fun k => !s.periodValid c k)

end Sys2Proof.Machine
end

