-- ==== Sys2Proof/Machine/Resolve.lean ====
section
/-! DEFINITION. The resolver of a context: it takes sequence words in order, resolves the folios they name, and fetches leaf
records into the folio cache (06_reader.md R154 to R176, 08_library_and_catalogue.md R215 to R221). -/
namespace Sys2Proof.Machine

/-! ### Sequence words -/

/-- OP, X and Y of word i of context c (R154). -/
def State.seqOp (s : State) (c i : Nat) : Nat := s.f ⟨Reg.RDR_SEQ c (2 * i + 1), 24, 8⟩
def State.seqX (s : State) (c i : Nat) : Nat := s.f ⟨Reg.RDR_SEQ c (2 * i + 1), 0, 24⟩
def State.seqY (s : State) (c i : Nat) : Nat := (s.rd (Reg.RDR_SEQ c (2 * i))).toNat

/-- The words a BRANCH watch runs across (R170). -/
def watchGoesOn (op : Nat) : Bool := decide (op ∈ [0x00, 0x01, 0x02, 0x03, 0x04, 0x0B, 0x0C, 0x0D, 0x0E])

/-! ### Where a folio's bytes come from -/

/-- What a read of a folio's bytes gives. -/
inductive Fetched where
  | bytes (bs : List Byte)
  /-- Uncorrectable in every usable copy: the library address reported (R186, R216). -/
  | poison (addr : Nat)
  /-- Not there yet, with the cause a hold would report. -/
  | missing (cause : Nat)
  deriving DecidableEq, Repr

/-- Stacks that hold a usable copy of a snapshot's folio, stack 0 first (R215, R216). -/
def State.copies (s : State) (e : List Byte) : List Nat := (List.range 2).filter (fun st => bitAt (entryRes e) st && s.stkUp st)

/-- The first granule among n bytes at a that reads uncorrectable, else a. -/
def State.poisonAt (s : State) (a n : Nat) : Nat :=
  (s.bad.findSome? (fun p => if p.2 = true ∧ a / 64 ≤ p.1 ∧ p.1 * 64 < a + n then some (Nat.max a (p.1 * 64)) else none)).getD a

def State.staging (s : State) (c : Nat) : List Staged := SMap.get [] s.lib.staged c
def State.setStaging (s : State) (c : Nat) (l : List Staged) : State :=
  { s with lib := { s.lib with staged := SMap.put [] s.lib.staged c l } }

/-- Staged bytes agree with a snapshot's tag (R221). -/
def Staged.fits (x : Staged) (e : List Byte) : Bool :=
  decide (x.origin = entryOrigin e ∧ x.len = entryLength e ∧ x.gen = entryGen e)

/-- n bytes at offset `off` of a resolved folio: from a usable copy, else for a streamed folio from the staging ring, where part
0 is the header and part k + 1 leaf record k (R215, R216, R221). -/
def State.folioRead (s : State) (c : Nat) (e : List Byte) (part off n : Nat) : Fetched :=
  match s.copies e with
  | [] =>
    if entryStream e then
      match (s.staging c).find? (fun x => decide (x.cn = entryCn e ∧ x.leaf = part)) with
      | some x => if x.fits e then (match x.bytes with
          | some bs => .bytes (bs.take n)
          | none => .missing 3) else .missing 4
      | none => .missing 3
    else .missing 1
  | cs =>
    match cs.find? (fun st => !s.badRange (entryLocal e st + off) n) with
    | some st => .bytes (s.ldBytes (entryLocal e st + off) n)
    | none => .poison (s.poisonAt (entryLocal e (cs.getLast?.getD 0) + off) n)

/-! ### The plan -/

/-- Leaves a segment still plays, as far as its word fixes them. -/
def Seg.leavesLeft : Seg → Nat
  | .folio p _ => p.upto - p.next
  | .holdWord n _ => n
  | .iterate m => m.leaves - m.k
  | _ => 0

/-- Leaves resolved and not yet played (R218). -/
def Ctx.ahead (x : Ctx) : Nat := x.plan.foldl (fun n p => n + p.seg.leavesLeft) 0

/-- The override in force after some effects. -/
def PreEffect.override (o : Option Nat) : PreEffect → Option Nat
  | .tset v => v
  | _ => o
/-- The override in force at the front end (R107). -/
def Ctx.overrideAhead (x : Ctx) : Option Nat :=
  (x.plan.flatMap (fun p => p.pre) ++ x.pre).foldl PreEffect.override x.override

/-- Append a resolved word that plays leaves or changes state, with the effects waiting for it. -/
def Ctx.push (x : Ctx) (word : Nat) (seg : Seg) : Ctx :=
  { x with plan := x.plan ++ [{ seg := seg, word := word, loops := (x.loops.map (fun l => l.left)).reverse,
                                calls := x.calls.length, pre := x.pre, watch := x.watch }],
           pre := [], pos := word + 1, lack := 0 }

/-- Append a stop before the next leaf; nothing follows it. -/
def Ctx.pushStop (x : Ctx) (word code cn leaf addr : Nat) : Ctx :=
  { x.push word (.stopAt code cn leaf addr) with ended := true, pos := word }

/-- Next word. -/
def Ctx.step (x : Ctx) (i : Nat) : Ctx := { x with pos := i, lack := 0 }

/-- Hold an effect for the next leaf a later word plays (R157). -/
def Ctx.effect (x : Ctx) (i : Nat) (p : PreEffect) : Ctx := { x with pre := x.pre ++ [p], pos := i + 1, lack := 0 }

def Ctx.folio (x : Ctx) (id : Nat) : Option OpenFolio := x.folios.find? (fun f => decide (f.id = id))
def Ctx.onFolio (x : Ctx) (id : Nat) (g : OpenFolio → OpenFolio) : Ctx :=
  { x with folios := x.folios.map (fun f => if f.id = id then g f else f) }

/-- Record a folio opened in the first iteration of the outermost body (R161). -/
def rememberOpen (word id : Nat) : List LoopFrame → List LoopFrame
  | [] => []
  | [l] => [{ l with opened := (word, id) :: l.opened }]
  | l :: ls => l :: rememberOpen word id ls

/-- The folio a PLAY inside a loop body opened before. -/
def Ctx.openedBefore (x : Ctx) (word : Nat) : Option Nat :=
  (x.loops.getLast?).bind (fun l => (l.opened.find? (fun p => decide (p.1 = word))).map (fun p => p.2))

/-- The TSET override and the lanes of a folio agree (R144). -/
def State.overrideOk (s : State) (c : Nat) (f : OpenFolio) : Bool :=
  (decide (f.txMask = 0) && decide (f.rxMask = 0)) || s.lanePeriodOk c f.tsetMask f.laneBits (s.ctx c).overrideAhead

/-- Resolve the call number of word i: the folio opened, a stop before its first leaf, or nothing yet with its cause
(R147, R211, R215, R218). -/
def State.openFolio (s : State) (c i : Nat) : Option OpenFolio × State :=
  let cn := s.seqY c i
  match s.lookup (c / 4) cn with
  | (none, s) => (none, s.onCtx c (fun x => { x with lack := 5 }))
  | (some e, s) =>
    match s.folioRead c e 0 0 64 with
    | .missing k => (none, s.onCtx c (fun x => { x with lack := k }))
    | .poison a => (none, s.onCtx c (fun x => x.pushStop i 0x20 cn 0 a))
    | .bytes h =>
      match s.headerFail c cn (entryLength e) h with
      | some st => (none, s.onCtx c (fun x => x.pushStop i st cn 0 0))
      | none =>
        let f := openOf (s.ctx c).nextId cn e h
        (some f, s.onCtx c (fun x => { x with nextId := x.nextId + 1, folios := x.folios ++ [f] }))

/-- Play part of an opened folio, or stop before it where R144 fails. -/
def State.playPart (s : State) (c i : Nat) (f : OpenFolio) (next upto : Nat) (buffered : Bool) : State :=
  if s.overrideOk c f then s.onCtx c (fun x => x.push i (.folio { id := f.id, next := next, upto := upto } buffered))
  else s.onCtx c (fun x => x.pushStop i 0x15 f.cn next 0)

/-- PLAY (R158, R161). -/
def State.resolvePlay (s : State) (c i : Nat) : State :=
  let n := s.seqX c i
  let x := s.ctx c
  if 1024 < x.ahead then s
  else match (x.openedBefore i).bind x.folio with
    | some f => s.playPart c i f 0 f.leaves true
    | none =>
      match s.openFolio c i with
      | (none, s) => s
      | (some f, s) =>
        let part := decide (n ≠ 0 ∧ n < f.leaves)
        let s := s.onCtx c (fun x => { x with loops := rememberOpen i f.id x.loops })
        let s := s.playPart c i f 0 (if part then n else f.leaves) false
        s.onCtx c (fun x => { x with susp := if part then some { id := f.id, next := n, upto := f.leaves } else none })

/-- PLAYC (R158): R145 does not apply to a continued folio. -/
def State.resolvePlayc (s : State) (c i : Nat) : State :=
  let n := s.seqX c i
  match (s.ctx c).susp with
  | none => s
  | some p =>
    match (s.ctx c).folio p.id with
    | none => s
    | some f =>
      let upto := if n = 0 ∨ p.upto ≤ p.next + n then p.upto else p.next + n
      let s := s.playPart c i f p.next upto true
      s.onCtx c (fun x => { x with susp := if upto < p.upto then some { p with next := upto } else none })

/-- WAIT and SYNC (R164, R166, R176). -/
def State.resolveWait (s : State) (c i : Nat) (sync : Bool) : State :=
  let x := s.seqX c i
  let w : WaitSt := if sync then
      { holdFolio := bitAt x 17, timeout := s.seqY c i, group := bitAt x 23, sync := if bitAt x 23 then none else some (x % 2 ^ 16) }
    else { src := bitsAt x 20 4, edge := bitsAt x 18 2, holdFolio := bitAt x 17, index := x % 2 ^ 16, timeout := s.seqY c i }
  s.onCtx c (fun x => x.push i (.wait w))

/-- MATCH (R173): the folio is resolved once and opened; a suspended folio stays. -/
def State.resolveMatch (s : State) (c i : Nat) : State :=
  if 1024 < (s.ctx c).ahead then s
  else match s.openFolio c i with
    | (none, s) => s
    | (some f, s) =>
      let x := s.seqX c i
      if s.overrideOk c f then
        s.onCtx c (fun y => { y.push i (.iterate { serial := y.nextId, word := i, group := bitAt x 23, any := bitAt x 22, max := bitsAt x 0 20,
                                                    id := f.id, leaves := f.leaves }) with nextId := y.nextId + 1 })
      else s.onCtx c (fun y => y.pushStop i 0x15 f.cn 0 0)

/-- BRANCH (R170). -/
def State.resolveBranch (s : State) (c i : Nat) : State :=
  let w := s.seqX c i
  s.onCtx c (fun x => { x.effect i (.watch x.nextId) with
    nextId := x.nextId + 1, watch := x.nextId, watchCalls := (x.nextId, x.calls) :: x.watchCalls,
    watches := x.watches ++ [{ serial := x.nextId, group := bitAt w 23, pass := bitAt w 22, target := bitsAt w 0 12, left := s.seqY c i }] })

/-- The period table as the effects ahead of a word leave it. -/
def State.periodsAhead (s : State) (c : Nat) : State :=
  ((s.ctx c).plan.flatMap (fun p => p.pre) ++ (s.ctx c).pre).foldl (fun s p => match p with
    | .period k w f => ((s.setF (F.RDR_PER_HI_WHOLE_HI c k) (w / 65536)).setF (F.RDR_PER_LO_WHOLE_LO c k) w).setF (F.RDR_PER_LO_FRAC c k) f
    | _ => s) s

/-- A PERIOD word fails: its entry is not valid, its value breaks R104 or the carry check of Table 4-12, or it would move the
lane rate of an open folio outside its range (R108, R401). -/
def State.periodBad (s : State) (c k whole frac : Nat) : Bool :=
  let t := s.periodsAhead c
  let t := ((t.setF (F.RDR_PER_HI_WHOLE_HI c k) (whole / 65536)).setF (F.RDR_PER_LO_WHOLE_LO c k) whole).setF (F.RDR_PER_LO_FRAC c k) frac
  let chs := t.channelsOf c
  let ks := (List.range 64).filter (t.periodValid c)
  !t.periodValid c k || decide (t.period c k < (if chs.any t.wide then perMinWide else perMinFast)) ||
    chs.any (fun ch => ks.any (fun i => t.tsBreaks c ch i 3)) ||
    (s.ctx c).folios.any (fun f => decide (f.txMask ≠ 0 ∨ f.rxMask ≠ 0) && bitAt f.tsetMask k && !laneRateOk f.laneBits (t.period c k))

/-- PERIOD (R107, R108). -/
def State.resolvePeriod (s : State) (c i : Nat) : State :=
  let k := bitsAt (s.seqX c i) 18 6
  let frac := bitsAt (s.seqX c i) 0 16
  let whole := bitsAt (s.seqY c i) 0 28
  if s.periodBad c k whole frac then s.onCtx c (fun x => x.pushStop i 0x21 0 0 0)
  else s.onCtx c (fun x => x.effect i (.period k whole frac))

/-- LOOP, ENDLOOP, CALL and RETURN (R159, R160). -/
def Ctx.loopStart (x : Ctx) (i count : Nat) : Ctx :=
  { x.step (i + 1) with loops := { body := i + 1, left := count } :: x.loops }
def Ctx.loopEnd (x : Ctx) (i : Nat) : Ctx :=
  match x.loops with
  | l :: ls => if 1 < l.left then { x.step l.body with loops := { l with left := l.left - 1 } :: ls }
               else { x.step (i + 1) with loops := ls }
  | [] => x.step (i + 1)
def Ctx.call (x : Ctx) (i target : Nat) : Ctx :=
  { x.step target with calls := { ret := i + 1, susp := x.susp } :: x.calls, susp := none }
def Ctx.ret (x : Ctx) : Ctx :=
  match x.calls with
  | f :: fs => { x.step f.ret with calls := fs, susp := f.susp }
  | [] => x

/-- The resolver takes the word at its position (Table 6-1). Nothing follows END or a stop. -/
def State.resolve (s : State) (c : Nat) : State :=
  let x := s.ctx c
  let i := x.pos
  let op := s.seqOp c i
  if x.ended ∨ 4096 ≤ i then s
  else
    let s := if watchGoesOn op then s else s.onCtx c (fun x => { x with watch := 0 })
    let w := s.seqX c i
    let y := s.seqY c i
    match op with
    | 0x00 => s.onCtx c (fun x => x.step (i + 1))
    | 0x01 => s.resolvePlay c i
    | 0x02 => s.resolvePlayc c i
    | 0x03 => s.onCtx c (fun x => x.loopStart i y)
    | 0x04 => s.onCtx c (fun x => x.loopEnd i)
    | 0x05 => s.onCtx c (fun x => x.call i (y % 4096))
    | 0x06 => s.onCtx c Ctx.ret
    | 0x07 => s.resolveWait c i false
    | 0x08 => s.resolveMatch c i
    | 0x09 => s.resolveBranch c i
    | 0x0A => s.resolveWait c i true
    | 0x0B => s.onCtx c (fun x => x.effect i (.mask (w % 2) y (bitAt w 1)))
    | 0x0C => s.onCtx c (fun x => x.effect i (.tset (if bitAt w 8 then some (w % 64) else none)))
    | 0x0D => s.resolvePeriod c i
    | 0x0E => s.onCtx c (fun x => x.effect i (.mark y))
    | 0x0F => s.onCtx c (fun x => x.push i (.holdWord y 0))
    | 0x10 => s.onCtx c (fun x => { { x with pre := [] }.push i .halt with pre := x.pre })
    | 0x11 => s.onCtx c (fun x => { x.push i .endRun with ended := true })
    | _ => s

/-! ### Fetching leaf records -/

/-- The open folio whose next record is wanted first, in play order. -/
def Ctx.wants (x : Ctx) : Option Nat :=
  let need := fun (id upto : Nat) => match x.folio id with
    | some f => if f.fetched < upto ∧ f.badLeaf = none then some id else none
    | none => none
  (x.plan.findSome? (fun p => match p.seg with
    | .folio q _ => need q.id q.upto
    | .iterate m => need m.id m.leaves
    | _ => none)).or (x.susp.bind (fun q => need q.id q.upto))

/-- The length in bytes of the record at the fetch offset, from its header word (Table 5-2). -/
def recordLen (hw : List Byte) : Nat := 4 * bitsAt (leAt hw 0 4) 16 16

/-- The next record of an open folio. -/
def State.readRecord (s : State) (c : Nat) (f : OpenFolio) : Fetched :=
  match s.folioRead c f.entry (f.fetched + 1) (64 + f.fetchOff) 4 with
  | .bytes hw => s.folioRead c f.entry (f.fetched + 1) (64 + f.fetchOff) (recordLen hw)
  | r => r

/-- Staged bytes leave the ring as they are used, or where their tag differs from the snapshot's (R221). -/
def State.unstage (s : State) (c cn part : Nat) : State :=
  s.setStaging c ((s.staging c).filter (fun x => decide (x.cn ≠ cn ∨ x.leaf ≠ part)))

/-- A leaf record fetch returns (R142, R148, R109, R186, R219): checked into the cache as of leaf number `at`, or the context
stops before that leaf. -/
def State.fetchOne (s : State) (c at_ : Nat) : State :=
  let x := s.ctx c
  match x.wants.bind x.folio with
  | none => s
  | some f =>
    let bad := fun (st a : Nat) => s.onCtx c (fun x => x.onFolio f.id (fun f => { f with badLeaf := some (f.fetched, st, a) }))
    if f.bodyBytes < f.fetchOff + 4 then bad 0x16 0
    else match s.readRecord c f with
      | .missing k => if k = 4 then s.unstage c f.cn (f.fetched + 1) else s
      | .poison a => bad 0x20 a
      | .bytes rec =>
        if f.bodyBytes < f.fetchOff + rec.length ∨ rec = [] then bad 0x16 0
        else match s.decodeRecord f rec with
          | none => bad 0x16 0
          | some l =>
            if s.leafTsetBad c l then bad 0x0B 0
            else
              (if s.copies f.entry = [] then s.unstage c f.cn (f.fetched + 1) else s).onCtx c (fun x => { x.onFolio f.id (fun f => { f with fetched := f.fetched + 1, fetchOff := f.fetchOff + rec.length, prev := l }) with
                                    cache := x.cache ++ [{ id := f.id, leaf := f.fetched, at_ := at_, data := l }] })

/-- Resolve and fetch ahead at once: the first 64 leaves of a program at Arm (R187), and the successor of a transfer, which
Table 1-4 has resolved at least 64 leaves before it can play. -/
def State.prime (s : State) (c : Nat) : Nat → State
  | 0 => s
  | fuel + 1 =>
    let s := if (s.ctx c).ahead < 64 then s.resolve c else s
    ((s.fetchOne c 0).prime c fuel)

/-- The cached leaf k of folio `id`. -/
def Ctx.cached (x : Ctx) (id k : Nat) : Option CacheLeaf := x.cache.find? (fun l => decide (l.id = id ∧ l.leaf = k))

/-- Folios that something still plays or may replay. -/
def Ctx.live (x : Ctx) : List Nat :=
  x.plan.filterMap (fun p => match p.seg with
    | .folio q _ => some q.id
    | .iterate m => some m.id
    | _ => none) ++
  (x.susp.map (fun q => q.id)).toList ++ x.calls.filterMap (fun f => f.susp.map (fun q => q.id)) ++
  x.watchCalls.flatMap (fun w => w.2.filterMap (fun f => f.susp.map (fun q => q.id))) ++
  x.loops.flatMap (fun l => l.opened.map (fun p => p.2))

/-- Drop folios and leaves nothing refers to any more. -/
def Ctx.prune (x : Ctx) : Ctx :=
  let l := x.live
  { x with folios := x.folios.filter (fun f => decide (f.id ∈ l)), cache := x.cache.filter (fun q => decide (q.id ∈ l)) }

/-! ### The word commands -/

/-- A word is resolved where the context runs its program and the word at the resolver's position has this OP. -/
def State.takeWord (s : State) (c op : Nat) : State :=
  if (s.ctxState c).active ∧ s.seqOp c (s.ctx c).pos = op then s.resolve c else s

/-- NOP (R156, Table 6-1). -/
def execWordNop (c : Nat) (s : State) : Host.Outcome State Fault Refusal := .next (s.takeWord c 0x00)
/-- PLAY (R158, R161, Table 6-1). -/
def execWordPlay (c : Nat) (s : State) : Host.Outcome State Fault Refusal := .next (s.takeWord c 0x01)
/-- PLAYC (R158, Table 6-1). -/
def execWordPlayc (c : Nat) (s : State) : Host.Outcome State Fault Refusal := .next (s.takeWord c 0x02)
/-- LOOP (R160, Table 6-1). -/
def execWordLoop (c : Nat) (s : State) : Host.Outcome State Fault Refusal := .next (s.takeWord c 0x03)
/-- ENDLOOP (R160, Table 6-1). -/
def execWordEndloop (c : Nat) (s : State) : Host.Outcome State Fault Refusal := .next (s.takeWord c 0x04)
/-- CALL (R159, Table 6-1). -/
def execWordCall (c : Nat) (s : State) : Host.Outcome State Fault Refusal := .next (s.takeWord c 0x05)
/-- RETURN (R159, Table 6-1). -/
def execWordReturn (c : Nat) (s : State) : Host.Outcome State Fault Refusal := .next (s.takeWord c 0x06)
/-- WAIT (R164 to R166, Table 6-1). -/
def execWordWait (c : Nat) (s : State) : Host.Outcome State Fault Refusal := .next (s.takeWord c 0x07)
/-- MATCH (R173, Table 6-1). -/
def execWordMatch (c : Nat) (s : State) : Host.Outcome State Fault Refusal := .next (s.takeWord c 0x08)
/-- BRANCH (R170, Table 6-1). -/
def execWordBranch (c : Nat) (s : State) : Host.Outcome State Fault Refusal := .next (s.takeWord c 0x09)
/-- SYNC (R176, Table 6-1). -/
def execWordSync (c : Nat) (s : State) : Host.Outcome State Fault Refusal := .next (s.takeWord c 0x0A)
/-- SITEMASK (R153, Table 6-1). -/
def execWordSitemask (c : Nat) (s : State) : Host.Outcome State Fault Refusal := .next (s.takeWord c 0x0B)
/-- TSET (R107, Table 6-1). -/
def execWordTset (c : Nat) (s : State) : Host.Outcome State Fault Refusal := .next (s.takeWord c 0x0C)
/-- PERIOD (R107, R108, Table 6-1). -/
def execWordPeriod (c : Nat) (s : State) : Host.Outcome State Fault Refusal := .next (s.takeWord c 0x0D)
/-- MARK (R188, Table 6-1). -/
def execWordMark (c : Nat) (s : State) : Host.Outcome State Fault Refusal := .next (s.takeWord c 0x0E)
/-- HOLD (R168, Table 6-1). -/
def execWordHold (c : Nat) (s : State) : Host.Outcome State Fault Refusal := .next (s.takeWord c 0x0F)
/-- HALT (R178, Table 6-1). -/
def execWordHalt (c : Nat) (s : State) : Host.Outcome State Fault Refusal := .next (s.takeWord c 0x10)
/-- END (R182, Table 6-1). -/
def execWordEnd (c : Nat) (s : State) : Host.Outcome State Fault Refusal := .next (s.takeWord c 0x11)

/-- LEAF_FETCH_DONE (R219, R148, R109, R186). -/
def execLeafFetchDone (c : Nat) (s : State) : Host.Outcome State Fault Refusal :=
  .next (if (s.ctxState c).active then s.fetchOne c (s.ctx c).lcnt else s)

end Sys2Proof.Machine
end

