-- ==== Sys2Proof/Machine/Edges.lean ====
section
/-! DEFINITION. The edge generators: vectors issued as drive events and strobes, the events as they act, and the results of
strobes (03_pin_channels.md R74 to R81, 04_edges_and_timing_sets.md R110 to R124). -/
namespace Sys2Proof.Machine

/-! ### Issuing a vector -/

/-- The data a symbol drives, K and N resolved against the last driven data level (Table 3-2, R78). -/
def driveData (last : Bool) (sym : Nat) : Bool :=
  match sym / 2 % 8 with
  | 4 => false
  | 6 => true
  | 5 => last
  | _ => !last

/-- Under the drive-off format a symbol with E = 1, and T, act as X (R81). -/
def effSymbol (fmt sym : Nat) : Nat := if fmt = 4 ∧ (8 ≤ sym ∨ sym = 4) then 0 else sym

/-- The level a format has before D1 and from D2 (Table 3-3). -/
def levelBefore (fmt : Nat) (last data : Bool) : Bool := match fmt with | 1 => false | 2 => true | 3 => !data | _ => last
def levelAfter (fmt : Nat) (data : Bool) : Bool := match fmt with | 1 => false | 2 => true | 3 => !data | _ => data

/-- The absolute time of an event of a vector that starts at `st` (in 1/65,536 FU): T = round(S + TIME + DSK + CORR), halves up
(R114). -/
def State.eventTime (s : State) (ch st time : Nat) (cmp : Bool) : Int :=
  ((st + 32768) / 65536 : Nat) + (time : Int) +
    (if cmp then s.fs (F.EDG_DSK_CMP_DSK ch) + s.fs (F.EDG_CORR_CMP_CORR ch) else s.fs (F.EDG_DSK_DRV_DSK ch) + s.fs (F.EDG_CORR_DRV_CORR ch))

/-- The drive events of a vector under its format (Table 3-3, R80, R113); `vec` is 32 times the leaf number plus the vector. -/
def State.driveEvents (s : State) (ch st k sym vec : Nat) (last : Bool) : List EdgeEvent :=
  let fmt := s.tsFormat ch k
  let eff := effSymbol fmt sym
  let t := fun e => s.eventTime ch st (s.evTime ch k e) false
  let on := fun e => s.evEn ch k e
  if 5 ≤ fmt then []
  else if 8 ≤ eff then
    let d := driveData last eff
    let pulsed := decide (1 ≤ fmt)
    let atE1 := if on 0 = false ∨ t 2 ≤ t 0 then levelBefore fmt last d
      else if pulsed = false ∨ on 1 = false ∨ t 2 ≤ t 1 then d else levelAfter fmt d
    (if on 2 then [{ time := t 2, vec := vec, kind := 0, act := .drive atE1 }] else []) ++
    (if on 0 then [{ time := t 0, vec := vec, kind := 1, act := .drive d }] else []) ++
    (if pulsed && on 1 then [{ time := t 1, vec := vec, kind := 2, act := .drive (levelAfter fmt d) }] else [])
  else if eff = 4 then (if on 2 then [{ time := t 2, vec := vec, kind := 0, act := .vtt }] else [])
  else if on 3 then
    [{ time := t 3, vec := vec, kind := 3, act := if s.flag (F.CHN_TERM_EN ch) ∧ eff ≠ 6 ∧ eff ≠ 7 then .term else .opened }]
  else []

/-- The strobes of a vector under its strobe type (Table 4-7). -/
def State.strobeEvents (s : State) (ch st k sym vec : Nat) : List EdgeEvent :=
  let ty := s.tsStrobe ch k
  let eff := effSymbol (s.tsFormat ch k) sym
  (strobeUses ty).filterMap (fun e =>
    if s.evEn ch k e then some { time := s.eventTime ch st (s.evTime ch k e) true, vec := vec, kind := e, strobe := ty, sym := eff } else none)

/-- The order of events: by time, a strobe after the drive events of its instant, then by vector and kind (R123). -/
def EdgeEvent.before (a b : EdgeEvent) : Bool :=
  decide (a.time < b.time) || (decide (a.time = b.time) &&
    (decide (b2n a.isStrobe < b2n b.isStrobe) || (decide (a.isStrobe = b.isStrobe) &&
      (decide (a.vec < b.vec) || (decide (a.vec = b.vec) && decide (a.kind ≤ b.kind))))))
def insertEvent (e : EdgeEvent) : List EdgeEvent → List EdgeEvent
  | [] => [e]
  | q :: qs => if q.before e then q :: insertEvent e qs else e :: q :: qs

/-- The edge generator of a channel issues a vector (R114 to R118). An event earlier than a pending one of an earlier vector sets
ORDER (R122); a vector that drives data updates the last driven level (R78). -/
def State.issue (s : State) (c ch st k sym vec : Nat) (captured : Bool) : State :=
  let x := s.chan ch
  let fmt := s.tsFormat ch k
  let eff := effSymbol fmt sym
  let evs := s.driveEvents ch st k sym vec x.last ++ s.strobeEvents ch st k sym vec
  let late := x.events.any (fun q => evs.any (fun e => decide (e.time < q.time)))
  let s := s.setChan ch { x with events := evs.foldl (fun l e => insertEvent e l) x.events, played := true, ctl := .pattern,
                                 last := if 8 ≤ eff then driveData x.last eff else x.last }
  let s := if captured && decide (s.tsStrobe ch k = 2) then
      s.onResult c (vec / 32) (vec % 32) (fun r => { r with caps := SMap.put (0, none) r.caps ch (0, some 0) }) else s
  if late then s.setFlag (F.EDG_STATUS_ORDER ch) true else s

/-! ### Events as they act -/

/-- A limit of Table 4-11 is broken: SPACING, and one Note until the host clears it (R121). -/
def State.spacing (s : State) (ch : Nat) : State :=
  if s.flag (F.EDG_STATUS_SPACING ch) then s
  else (s.setFlag (F.EDG_STATUS_SPACING ch) true).note (unitCode 1 ch) 0x0F

/-- A drive event acts on the driver (R79, R80): E1 and E2 set the output state, D1 and D2 the level while it drives. -/
def driverAfter (e : EdgeEvent) (o : Drv) : Drv :=
  if e.kind = 0 ∨ e.kind = 3 then e.act
  else match o with
    | .drive _ => e.act
    | _ => o

/-- Less than `min` FU since the time `last`. -/
def soonAfter (last : Option Int) (time : Int) (min : Nat) : Bool :=
  match last with
  | some t => decide (time - t < (min : Int))
  | none => false

/-- DRIVER_EVENT (R118): the channel's earliest pending event, where it is a drive event, acts; a parked channel leaves park at
the event (R88). Events of one instant make one transition, from the output before them to the output after them (R123); one too
close to the last sets SPACING (R119, R121). -/
def execDriverEvent (ch : Nat) (s : State) : Host.Outcome State Fault Refusal :=
  .next (match (s.chan ch).events with
    | [] => s
    | e :: rest =>
      if e.isStrobe then s
      else
        let x := s.chan ch
        let o := driverAfter e x.out
        let before := match x.instDrv with
          | some (t, b) => if t = e.time then b else x.out
          | none => x.out
        let more := rest.any (fun d => !d.isStrobe && decide (d.time = e.time))
        let moved := !more && decide (o ≠ before)
        let close := moved && soonAfter x.lastDrv e.time (minPulse (s.wide ch))
        let s := s.setChan ch { x with events := rest, out := o, ctl := .pattern,
                                       lastDrv := if moved then some e.time else x.lastDrv,
                                       instDrv := if more then some (e.time, before) else none }
        if close then s.spacing ch else s)

/-- What a symbol's expectation sees at a strobe: failed, or not evaluated (Table 3-2, R76, R77). -/
def expectFails (e : EdgeEvent) (o : Drv) (r : Strobed) : Bool :=
  let window := decide (e.strobe = 3)
  match e.sym with
  | 1 => !r.l
  | 2 => !r.h
  | 3 | 7 => if window then r.anyHigh || r.anyLow else r.h || r.l
  | 5 => if window then r.gap else !(r.h || r.l)
  | 9 | 0xB | 0xD | 0xF =>
    match o with
    | .drive high => if window then r.verifyBad else if high then !r.h else !r.l
    | _ => window && r.verifyBad
  | _ => false

/-- A played leaf still held, by its number. -/
def Ctx.pastLeaf (x : Ctx) (n : Nat) : Option PastLeaf := x.past.find? (fun p => decide (p.leaf = n))

/-- The expectation of a channel counts in a leaf: a pattern leaf, and a common channel or one of an active site (R153, R169). -/
def State.evaluated (s : State) (p : PastLeaf) (ch : Nat) : Bool :=
  p.pattern && (!s.flag (F.CHN_SITE_VALID ch) || bitAt p.sites (s.f (F.CHN_SITE_SITE ch)))

/-- A strobe's pair for the capture record: bit 0 CMP_L, bit 1 CMP_H (R286, R287). -/
def strobePair (r : Strobed) : Nat := b2n r.l + 2 * b2n r.h

/-- A strobe or a window's close gives its result (R76, R112, R118, R287). -/
def State.strobeResult (s : State) (c ch : Nat) (e : EdgeEvent) (r : Strobed) : State :=
  match (s.ctx c).pastLeaf e.leaf with
  | none => s
  | some p =>
    let failed := s.evaluated p ch && expectFails e (s.chan ch).out r
    let captured := p.pattern && bitAt p.cap e.vector
    if failed = false ∧ captured = false then s
    else s.onResult c e.leaf e.vector (fun q =>
      let old := SMap.get (0, none) q.caps ch
      { q with fails := if failed ∧ ch ∉ q.fails then q.fails ++ [ch] else q.fails,
               caps := if captured = false then q.caps
                       else SMap.put (0, none) q.caps ch (if e.kind = 5 ∧ e.strobe = 2 then (old.1, some (strobePair r)) else (strobePair r, old.2)) })

/-- The strobe breaks a limit of Table 4-11: a window too short, or a strobe or an open too soon after a close, or an edge strobe
too soon after an edge strobe. -/
def State.strobeClose (s : State) (ch : Nat) (e : EdgeEvent) : Bool :=
  let x := s.chan ch
  if e.strobe = 3 ∧ e.kind = 5 then soonAfter x.lastOpen e.time (minWindow (s.wide ch))
  else soonAfter x.lastClose e.time (minStrobe (s.wide ch)) ||
    (decide (e.strobe ≠ 3) && soonAfter x.lastStrobe e.time (minStrobe (s.wide ch)))

/-- STROBE (R112, R118): the channel's earliest pending event, where it is a strobe, evaluates the expectation of the vector that
scheduled it; the S1 of a window opens it, and its S2 gives the result. -/
def execStrobe (ch : Nat) (r : Strobed) (s : State) : Host.Outcome State Fault Refusal :=
  .next (match (s.chan ch).events with
    | [] => s
    | e :: rest =>
      if !e.isStrobe then s
      else
        let close := s.strobeClose ch e
        let opens := decide (e.strobe = 3 ∧ e.kind = 4)
        let s := s.onChan ch (fun x => { x with events := rest, cmpH := r.h, cmpL := r.l,
                                                lastStrobe := if e.strobe = 3 then x.lastStrobe else some e.time,
                                                lastOpen := if opens then some e.time else x.lastOpen,
                                                lastClose := if e.strobe = 3 ∧ !opens then some e.time else x.lastClose })
        let s := if close then s.spacing ch else s
        if opens then s
        else match s.owner ch with
          | some c => s.strobeResult c ch e r
          | none => s)

/-! ### Fails and captures of a leaf -/

/-- DUT lanes of a context that are assigned to a site, or are common (R400). -/
def State.laneOf (s : State) (c j site : Nat) : Bool :=
  decide (s.f (F.LNK_DL_CFG_CTX j) = c) &&
    (!s.flag (F.LNK_DL_CFG_SITE_VALID j) || decide (s.f (F.LNK_DL_CFG_SITE j) = site))

/-- Failing channels of a vector that count for a site: its own and the common ones (R152). -/
def State.siteFails (s : State) (site : Nat) (r : VecResult) : List Nat :=
  (List.range 256).filter (fun ch => decide (ch ∈ r.fails) &&
    (!s.flag (F.CHN_SITE_VALID ch) || decide (s.f (F.CHN_SITE_SITE ch) = site)))
def State.siteLanes (s : State) (c site : Nat) (r : VecResult) : Nat :=
  (List.range 16).foldl (fun m j => if bitAt r.lanes j ∧ s.laneOf c j site then m + 2 ^ j else m) 0
/-- The vector fails for a site (R278). -/
def State.failsSite (s : State) (c site : Nat) (r : VecResult) : Bool :=
  decide (s.siteFails site r ≠ []) || decide (s.siteLanes c site r ≠ 0)

/-- The sites of the context active in a leaf. -/
def State.leafSites (s : State) (c : Nat) (p : PastLeaf) : List Nat := (s.sitesOf c).filter (bitAt p.sites)

/-- The mask of sites that failed in a leaf (R169). -/
def State.failMask (s : State) (c : Nat) (p : PastLeaf) : Nat :=
  let rs := (s.ctx c).results.filter (fun r => decide (r.leaf = p.leaf))
  (s.leafSites c p).foldl (fun m site => if rs.any (s.failsSite c site) then m + 2 ^ site else m) 0

/-- Payload of FAIL and FIRST_FAIL (Table 10-3). -/
def State.failPayload (s : State) (c site : Nat) (p : PastLeaf) (r : VecResult) : List Byte :=
  let chs := s.siteFails site r
  let mask := (List.range 32).foldl (fun m g => if chs.any (fun ch => decide (ch / 8 = g)) then m + 2 ^ g else m) 0
  leBytes p.cn 4 ++ leBytes p.fleaf 4 ++ leBytes r.vec 1 ++ leBytes (Nat.min 255 chs.length) 1 ++ leBytes (s.siteLanes c site r) 2 ++
  leBytes mask 4 ++ (bitList mask 32).flatMap (fun g => leBytes ((chs.filter (fun ch => decide (ch / 8 = g))).foldl (fun m ch => m + 2 ^ (ch % 8)) 0) 1)

/-- The FF registers of a site take the first failing vector (R279). -/
def State.loadFF (s : State) (c site : Nat) (p : PastLeaf) (r : VecResult) : State :=
  let chs := s.siteFails site r
  let s := (((s.setF (F.LDG_FF_CN site) p.cn).setF (F.LDG_FF_FLEAF site) p.fleaf).setF (F.LDG_FF_LEAF_LO site) p.leaf).setF
    (F.LDG_FF_LEAF_HI_HI site) (p.leaf / 2 ^ 32)
  ((((s.setFlag (F.LDG_FF_POS_VALID site) true).setFlag (F.LDG_FF_POS_CH_VALID site) (decide (chs ≠ []))).setFlag
    (F.LDG_FF_POS_LANE site) (decide (s.siteLanes c site r ≠ 0))).setF (F.LDG_FF_POS_VIDX site) r.vec).setF
    (F.LDG_FF_POS_CHANNEL site) (chs.headD 0)

/-- A failing vector of a site outside a MATCH: counted, and recorded as FAIL_REC says (R278 to R280). -/
def State.failVector (s : State) (c site : Nat) (p : PastLeaf) (r : VecResult) : State :=
  let first := !s.flag (F.LDG_FF_POS_VALID site)
  let pay := s.failPayload c site p r
  let s := s.countFails site p.leaf 1
  if first then
    (if s.fenced (unitCode 5 (site / 16)) then s else s.loadFF c site p r).record (strOfSite site) 2 0 p.leaf c site pay
  else
    let n := s.f (F.LDG_SITE_FAIL_FAIL site)
    let want := match s.f (F.LDG_SITE_CFG_FAIL_REC site) with
      | 0 => false
      | 1 => decide (n ≤ Nat.max 1 (s.f (F.LDG_SITE_CFG_FAIL_N site)))
      | _ => true
    if want then s.record (strOfSite site) 1 0 p.leaf c site pay else s

/-- A block of slots, channel k at bits [2k+1:2k], padded to 8 bytes (R286). -/
def captureBlock (slots : List (List Nat)) : List Byte :=
  pad8 (slots.flatMap (fun l => leBytes ((l.zipIdx).foldl (fun v q => v + q.1 * 2 ^ (2 * q.2)) 0) (ceilDiv l.length 4)))

/-- Payload of a CAPTURE record over some channels (Table 10-4), and its FENCED and DISCARD flags. -/
def State.capturePayload (s : State) (c : Nat) (p : PastLeaf) (chs : List Nat) : Nat × List Byte :=
  let res := fun i => ((s.ctx c).results.find? (fun r => decide (r.leaf = p.leaf ∧ r.vec = i))).getD { leaf := p.leaf, vec := i }
  let vs := bitList p.cap 32
  let two := vs.any (fun i => chs.any (fun ch => (SMap.get (0, none) (res i).caps ch).2.isSome))
  let fenced := chs.any s.chFenced
  let lost := vs.any (fun i => chs.any (fun ch => decide (ch ∈ (res i).discard)))
  let fmap := if fenced then leBytes ((chs.zipIdx).foldl (fun m q => if s.chFenced q.1 then m + 2 ^ q.2 else m) 0) (8 * ceilDiv chs.length 64) else []
  let s1 := captureBlock (vs.map (fun i => chs.map (fun ch => (SMap.get (0, none) (res i).caps ch).1)))
  let s2 := captureBlock (vs.map (fun i => chs.map (fun ch => ((SMap.get (0, none) (res i).caps ch).2).getD 0)))
  (b2n fenced + 2 * b2n lost,
   leBytes p.cn 4 ++ leBytes p.fleaf 4 ++ leBytes p.cap 4 ++ leBytes chs.length 2 ++ leBytes (b2n two) 1 ++ leBytes 0 1 ++
   fmap ++ s1 ++ (if two then s2 else []))

/-- CAPTURE records of a leaf: one for each captured site, one for the common channels (R284). -/
def State.captureLeaf (s : State) (c : Nat) (p : PastLeaf) : State :=
  if p.cap = 0 ∨ p.pattern = false then s
  else
    let s := s.eachOf (s.leafSites c p) (fun site s =>
      if s.flag (F.LDG_SITE_CFG_CAP_EN site) then
        let q := s.capturePayload c p (s.siteChannels site)
        s.record (strOfSite site) 3 (q.1 / 2 * 2) p.leaf c site q.2
      else s)
    let common := s.commonChannels c
    if s.flag (F.LDG_CTX_CFG_CAP_COMMON c) ∧ common ≠ [] then
      let q := s.capturePayload c p common
      s.record (strOfCtx c) 3 q.1 p.leaf c 0xFF q.2
    else s

/-- The Ledger takes a leaf's results: failing vectors in order, site by site, then its captures. -/
def State.ledgerLeaf (s : State) (c : Nat) (p : PastLeaf) : State :=
  let s := if p.matching.isSome then s
    else s.each 32 (fun i s =>
      match (s.ctx c).results.find? (fun r => decide (r.leaf = p.leaf ∧ r.vec = i)) with
      | some r => s.eachOf (s.leafSites c p) (fun site s => if s.failsSite c site r then s.failVector c site p r else s)
      | none => s)
  s.captureLeaf c p

/-- The CMP sample of a leaf: failing vectors on CH_A and CH_B (R329, R331). -/
def State.cmpSample (s : State) (c : Nat) (p : PastLeaf) : State :=
  let count := fun ch => ((s.ctx c).results.filter (fun r => decide (r.leaf = p.leaf) && decide (ch ∈ r.fails))).length
  if !p.pattern then s
  else s.each 8 (fun e s =>
    let a := 64 * (e / 2) + s.f (F.ACQ_SRC_CH_A e)
    if s.acqArmed e ∧ s.f (F.ACQ_SRC_KIND e) = 1 ∧ s.owner a = some c then
      s.acqArrive e (count a) (if s.flag (F.ACQ_SRC_B_EN e) then count (64 * (e / 2) + s.f (F.ACQ_SRC_CH_B e)) else 0)
    else s)

end Sys2Proof.Machine
end

