-- ==== Sys2Proof/Machine/GroupCore.lean ====
section
/-! DEFINITION. The group's summaries: who belongs to the group, how summaries combine along the tree, and the fail conditions
that group and local words judge (15_lockstep_groups.md R405 to R426, 06_reader.md R169 to R175). -/
namespace Sys2Proof.Machine

def State.onGrp (s : State) (g : Grp → Grp) : State := { s with grp := g s.grp }
/-- GRP_STATUS.STATE (Table 15-8): 0 IDLE, 1 PREPARING, 2 ARMED, 3 RUN, 4 PAUSED, 5 FROZEN, 6 SPLIT_WAIT, 7 STOPPED. A change
counts on source 0x0C0 (Table 19-9). -/
def State.grpState (s : State) : Nat := s.f F.GRP_STATUS_STATE
def State.setGrpState (s : State) (v : Nat) : State :=
  if s.grpState = v then s else (s.setF F.GRP_STATUS_STATE v).irq 0xC0
/-- The group has committed and has not ended. -/
def State.grpLive (s : State) : Bool := decide (2 ≤ s.grpState ∧ s.grpState ≤ 6)
/-- The group has committed and its alignment to a pulse has passed: leaves are numbered for the group (R410). -/
def State.grpAligned (s : State) : Bool := s.grpLive && s.grp.align.isNone
/-- A context that GRP_CTX names, whether or not it has left the group by a forced halt (R405). -/
def State.grpNamed (s : State) (c : Nat) : Bool := s.flag F.GRP_CFG_EN && bitAt (s.rd Reg.GRP_CTX).toNat c
/-- A context of the group that has not left it. -/
def State.grpCtx (s : State) (c : Nat) : Bool := s.flag F.GRP_CFG_EN && bitAt (s.rd Reg.GRP_CTX).toNat c && !bitAt s.grp.left c
def State.grpCtxs (s : State) : List Nat := (List.range 16).filter s.grpCtx
def State.grpRoot (s : State) : Bool := s.flag F.GRP_CFG_ROOT
def State.horizon (s : State) : Nat := s.f F.GRP_CFG_H
/-- Tree ports by role (Table 15-7): 1 PARENT, 2 CHILD. -/
def State.treePorts (s : State) (role : Nat) : List Nat := (List.range 4).filter (fun p => decide (s.f (F.GRP_PORT_ROLE p) = role))

/-- Send a VC1 frame that originated at `src` on some ports (Table 15-6). -/
def State.grpSendFrom (s : State) (src : Nat) (ports : List Nat) (kind tag arg dst : Nat) (bcast : Bool) (payload : List Byte) : State :=
  s.eachOf ports (fun p s => s.sendFrame p { vc := 1, kind := kind, src := src, dst := dst, bcast := bcast, tag := tag, arg := arg, payload := payload })

/-- Send a VC1 frame of this member. -/
def State.grpSend (s : State) (ports : List Nat) (kind tag arg dst : Nat) (bcast : Bool) (payload : List Byte) : State :=
  s.grpSendFrom (s.f F.GRP_CFG_SELF) ports kind tag arg dst bcast payload

/-- The CHILD ports whose summaries are waited for: all but those that lead only to members removed after a split (R419, R433). -/
def State.kidPorts (s : State) : List Nat :=
  (s.treePorts 2).filter (fun p =>
    let ms := (List.range 16).filter (fun m => s.flag (F.GRP_ROUTE_VALID m) && decide (s.f (F.GRP_ROUTE_PORT m) = p))
    decide (ms = []) || ms.any (fun m => bitAt (s.rd Reg.GRP_MEMBERS).toNat m))

/-- The member index a PARENT port leads to: the lowest member routed through it. -/
def State.parentIndex (s : State) (p : Nat) : Nat :=
  ((List.range 16).find? (fun m => s.flag (F.GRP_ROUTE_VALID m) && decide (s.f (F.GRP_ROUTE_PORT m) = p))).getD 0

/-! ### Judging fails -/

/-- A watch has ended: its WINDOW is used up, or no leaf of its fall-through is left (R170). -/
def Ctx.watchEnded (x : Ctx) (w : Watch) : Bool :=
  decide (w.left = 0) || (decide (x.watch ≠ w.serial) &&
    !x.plan.any (fun p => decide (p.watch = w.serial) && decide (p.seg.leavesLeft ≠ 0)))

/-- Decide a transfer to a watch's target, effective `lat` leaves after leaf `ord` (R170). -/
def Ctx.decideTransfer (x : Ctx) (w : Watch) (ord lat : Nat) : Ctx :=
  if x.xfer.isSome then x else { x with xfer := some (ord + lat, w.target, w.serial), watches := [] }

/-- A leaf has been judged for the watch that holds it: with PASS = 0 a fail transfers; with PASS = 1 a fail ends the watch. -/
def Ctx.judgeWatch (x : Ctx) (group : Bool) (p : PastLeaf) (failed : Bool) (lat : Nat) : Ctx :=
  match x.watches.find? (fun w => decide (w.serial = p.watch) && decide (w.group = group)) with
  | none => x
  | some w =>
    if failed ∧ w.pass = false then x.decideTransfer w p.ord lat
    else if failed then { x with watches := x.watches.filter (fun q => decide (q.serial ≠ w.serial)) }
    else { x with watches := x.watches.map (fun q => if q.serial = w.serial then { q with judged := p.ord } else q) }

/-- Watches that have ended with every leaf judged: PASS = 1 transfers, PASS = 0 is over (R170). -/
def Ctx.closeWatches (x : Ctx) (lat : Watch → Nat) : Ctx :=
  x.watches.foldl (fun x w =>
    if w.begun ∧ x.watchEnded w ∧ w.judged = w.last ∧ x.watches.any (fun q => decide (q.serial = w.serial)) then
      if w.pass then x.decideTransfer w w.last (lat w)
      else { x with watches := x.watches.filter (fun q => decide (q.serial ≠ w.serial)) }
    else x) x

/-- Change the MATCH that plays, by its serial. -/
def Ctx.onMatch (x : Ctx) (serial : Nat) (g : MatchSt → MatchSt) : Ctx :=
  { x with plan := x.plan.map (fun p => match p.seg with
    | .iterate m => if m.serial = serial then { p with seg := .iterate (g m) } else p
    | _ => p) }

/-- A leaf of a MATCH has been judged: at an iteration's last leaf the iteration matches, the MATCH is exhausted, or the next
iteration is judged (R173, R175). `mask` holds the sites that failed in the leaf. -/
def MatchSt.judgeLeaf (m : MatchSt) (p : PastLeaf) (iter : Nat) (last : Bool) (mask active : Nat) : MatchSt :=
  if m.decided.isSome then m
  else
    let acc := (BitVec.ofNat 64 m.acc ||| BitVec.ofNat 64 mask).toNat
    if !last then { m with acc := acc }
    else
      let failed := (BitVec.ofNat 64 acc &&& BitVec.ofNat 64 active).toNat
      let ok := if m.any then decide (failed ≠ active) else decide (failed = 0)
      if ok then { m with acc := 0, decided := some (iter, 0, p.ord) }
      else if m.max ≤ iter then { m with acc := 0, decided := some (0, failed, p.ord) }
      else { m with acc := 0, judge := iter + 1 }

/-- The same under a group MATCH, from the DOWN flags FAIL and ANYPASS of the leaf (R420); `own` holds this member's sites that
failed in the iteration. -/
def MatchSt.judgeGroup (m : MatchSt) (p : PastLeaf) (iter : Nat) (last fail anyPass : Bool) (own : Nat) : MatchSt :=
  if m.decided.isSome then m
  else
    let acc := if fail then 1 else m.acc
    if !last then { m with acc := acc }
    else if (if m.any then anyPass else decide (acc = 0)) then { m with acc := 0, decided := some (iter, 0, p.ord) }
    else if m.max ≤ iter then { m with acc := 0, decided := some (0, own, p.ord) }
    else { m with acc := 0, judge := iter + 1 }

/-- The mask of a context's own sites that are active in a leaf. -/
def State.activeMask (s : State) (c : Nat) (p : PastLeaf) : Nat := (s.leafSites c p).foldl (fun m site => m + 2 ^ site) 0

/-- The local fail summary of a leaf has reached its context (R169 to R175). -/
def State.judgeLocal (s : State) (c : Nat) (p : PastLeaf) : State :=
  let mask := s.failMask c p
  let active := s.activeMask c p
  s.onCtx c (fun x =>
    let x := { x with past := x.past.map (fun (q : PastLeaf) => if q.leaf = p.leaf then { q with fails := mask } else q) }
    let x := x.judgeWatch false p (decide (mask ≠ 0)) 6
    match p.matching with
    | some (serial, iter, last) => x.onMatch serial (fun m => if m.group then m else m.judgeLeaf p iter last mask active)
    | none => x)

/-- The group outcome of a leaf, from its DOWN flags (R420). -/
def State.judgeGroup (s : State) (c leaf flags : Nat) : State :=
  let h := s.horizon
  match (s.ctx c).pastLeaf leaf with
  | none => s
  | some p => s.onCtx c (fun x =>
    let x := x.judgeWatch true p (bitAt flags 0) h
    match p.matching with
    | some (serial, iter, last) =>
      x.onMatch serial (fun m => if m.group then m.judgeGroup p iter last (bitAt flags 0) (bitAt flags 1) p.fails else m)
    | none => x)

/-! ### Summaries -/

/-- A context's contribution to the summary of a leaf (Table 15-3). -/
def State.summaryPart (s : State) (c : Nat) (p : Option PastLeaf) : Nat × State :=
  let x := s.ctx c
  let waits := match x.waiting with
    | some w => decide (s.ctxState c = .wait) && w.group && w.release.isNone
    | none => false
  let stop := decide (s.ctxState c = .stopped)
  let base := 4 * b2n waits + 8 * b2n waits + 32 * b2n stop
  match p with
  | none => (base, s)
  | some p =>
    let mask := s.failMask c p
    match p.matching with
    | some (serial, iter, _) =>
      let old := if x.matchOwn.1 = serial ∧ x.matchOwn.2.1 = iter then x.matchOwn.2.2 else 0
      let own := (BitVec.ofNat 64 old ||| BitVec.ofNat 64 mask).toNat
      let active := s.activeMask c p
      let pass := decide ((BitVec.ofNat 64 own &&& BitVec.ofNat 64 active).toNat ≠ active)
      (base + b2n (decide (mask ≠ 0)) + 2 * b2n pass, s.onCtx c (fun x => { x with matchOwn := (serial, iter, own) }))
    | none => (base + b2n (decide (mask ≠ 0)), s)

/-- Flags combine by OR, ARRIVED by AND (Table 15-3). -/
def joinFlags (a b : Nat) : Nat :=
  let o := (BitVec.ofNat 16 a ||| BitVec.ofNat 16 b).toNat
  setBitTo o 3 (bitAt a 3 && bitAt b 3)

/-- A DOWN summary reaches this member: held, sent on to the children, and applied at once where its leaf is already past the
horizon (R419, R424). -/
def State.takeDown (s : State) (src leaf flags : Nat) : State :=
  let s := s.onGrp (fun g => { g with downs := (leaf, flags) :: g.downs.take 4096 })
  let s := s.grpSendFrom src (s.treePorts 2) 1 (flags % 32768 + 32768) leaf 0 true []
  s.eachOf s.grpCtxs (fun c s => if leaf + s.horizon ≤ (s.ctx c).lcnt + 1 then s.judgeGroup c leaf flags else s)

/-- Own and children's summaries of a leaf combine and go up, or at the sync master come down (R419, R423, R426). -/
def State.combine (s : State) (leaf : Nat) : State :=
  let kids := s.kidPorts
  match s.grp.own.find? (fun q => decide (q.1 = leaf)) with
  | none => s
  | some (_, own) =>
    if kids.all (fun p => s.grp.kids.any (fun q => decide (q.1 = leaf ∧ q.2.1 = p))) then
      let flags := (s.grp.kids.filter (fun q => decide (q.1 = leaf))).foldl (fun m q => joinFlags m q.2.2) own
      let s := s.onGrp (fun g => { g with own := g.own.filter (fun q => decide (q.1 ≠ leaf)), kids := g.kids.filter (fun q => decide (q.1 ≠ leaf)) })
      if s.grpRoot then
        let divergent := bitAt flags 8 && s.grp.frozen.isNone && s.grpLive && decide (s.grpState ≠ 5)
        let s := if divergent then (s.onGrp (fun g => { g with divergent := true, stopReq := true })).setF F.GRP_STATUS_CAUSE 1 else s
        let barrier := bitAt flags 2 && !bitAt flags 3
        let flags0 := flags
        let flags := setBitTo flags 4 (bitAt flags 4 && !barrier)
        let flags := setBitTo flags 5 (bitAt flags 5 || s.grp.stopReq)
        let flags := setBitTo (setBitTo flags 6 s.grp.startReq) 7 s.grp.resumeReq
        let late := s.grpCtxs.any (fun c => decide (leaf + s.horizon ≤ (s.ctx c).lcnt + 2))
        let s := s.onGrp (fun g => { g with startReq := false, resumeReq := false, haltReq := (g.haltReq || bitAt flags0 4) && barrier })
        if late ∧ s.grp.frozen.isSome then s.onGrp (fun g => { g with withheld := (leaf, flags) :: g.withheld })
        else s.takeDown (s.f F.GRP_CFG_SELF) leaf flags
      else
        match s.treePorts 1 with
        | p :: _ => s.grpSend [p] 1 flags leaf (s.parentIndex p) false []
        | [] => s
    else s

/-- At the boundary of L+2 a group context adds its part to the summary of L; with every group context's part it is formed
(R419, R427). -/
def State.formSummary (s : State) (c leaf : Nat) : State :=
  let (flags, s) := s.summaryPart c ((s.ctx c).pastLeaf leaf)
  let s := s.onGrp (fun g => { g with parts := g.parts ++ [(leaf, c, flags)] })
  let mine := s.grp.parts.filter (fun q => decide (q.1 = leaf))
  if ((List.range 16).filter s.grpNamed).all (fun c => mine.any (fun q => decide (q.2.1 = c))) then
    let f := mine.foldl (fun m q => match m with
      | none => some q.2.2
      | some m => some (joinFlags m q.2.2)) none
    let f := f.getD 0
    let f := setBitTo (setBitTo (setBitTo f 4 s.grp.haltReq) 5 (bitAt f 5 || s.grp.stopReq)) 8 (s.grp.frozen.isSome)
    let s := s.onGrp (fun g => { g with parts := g.parts.filter (fun q => decide (q.1 ≠ leaf)), own := g.own ++ [(leaf, f)],
                                        haltReq := g.haltReq && s.grpRoot })
    s.combine leaf
  else s

/-- A decision on every group context, registered so that it acts with context c's decision `d` leaves from leaf n. -/
def State.grpDue (s : State) (c n d : Nat) (x : Due) : State :=
  s.eachOf s.grpCtxs (fun k s => s.addDue k (if k = c then d else d + (n - (s.ctx k).lcnt)) x)

/-- The group run ends: INVALIDATE records with reason GROUP_STOP, every group context stops with status GROUP_STOP (Table 15-4,
R433). -/
def State.grpStop (s : State) (c n : Nat) (cause : Nat) : State :=
  let s := s.eachOf s.grpCtxs (fun k s => if (s.ctxState k).playing ∨ s.ctxState k = .paused then s.invalidate k 2 else s)
  let s := s.grpDue c n 2 (.stop 0x27)
  (s.setF F.GRP_STATUS_CAUSE (if s.f F.GRP_STATUS_CAUSE = 0 then cause else s.f F.GRP_STATUS_CAUSE)).setGrpState 7

/-- The member freezes for want of the DOWN summary of a leaf (R423). -/
def State.grpFreeze (s : State) (c n leaf : Nat) : State :=
  let s := (s.onGrp (fun g => { g with frozen := some (g.frozen.getD leaf) })).setF F.GRP_STATUS_CAUSE 1
  (s.grpDue c n 2 .halt).setGrpState 5

/-- The boundary that starts leaf n takes the DOWN summary of L = n + 2 − H: group commands due two leaves later, the barrier's
release and the fail outcome; or the member freezes (R420, R423, R426, Table 15-4). -/
def State.takeSummary (s : State) (c n : Nat) : State :=
  let h := s.horizon
  if n + 2 < h then s
  else
    let leaf := n + 2 - h
    match s.grp.downs.find? (fun q => decide (q.1 = leaf)) with
    | none => if s.grpState = 5 ∨ s.grpState = 6 then s else s.grpFreeze c n leaf
    | some (_, f) =>
      let s := s.judgeGroup c leaf f
      if bitAt f 5 then s.grpStop c n 3
      else
        let s := if bitAt f 4 ∧ s.grpState = 3 then ((s.addDue c 2 .halt).setF F.GRP_STATUS_CAUSE 5).setGrpState 4
          else if bitAt f 4 ∧ s.grpState = 4 then s.addDue c 2 .halt else s
        let s := if bitAt f 6 then (s.addDue c 2 .start).setGrpState 3 else s
        let s := if bitAt f 7 then (((s.onGrp (fun g => { g with frozen := none })).addDue c 2 .resume).setF F.GRP_STATUS_CAUSE 0).setGrpState 3 else s
        if bitAt f 3 then s.onCtx c (fun x => x.onWait (fun w => if w.group ∧ w.release = none then { w with release := some 3 } else w)) else s

end Sys2Proof.Machine
end

