-- ==== Sys2Proof/Machine/Leaf.lean ====
section
/-! DEFINITION. Leaf boundaries: what a context decides there, which leaf it starts, and what the leaf's first vector brings
(01_organisation.md R20 to R29, 06_reader.md R157 to R188). -/
namespace Sys2Proof.Machine

/-! ### Starting a leaf -/

/-- A marker record (Table 10-5 MARKER), where LDG_CTX_CFG.MARK_REC is 1. -/
def State.markRecord (s : State) (c value cn fleaf vec src : Nat) : State :=
  if s.flag (F.LDG_CTX_CFG_MARK_REC c) then
    s.ctxEvent c 4 16 (leBytes value 4 ++ leBytes cn 4 ++ leBytes fleaf 4 ++ leBytes vec 1 ++ leBytes src 1)
  else s

/-- SITEMASK takes effect: half of the active site mask, and with PARK the sites it makes inactive park (R153). -/
def State.applyMask (s : State) (c half m : Nat) (park : Bool) : State :=
  let old := (s.rd (if half = 0 then Reg.RDR_SITE_ACT_LO c else Reg.RDR_SITE_ACT_HI c)).toNat
  let x := s.ctx c
  let lost := (List.range 32).filter (fun i => bitAt old i && !bitAt m i)
  let parked := (List.range 32).foldl (fun p i =>
    if bitAt m i then setBitTo p (32 * half + i) false else if park ∧ i ∈ lost then setBitTo p (32 * half + i) true else p) x.parkedSites
  let s := (s.wr (if half = 0 then Reg.RDR_SITE_ACT_LO c else Reg.RDR_SITE_ACT_HI c) (BitVec.ofNat 32 m)).onCtx c (fun x => { x with parkedSites := parked })
  if park then
    s.eachOf (s.channelsOf c) (fun ch s =>
      if s.flag (F.CHN_SITE_VALID ch) ∧ (lost.any (fun i => decide (32 * half + i = s.f (F.CHN_SITE_SITE ch)))) then s.park ch else s)
  else s

/-- The effects of leafless words at the first vector of a leaf (R157). -/
def State.applyPre (s : State) (c : Nat) (q : PastLeaf) (p : PreEffect) : State :=
  match p with
  | .tset v => s.onCtx c (fun x => { x with override := v })
  | .period k w f => ((s.setF (F.RDR_PER_HI_WHOLE_HI c k) (w / 65536)).setF (F.RDR_PER_LO_WHOLE_LO c k) w).setF (F.RDR_PER_LO_FRAC c k) f
  | .mask half m park => s.applyMask c half m park
  | .mark v => s.markRecord c v q.cn q.fleaf 0 1
  | .watch serial => s.onCtx c (fun x => { x with watches := x.watches.map (fun w =>
      if w.serial = serial then { w with begun := true, last := q.ord - 1, judged := q.ord - 1 } else w) })

/-- The channel takes the leaf's vectors: connected to the pin electronics, not parked by its fence or its site. -/
def State.playsLeaf (s : State) (c ch : Nat) : Bool :=
  decide ((s.chan ch).conn = 1 ∨ (s.chan ch).conn = 3) && s.chPowered ch &&
  (!s.chFenced ch || (s.ctx c).due.any (fun d => decide (d.2 = .fence ch))) &&
  !(s.flag (F.CHN_SITE_VALID ch) && bitAt (s.ctx c).parkedSites (s.f (F.CHN_SITE_SITE ch)))

/-- Start times of 32 vectors and the end of the last, from the leaf's start (R102, R105). -/
def State.vectorStarts (s : State) (c st : Nat) (ts : List Nat) : List Nat :=
  ts.foldl (fun l k => l ++ [l.getLast?.getD st + s.period c k]) [st]

/-- A pulse on the context's marker line: one leaf or 10 ns, whichever is longer (R188); it is an EXT source (R336). -/
def State.markPulse (s : State) (c len : Nat) : State :=
  if s.flag (F.RDR_MARK_CFG_EN c) then (s.emit (.trigPulse (s.f (F.RDR_MARK_CFG_TRIG c)) (Nat.max len 131072))).acqExt (0x20 + c) else s

/-- Start leaf n of a context: what the words before it do, the vectors issued to its channels, markers, and the position it
leaves the period domain at. `q` says what the leaf is; a special folio's leaf keeps its own timing-set numbers (R163). -/
def State.startLeaf (s : State) (c n : Nat) (src : LeafSrc) (data : Leaf) (pre : List PreEffect) (q : PastLeaf) : State :=
  let own := match src with
    | .idle _ | .hold _ | .park => true
    | _ => false
  let s := s.onCtx c (fun x => { x with lcnt := n, lwrap := x.lwrap || decide (n % 2 ^ 48 = 0 ∧ n ≠ 0), curSrc := src, sinceOpen := x.sinceOpen + 1 })
  let s := s.eachOf pre (fun p s => s.applyPre c q p)
  let x := s.ctx c
  let ts := match own, x.override with
    | false, some o => List.replicate 32 o
    | _, _ => data.tsets
  let starts := s.vectorStarts c x.acc ts
  let fin := starts.getLast?.getD x.acc
  let s := s.onCtx c (fun x => { x with cur := { data with tsets := ts } })
  let sites := s.siteAct c
  let s := if src = .park then s.eachOf (s.channelsOf c) (fun ch s => if (s.chan ch).ctl = .parked then s else s.park ch)
    else
      let q := { q with leaf := n, sites := sites }
      let s := if own then s else s.onCtx c (fun x => { x with past := x.past ++ [q] })
      s.eachOf (s.channelsOf c) (fun ch s =>
        if s.playsLeaf c ch then
          let syms := SMap.get 0 data.syms ch
          s.each 32 (fun i s => s.issue c ch (starts.getD i 0) (ts.getD i 0) (bitsAt syms (4 * i) 4) (32 * n + i) (q.pattern && bitAt q.cap i))
        else s)
  let len := (fin - x.acc) / 65536
  let s := if pre.any (fun p => match p with | .mark _ => true | _ => false) then s.markPulse c len else s
  let s := if q.pattern then s.eachOf (bitList data.mrk 32) (fun i s => (s.markRecord c 0 q.cn q.fleaf i 0).markPulse c len) else s
  s.onCtx c (fun x => { x with acc := fin })

/-! ### Ending a leaf -/

/-- Mismatches of a FOLIO receiver in the leaf that ends: every compared bit while its clock recovery is not locked or its group is
stopped (R400, R403). -/
def State.laneMismatch (s : State) (j : Nat) (expect got : List Byte) : List Nat :=
  let n := 8 * expect.length
  if !s.flag (F.LNK_DL_STATUS_CDR_LOCK j) || (s.dlane j).stopped then List.range n
  else (List.range n).filter (fun i => bitAt (ofLe expect) i ≠ bitAt (ofLe got) i)

/-- The FOLIO receivers of the leaf that ends give their fails and counts (R282, R400, R404). -/
def State.endLanes (s : State) (c : Nat) (rx : List (Nat × List Byte)) : State :=
  let x := s.ctx c
  s.each 16 (fun j s =>
    match SMap.get none x.cur.rx j with
    | none => s
    | some e =>
      if s.f (F.LNK_DL_CFG_CTX j) ≠ c ∨ s.f (F.LNK_DL_CFG_RX_MODE j) ≠ 6 then s
      else
        let bits := 8 * e.length
        let bad := s.laneMismatch j e (((rx.find? (fun q => decide (q.1 = j))).map (fun q => q.2)).getD [])
        let s := if s.flag (F.LNK_DL_STATUS_CDR_LOCK j) then s else s.setFlag (F.LNK_DL_STATUS_UNLOCK j) true
        let s := s.onDlane j (fun d => { d with bits := (d.bits + bits) % 2 ^ 48, wrap := d.wrap || decide (2 ^ 48 ≤ d.bits + bits),
                                                errs := satAdd 0xFFFFFFFF d.errs bad.length })
        s.eachOf ((List.range 32).filter (fun v => bad.any (fun i => decide (32 * i / bits = v)))) (fun v s =>
          s.onResult c x.lcnt v (fun r => { r with lanes := setBitTo r.lanes j true })))

/-- The leaf now playing ends: its lanes, its vectors (R189). -/
def State.endLeaf (s : State) (c : Nat) (rx : List (Nat × List Byte)) : State :=
  let s := s.endLanes c rx
  if (s.ctx c).curSrc = .park then s
  else s.onCtx c (fun x => { x with vcnt := x.vcnt + 32, vwrap := x.vwrap || decide ((x.vcnt + 32) / 2 ^ 48 ≠ x.vcnt / 2 ^ 48) })

/-- At the boundary that starts leaf n the results of leaf n − 3 reach the Ledger, the engines and the group's summary, and
those of leaf n − 4 the context's own conditions (Table 1-4, R278, R331, R419). -/
def State.reportLeaves (s : State) (c n : Nat) : State :=
  let s := if 3 ≤ n then
      let s := match (s.ctx c).pastLeaf (n - 3) with
        | some p => (s.ledgerLeaf c p).cmpSample c p
        | none => s
      if s.grpNamed c ∧ s.grpAligned then s.formSummary c (n - 3) else s
    else s
  let s := if 4 ≤ n then (match (s.ctx c).pastLeaf (n - 4) with
      | some p => s.judgeLocal c p
      | none => s) else s
  let h := s.horizon
  s.onCtx c (fun x => { x.closeWatches (fun w => if w.group then h else 6) with
    results := x.results.filter (fun r => decide (n < r.leaf + 4)), past := x.past.filter (fun p => decide (n < p.leaf + 4) || decide (x.ord < p.ord + 1030) && decide (s.grpCtx c = true)) })

/-! ### Stops, halts and holds -/

/-- RDR_POS and RDR_LOOP_CNT of a segment (Table 6-14). -/
def State.showPos (s : State) (c : Nat) (p : PlanSeg) : State :=
  let s := ((s.setF (F.RDR_POS_WORD c) p.word).setF (F.RDR_POS_LOOP_DEPTH c) p.loops.length).setF (F.RDR_POS_CALL_DEPTH c) p.calls
  s.each 8 (fun j s => s.wr (Reg.RDR_LOOP_CNT c j) (BitVec.ofNat 32 (p.loops.getD j 0)))

/-- A special folio's leaf k, with its expect tracks left out (R163). -/
def specialLeaf (l : List Leaf) (k : Nat) : Leaf := { l.getD (k % Nat.max 1 l.length) {} with rx := [], cap := 0, mrk := 0 }

/-- Play the idle folio's next leaf (ARMED). -/
def State.playIdle (s : State) (c n : Nat) : State :=
  let x := s.ctx c
  (s.startLeaf c n (.idle x.special) (specialLeaf x.idleF x.special) [] { leaf := n, ord := x.ord }).onCtx c (fun x => { x with special := x.special + 1 })

/-- A leaf of park: 32 periods of the last vector, channels parked. -/
def State.playPark (s : State) (c n : Nat) : State :=
  s.startLeaf c n .park { tsets := List.replicate 32 ((s.ctx c).cur.tsets.getD 31 0) } [] { leaf := n, ord := (s.ctx c).ord }

/-- A leaf outside the pattern: the hold folio, or park (R163). -/
def State.playHoldOr (s : State) (c n : Nat) (folio : Bool) : State :=
  if folio then
    let x := s.ctx c
    (s.startLeaf c n (.hold x.special) (specialLeaf x.holdF x.special) [] { leaf := n, ord := x.ord }).onCtx c (fun x => { x with special := x.special + 1 })
  else s.playPark c n

/-- A halt request lost to a higher rank (R28, R180). -/
def State.haltLost (s : State) (c : Nat) (lost : Bool) : State := if lost then s.setFlag (F.RDR_STATUS_HALT_LOST c) true else s

/-- The context becomes PAUSED at leaf n (R180). -/
def State.pauseCtx (s : State) (c n : Nat) (before : CtxState) : State :=
  ((s.onCtx c (fun x => { x with before := before, special := 0 })).setCtxState c .paused).playHoldOr c n (s.flag (F.RDR_CFG_HOLD_EN c))

/-- The context stops at leaf n with a code and a place: records, the pins parked from this leaf (R186, Table 6-8). -/
def State.stopHere (s : State) (c code cn leaf addr : Nat) : State :=
  let s := if code = 0x20 then s.ctxEvent c 8 16 (leBytes addr 8 ++ leBytes cn 4 ++ leBytes leaf 4) else s
  (s.stopCtx c code 0).markStop c cn leaf addr

/-- A forced halt: INVALIDATE records, the group left, STOPPED and parked (R181). -/
def State.forceStop (s : State) (c : Nat) : State :=
  let s := s.invalidate c 1
  let s := if s.grpCtx c then s.onGrp (fun g => { g with left := setBitTo g.left c true }) else s
  s.stopHere c 0x25 (s.ctx c).place.1 (s.ctx c).place.2 0

/-- Why the leaf that is due is absent, as LIB_CTX_STATUS.CAUSE (R184, R215, R221). -/
def State.absentCause (s : State) (c : Nat) (id leaf : Nat) : Nat :=
  match (s.ctx c).folio id with
  | none => if (s.ctx c).lack = 0 then 2 else (s.ctx c).lack
  | some f =>
    if s.copies f.entry ≠ [] then 2
    else if !entryStream f.entry then 1
    else match (s.staging c).find? (fun x => decide (x.cn = f.cn ∧ x.leaf = leaf + 1)) with
      | some x => if x.fits f.entry then 3 else 4
      | none => 3

/-- A starvation hold from leaf n, or the run's end (R184). -/
def State.starve (s : State) (c n cn id leaf : Nat) (lost : Bool) : State :=
  let cause := s.absentCause c id leaf
  let s := ((s.setF (F.LIB_CTX_STATUS_CAUSE c) cause).setFlag (F.RDR_STATUS_HELD c) true).haltLost c lost
  let parks := s.flag (F.RDR_CFG_STARVE_PARK c)
  let fin := s.flag (F.RDR_CFG_STARVE_END c)
  let s := s.onCtx c (fun x => { x with lcnt := n })
  let s := s.ctxEvent c 6 16 (leBytes cause 1 ++ leBytes (if fin then 2 else if parks then 1 else 0) 1 ++ leBytes 0 2 ++ leBytes cn 4 ++ leBytes leaf 4)
  if fin then (s.stopHere c 0x22 cn leaf 0)
  else ((s.onCtx c (fun x => { x with held := 0, special := 0 })).setCtxState c .hold).playHoldOr c n (!parks)

/-- END: the run ends with the last leaf before it; with REARM the context is ARMED again and plays its idle folio (R182). -/
def State.endRun (s : State) (c n : Nat) (pre : List PreEffect) : State :=
  let s := s.eachOf pre (fun p s => match p with
    | .mark v => s.markRecord c v 0 0 0 1
    | _ => s)
  let s := s.ctxEvent c 0x0C 16 (leBytes 0 1 ++ leBytes 0 1 ++ leBytes (s.f (F.RDR_POS_WORD c)) 2 ++ leBytes 0 4 ++ leBytes ((s.ctx c).vcnt % 2 ^ 48) 8)
  if s.flag (F.RDR_CFG_REARM c) then
    let s := (s.wr (Reg.RDR_SITE_ACT_LO c) (s.rd (Reg.RDR_SITE_INIT_LO c))).wr (Reg.RDR_SITE_ACT_HI c) (s.rd (Reg.RDR_SITE_INIT_HI c))
    let s := s.onCtx c (fun x => { x.clearRun with ended := false, pos := s.f (F.RDR_SEQ_ENTRY_WORD c), special := 0, sinceOpen := 8 })
    ((s.setCtxState c .armed).prime c 200).playIdle c n
  else
    let s := (s.onCtx c Ctx.clearRun).setCtxState c .idle
    s.eachOf (s.channelsOf c) (fun ch s => s.static ch)

/-! ### Playing the program -/

/-- A program leaf is counted, and the watch it lies in (R170). -/
def State.countLeaf (s : State) (c : Nat) (w : Nat) : Nat × State :=
  let x := s.ctx c
  let live := x.watches.any (fun q => decide (q.serial = w) && decide (q.left ≠ 0))
  (if live then w else 0,
   s.onCtx c (fun x => { x with ord := x.ord + 1, watches := x.watches.map (fun q =>
     if q.serial = w ∧ q.left ≠ 0 then { q with left := q.left - 1, last := x.ord + 1 } else q) }))

/-- Drop the segment at the head. -/
def Ctx.pop (x : Ctx) : Ctx := { x with plan := x.plan.tail }
/-- Change the segment at the head, its effects taken. -/
def Ctx.setHead (x : Ctx) (seg : Seg) : Ctx :=
  match x.plan with
  | p :: ps => { x with plan := { p with seg := seg, pre := [] } :: ps }
  | [] => x

/-- Play a leaf of a segment: position, state, the watch, the leaf. -/
def State.playSeg (s : State) (c n : Nat) (p : PlanSeg) (src : LeafSrc) (data : Leaf) (next : Seg) (q : PastLeaf) : State :=
  let st := match p.seg with
    | .wait _ => CtxState.wait
    | _ => .play
  let s := (s.showPos c p).setCtxState c st
  -- the watch of a BRANCH just before this leaf begins here, so the leaf counts in it
  let (w, s) := s.countLeaf c p.watch
  let q := { q with leaf := n, ord := (s.ctx c).ord, watch := w }
  let s := s.onCtx c (fun x => x.setHead next)
  let s := s.startLeaf c n src data (p.pre.filter (fun e => match e with | .watch _ => false | _ => true)) q
  s.onCtx c (fun x => { x with watches := x.watches.map (fun v =>
    if p.pre.any (fun e => decide (e = .watch v.serial)) then
      { v with begun := true, judged := q.ord - 1, last := if w = v.serial then q.ord else q.ord - 1 } else v) })

/-- A fill leaf between a short folio and a delayed first leaf (R145, R146). -/
def State.playFill (s : State) (c n : Nat) (p : PlanSeg) : State :=
  let x := s.ctx c
  let s := s.setFlag (F.RDR_STATUS_FILL c) true
  s.playSeg c n { p with pre := [] } (.fill x.lastAt.1 x.lastAt.2) { x.lastLeaf with cap := 0, mrk := 0, tx := [], rx := [] } p.seg { leaf := n, ord := 0 }
    |>.onCtx c (fun x => { x with plan := match x.plan with
      | h :: t => { h with pre := p.pre } :: t
      | [] => [] })

/-- A leaf of an opened folio, if it arrived by the boundary of M − 3: a hold, a fill before it, or the leaf (R30, R145, R184). -/
def State.playCached (s : State) (c n : Nat) (p : PlanSeg) (f : OpenFolio) (k : Nat) (opens lost : Bool) (next : Seg)
    (matching : Option (Nat × Nat × Bool)) : State :=
  let x := s.ctx c
  match x.cached f.id k with
  | none => s.starve c n f.cn f.id k lost
  | some l =>
    if n < l.at_ + 3 ∧ l.at_ ≠ 0 then s.starve c n f.cn f.id k lost
    else if opens ∧ x.sinceOpen < 8 then s.playFill c n p
    else
      let s := s.onCtx c (fun x => { x with lastLeaf := l.data, lastAt := (f.id, k), sinceOpen := if opens then 0 else x.sinceOpen })
      s.playSeg c n p (.pattern f.id k) l.data next
        { leaf := n, ord := 0, cn := f.cn, fleaf := k, pattern := true, cap := l.data.cap, matching := matching }

/-- A leaf of an opened folio, or the stop before it (R109, R148, R186). -/
def State.playFolioLeaf (s : State) (c n : Nat) (p : PlanSeg) (id k : Nat) (opens lost : Bool) (next : Seg)
    (matching : Option (Nat × Nat × Bool)) : State :=
  match (s.ctx c).folio id with
  | none => s.starve c n 0 id k lost
  | some f =>
    match f.badLeaf with
    | some (b, code, a) =>
      if b = k then ((s.showPos c p).haltLost c lost).stopHere c code f.cn k a
      else s.playCached c n p f k opens lost next matching
    | none => s.playCached c n p f k opens lost next matching

/-- Where the next leaf of the plan lies: call number, opened folio and leaf, for a hold (R184). -/
def Ctx.due? (x : Ctx) : Nat × Nat × Nat :=
  match x.plan with
  | p :: _ => match p.seg with
    | .folio q _ => (((x.folio q.id).map (fun f => f.cn)).getD 0, q.id, q.next)
    | .iterate m => (((x.folio m.id).map (fun f => f.cn)).getD 0, m.id, m.k)
    | _ => (0, 0, 0)
  | [] => (0, 0, 0)

/-! ### Waiting -/

/-- The condition of a WAIT or SYNC at the boundary reached (R164 to R167, R176). -/
def State.waitHolds (s : State) (c : Nat) (w : WaitSt) : Bool :=
  let x := s.ctx c
  match w.sync with
  | some m => w.seen || (bitList m 16).all (fun k => decide (s.ctxState k = .wait) &&
      (match (s.ctx k).waiting with
       | some v => decide (v.sync = some m)
       | none => false))
  | none =>
    if w.group then false
    else match w.src with
      | 0 => if w.edge < 2 then w.seen else bitAt (s.f F.IRQ_EVT_LEVEL_LEVEL) w.index = decide (w.edge = 2)
      | 1 => if w.edge < 2 then w.seen else bitAt s.fcl.trig w.index = decide (w.edge = 2)
      | 2 => bitAt x.fabric w.index
      | 3 => bitAt x.acq w.index
      | 4 => bitAt x.tim w.index
      | 5 => decide (w.timeout * 2 ^ 33 ≤ x.acc - w.start)
      | 6 => bitAt (s.f (F.RDR_HOSTFLAG_FLAGS c)) w.index
      | _ => false

/-- A WAIT that releases on an event clears that latch (R165); a local SYNC that completes does so for every named context. -/
def State.waitTaken (s : State) (c : Nat) (w : WaitSt) : State :=
  match w.sync with
  | some m => s.eachOf (bitList m 16) (fun k s => s.onCtx k (fun x => x.onWait (fun v => if v.sync = some m then { v with seen := true } else v)))
  | none =>
    match w.src with
    | 2 => s.onCtx c (fun x => { x with fabric := setBitTo x.fabric w.index false })
    | 3 => s.onCtx c (fun x => { x with acq := setBitTo x.acq w.index false })
    | 4 => s.onCtx c (fun x => { x with tim := setBitTo x.tim w.index false })
    | 6 => s.setF (F.RDR_HOSTFLAG_FLAGS c) (setBitTo (s.f (F.RDR_HOSTFLAG_FLAGS c)) w.index false)
    | _ => s

/-- A local SYNC realigns its contexts where their current periods are equal: the next word starts at the latest start among
them, at a master-clock edge (R414). The start of context k's next word is taken from the leaves its release still plays. -/
def State.syncStart (s : State) (c m : Nat) : Nat :=
  let ks := bitList m 16
  let per := fun k => s.period k ((s.ctx k).cur.tsets.getD 31 0)
  if ks.all (fun k => decide (per k = per c)) then
    let st := fun k => (s.ctx k).acc + (match ((s.ctx k).waiting).map (fun w => if w.sync = some m then w.release else none) with
      | some (some r) => (r - 1) * 32 * per k
      | some none => if k = c then 0 else match (s.ctx k).waiting with
          | some w => if w.sync = some m then 2 * 32 * per k else 0
          | none => 0
      | none => 0)
    let t := ks.foldl (fun t k => Nat.max t (st k)) (s.ctx c).acc
    ceilDiv t (4096 * 65536) * (4096 * 65536)
  else (s.ctx c).acc

/-- What the head's WAIT does at this boundary: its next state, and whether it has released (R166). -/
def State.waitStep (s : State) (c : Nat) (w : WaitSt) : State × WaitSt × Bool :=
  match w.release with
  | some r => if r ≤ 1 then (s, w, true) else (s, { w with release := some (r - 1) }, false)
  | none =>
    if w.leaves = 0 ∨ w.expired then (s, w, false)
    else if s.waitHolds c w then (s.waitTaken c w, { w with release := some 2 }, false)
    else if w.src ≠ 5 ∧ w.timeout ≠ 0 ∧ w.timeout ≤ w.leaves then (s, { w with expired := true }, false)
    else (s, w, false)

/-! ### MATCH -/

/-- A MATCH leaves: its record, and after exhaustion one fail for each site that failed in iteration MAX (R174, R175). -/
def State.leaveMatch (s : State) (c : Nat) (m : MatchSt) (it failed : Nat) : State :=
  let s := if it = 0 then
      let s := s.setFlag (F.RDR_STATUS_MATCH_EXHAUSTED c) true
      s.eachOf ((s.sitesOf c).filter (bitAt failed)) (fun site s => s.countFails site (s.ctx c).lcnt 1)
    else s
  s.ctxEvent c 5 16 (leBytes m.word 2 ++ leBytes (b2n m.group + 2 * b2n m.any) 1 ++ leBytes 0 1 ++ leBytes it 4 ++
    leBytes (m.iter - (if it = 0 then m.max else it)) 4)

/-! ### The next program leaf -/

/-- Transfer control to a BRANCH target (R170): the fall-through and what it opened are abandoned, and the prefetcher restarts. -/
def State.transfer (s : State) (c target serial : Nat) : State :=
  let s := s.onCtx c (fun x =>
    let calls := ((x.watchCalls.find? (fun p => decide (p.1 = serial))).map (fun p => p.2)).getD []
    { x with plan := [], pos := target, calls := calls, loops := [], susp := none, pre := [], watch := 0, ended := false, xfer := none,
             watches := [], watchCalls := [], lack := 0 })
  ((s.setStaging c []).prime c 200)

/-- The leaf that is due cannot play: a stop before it, or it is absent (ranks 2 and 3 of Table 1-5). -/
def State.blocked (s : State) (c n : Nat) : Bool :=
  let x := s.ctx c
  let bad := fun (id k : Nat) => match x.folio id with
    | none => true
    | some f => (match f.badLeaf with
        | some (b, _, _) => decide (b = k)
        | none => false) || (match x.cached id k with
        | none => true
        | some l => decide (n < l.at_ + 3 ∧ l.at_ ≠ 0))
  match x.plan with
  | [] => !x.ended
  | p :: _ => match p.seg with
    | .folio q _ => decide (q.next < q.upto) && bad q.id q.next
    | .iterate m => bad m.id m.k
    | .stopAt _ _ _ _ => true
    | _ => false

/-- The program's next leaf, or what stands in its place (R157, R170, R173, R178, R182, R184). `lost`: a halt falls on this leaf,
and is lost to what outranks it. -/
def State.playNext (s : State) (c n : Nat) (lost : Bool) : Nat → State
  | 0 => s.playPark c n
  | fuel + 1 =>
    let x := s.ctx c
    let go := match x.xfer with
      | some (o, t, serial) => if o ≤ x.ord + 1 then some (t, serial) else none
      | none => none
    match go, x.plan with
    | some (t, serial), _ => (s.transfer c t serial).playNext c n lost fuel
    | none, [] => s.starve c n 0 0 0 lost
    | none, p :: _ =>
      match p.seg with
      | .folio q b =>
        if q.upto ≤ q.next then ((s.onCtx c Ctx.pop).playNext c n lost fuel)
        else s.playFolioLeaf c n p q.id q.next (decide (q.next = 0) && !b) lost (.folio { q with next := q.next + 1 } b) none
      | .wait w =>
        match s.waitStep c w with
        | (s, _, true) =>
          let s := match w.sync with
            | some m => let t := s.syncStart c m; s.onCtx c (fun x => { x with acc := t })
            | none => s
          (s.onCtx c Ctx.pop).playNext c n lost fuel
        | (s, w, false) =>
          let l := if w.holdFolio then x.holdF else x.idleF
          s.playSeg c n p (if w.holdFolio then .hold w.k else .idle w.k) (specialLeaf l w.k)
            (.wait { w with leaves := w.leaves + 1, k := w.k + 1, start := if w.leaves = 0 then x.acc else w.start }) { leaf := n, ord := 0 }
      | .holdWord left k =>
        if left = 0 then (s.onCtx c Ctx.pop).playNext c n lost fuel
        else s.playSeg c n p (.hold k) (specialLeaf x.holdF k) (.holdWord (left - 1) (k + 1)) { leaf := n, ord := 0 }
      | .iterate m =>
        let lat := if m.group then s.horizon else 6
        match m.decided with
        | some (it, failed, o) =>
          if m.k = 0 ∧ 1 < m.iter ∧ o + lat ≤ x.ord + 1 then
            ((s.leaveMatch c { m with iter := m.iter - 1 } it failed).onCtx c Ctx.pop).playNext c n lost fuel
          else s.playFolioLeaf c n p m.id m.k false lost
            (.iterate (if m.k + 1 = m.leaves then { m with iter := m.iter + 1, k := 0 } else { m with k := m.k + 1 }))
            (some (m.serial, m.iter, decide (m.k + 1 = m.leaves)))
        | none => s.playFolioLeaf c n p m.id m.k (decide (m.iter = 1 ∧ m.k = 0)) lost
            (.iterate (if m.k + 1 = m.leaves then { m with iter := m.iter + 1, k := 0 } else { m with k := m.k + 1 }))
            (some (m.serial, m.iter, decide (m.k + 1 = m.leaves)))
      | .halt => ((s.showPos c p).onCtx c Ctx.pop).pauseCtx c n .play
      | .endRun => (s.showPos c p).endRun c n p.pre
      | .stopAt code cn leaf addr => (((s.showPos c p).haltLost c lost).stopHere c code cn leaf addr)

end Sys2Proof.Machine
end

