-- ==== Sys2Proof/Machine/Pmu.lean ====
section
/-! DEFINITION. The PMU and decimation commands (11_pmu_and_decimation.md). -/
namespace Sys2Proof.Machine

/-- The PMU registers of a channel take effect; a change of mode, range or force code settles (R306, R308, R312). -/
def State.pmuApply (s : State) (ch : Nat) : State :=
  let p := s.pmu ch
  let c := s.rd (Reg.PMU_CTRL ch)
  let f := s.rd (Reg.PMU_FORCE ch)
  let k := s.rd (Reg.PMU_CLAMP ch)
  s.setPmu ch { p with ctrl := c, force := f, clamp := k,
                       settling := p.settling || decide (p.ctrl ≠ c) || decide (p.force ≠ f),
                       clampNow := p.clampNow && decide (p.ctrl = c) }

/-- Only MODE takes effect; IRANGE waits for the leaf boundary. -/
def State.pmuApplyMode (s : State) (ch : Nat) : State :=
  let p := s.pmu ch
  let c : Word := BitVec.ofNat 32 (setBits p.ctrl.toNat 0 3 (s.f (F.PMU_CTRL_MODE ch)))
  s.setPmu ch { p with ctrl := c, settling := p.settling || decide (p.ctrl ≠ c), clampNow := p.clampNow && decide (p.ctrl = c) }

/-- A write of MODE lets a PMU stopped by R314 force again once its fence, Safe or Self-test has gone. -/
def State.pmuAllow (s : State) (ch : Nat) : State :=
  if s.chFenced ch ∨ s.mode = .safe ∨ s.mode = .selftest then s else s.onPmu ch (fun p => { p with stopped := false })

/-- PMU_CTRL_WRITE (R304, R312, R314): MODE under its WL code, IRANGE under LIVE. -/
def execPmuCtrlWrite (ch : Nat) (w : BusWrite) (s : State) : Host.Outcome State Fault Refusal :=
  .next (s.onWrite (Reg.PMU_CTRL ch) w (fun s =>
    ((s.atCharacterise ch (.pmu ch) (fun s => s.pmuApplyMode ch)).atLeaf ch (.pmu ch) (fun s => s.pmuApply ch)).pmuAllow ch))

/-- PMU_FORCE_WRITE (R306, R307). -/
def execPmuForceWrite (ch : Nat) (w : BusWrite) (s : State) : Host.Outcome State Fault Refusal :=
  .next (s.onWrite (Reg.PMU_FORCE ch) w (fun s => s.atLeaf ch (.pmu ch) (fun s => s.pmuApply ch)))

/-- PMU_CLAMP_WRITE (R308). -/
def execPmuClampWrite (ch : Nat) (w : BusWrite) (s : State) : Host.Outcome State Fault Refusal :=
  .next (s.onWrite (Reg.PMU_CLAMP ch) w (fun s => s.atLeaf ch (.pmu ch) (fun s => s.pmuApply ch)))

/-- The connected route of a channel (R82, R309). -/
def State.senseRoute (s : State) (ch : Nat) : Bool :=
  decide ((s.chan ch).conn = 2 ∨ (s.chan ch).conn = 3) &&
    (List.range 4).any (fun k => s.flag (F.PMU_SENSE_EN (bayOfCh ch) k) && decide (s.f (F.PMU_SENSE_CHANNEL (bayOfCh ch) k) = ch % 64))

/-- PMU_SENSE_WRITE (R309, R310, R312): the channels that lose or gain the route settle. -/
def execPmuSenseWrite (b k : Nat) (w : BusWrite) (s : State) : Host.Outcome State Fault Refusal :=
  let old := s.f (F.PMU_SENSE_CHANNEL b k)
  let was := s.rd (Reg.PMU_SENSE b k)
  .next (s.onWrite (Reg.PMU_SENSE b k) w (fun s =>
    if s.rd (Reg.PMU_SENSE b k) = was then s
    else
      (s.onPmu (64 * b + old) (fun p => { p with settling := true })).onPmu (64 * b + s.f (F.PMU_SENSE_CHANNEL b k))
        (fun p => { p with settling := true })))

/-- SENSE_OPEN (R311): a forcing PMU with a connected route turns to its own ball, with a Note-class fault. -/
def execSenseOpen (ch : Nat) (s : State) : Host.Outcome State Fault Refusal :=
  .next (
    if s.pmuForcing ch && s.senseRoute ch && !s.flag (F.PMU_STATUS_SENSE_OPEN ch) then
      (s.setFlag (F.PMU_STATUS_SENSE_OPEN ch) true).enter (unitCode 1 ch) 0x1B 0 0 .held false
    else s)

/-- PMU_SETTLED (R312). -/
def execPmuSettled (ch : Nat) (s : State) : Host.Outcome State Fault Refusal :=
  .next (s.onPmu ch (fun p => { p with settling := false }))

/-- PMU_CLAMP_ENGAGE (R308): CLAMP_NOW follows the clamp, CLAMP is sticky. -/
def execPmuClampEngage (ch : Nat) (engaged : Bool) (s : State) : Host.Outcome State Fault Refusal :=
  .next (
    if engaged && s.pmuForcing ch then (s.onPmu ch (fun p => { p with clampNow := true })).setFlag (F.PMU_STATUS_CLAMP ch) true
    else s.onPmu ch (fun p => { p with clampNow := false }))

/-- FLT_CH takes effect: setting EN or changing PRESET or PHASE restarts the chain (R320, R321). -/
def State.fltApply (s : State) (ch : Nat) : State :=
  let old := (s.pmu ch).flt
  let nw := s.rd (Reg.FLT_CH ch)
  let s := s.onPmu ch (fun p => { p with flt := nw })
  if old = nw then s else s.fltRestart ch

/-- FLT_CH_WRITE (R320, R321). -/
def execFltChWrite (ch : Nat) (w : BusWrite) (s : State) : Host.Outcome State Fault Refusal :=
  .next (s.onWrite (Reg.FLT_CH ch) w (fun s => s.atCharacterise ch (.flt ch) (fun s => s.fltApply ch)))

/-- The sample word of Table 11-6: saturation at the word's range carries OVERLOAD (R322). -/
def sampleWord (value : Int) (valid clamp overload settling : Bool) (unit : Nat) : Nat :=
  let v : Int := if value < -8388608 then -8388608 else if 8388607 < value then 8388607 else value
  unsigned 24 v * 256 + 128 * b2n valid + 64 * b2n clamp + 32 * b2n (overload || decide (v ≠ value)) + 16 * b2n settling + unit

/-- The grid count of an engine is decided once every selected input has reported: a sample, or a gap (R330). -/
def State.acqGrid (s : State) (e : Nat) : State :=
  let a := s.acq e
  let b := if s.flag (F.ACQ_SRC_B_EN e) then a.gotB else some (some 0)
  match a.gotA, b with
  | some ga, some gb =>
    let s := s.onAcq e (fun x => { x with gotA := none, gotB := none })
    match ga, gb with
    | some wa, some wb => s.acqArrive e wa wb
    | _, _ => (s.satInc (F.ACQ_GAP e)).maskAdvance e
  | _, _ => s

/-- One input of an ARMED PMU engine reports a word or its lack at a grid count. -/
def State.acqReport (s : State) (ch e : Nat) (word : Option Nat) : State :=
  if s.acqArmed e && decide (s.f (F.ACQ_SRC_KIND e) = 0) then
    let isA := decide (s.f (F.ACQ_SRC_CH_A e) = ch % 64)
    let isB := s.flag (F.ACQ_SRC_B_EN e) && decide (s.f (F.ACQ_SRC_CH_B e) = ch % 64)
    let again := (isA && (s.acq e).gotA.isSome) || (isB && (s.acq e).gotB.isSome)
    let s := if again then ((s.onAcq e (fun x => { x with gotA := none, gotB := none })).satInc (F.ACQ_GAP e)).maskAdvance e else s
    let s := s.onAcq e (fun x => { x with gotA := if isA then some word else x.gotA, gotB := if isB then some word else x.gotB })
    s.acqGrid e
  else s

/-- DECIMATION_SAMPLE (R316, R319, R322, R323): the sample at a grid count that is a multiple of the total decimation reaches
FLT_LAST, and where it is VALID the bay's two engines. -/
def execDecimationSample (ch g : Nat) (value : Int) (overload clamped settling : Bool) (s : State) : Host.Outcome State Fault Refusal :=
  let b := bayOfCh ch
  .next (
    let s := if s.domOn (domPmu b) then s.setF (F.FLT_GRID_N b) g else s
    if g % decimation (s.fltPreset ch) ≠ 0 then s
    else if !s.fltEn ch || !s.domOn (domPmu b) || s.fenced (unitCode 6 b) then
      (s.acqReport ch (2 * b) none).acqReport ch (2 * b + 1) none
    else
      let p := s.pmu ch
      let m := s.pmuMode ch
      let valid := decide (m ≠ 0) && !p.stopped && decide (p.restart = 0)
      let word := sampleWord value valid (clamped || p.clampNow) overload (settling || p.settling)
        (if measuresVoltage m then 0xF else s.pmuRange ch)
      let s := (s.wr (Reg.FLT_LAST ch) (BitVec.ofNat 32 word)).onPmu ch (fun p => { p with restart := p.restart - 1 })
      let d := if valid then some word else none
      (s.acqReport ch (2 * b) d).acqReport ch (2 * b + 1) d)

/-- FLT_BANK_SWAP (R326): SWAP sets PENDING; it is ignored while PENDING is 1. -/
def execFltBankSwap (b : Nat) (w : BusWrite) (s : State) : Host.Outcome State Fault Refusal :=
  .next (s.onWrite (Reg.FLT_BANK b) w (fun s =>
    if w.data.getLsbD 31 then s.setFlag (F.FLT_BANK_PENDING b) true else s))

/-- The largest total decimation among the bay's enabled channels, or 64 (R326). -/
def State.nMax (s : State) (b : Nat) : Nat :=
  (List.range 64).foldl (fun m i => if s.fltEn (64 * b + i) then Nat.max m (decimation (s.fltPreset (64 * b + i))) else m) 64

/-- BANK_SWAP_APPLY (R326, R318): at a grid count that is a multiple of N_max, ACTIVE changes and PENDING clears. -/
def execBankSwapApply (b g : Nat) (s : State) : Host.Outcome State Fault Refusal :=
  .next (
    if s.flag (F.FLT_BANK_PENDING b) && decide (g % s.nMax b = 0) then
      let s := (s.setF (F.FLT_BANK_ACTIVE b) (1 - s.f (F.FLT_BANK_ACTIVE b))).setFlag (F.FLT_BANK_PENDING b) false
      s.each 64 (fun i s => if s.fltEn (64 * b + i) then s.showGd (64 * b + i) else s)
    else s)

end Sys2Proof.Machine
end

