-- ==== Sys2Proof/Machine/Boundary.lean ====
section
/-! DEFINITION. LEAF_BOUNDARY, and the commands and events that set decisions in motion for it: start, halt, resume, disarm,
acknowledge, the waits' timers and the starvation hold (06_reader.md R178 to R189). -/
namespace Sys2Proof.Machine

/-! ### What falls due -/

/-- A decision on one channel of the context takes effect (R29, Table 1-4). -/
def State.dueChannel (s : State) (c : Nat) (d : Due) : State :=
  match d with
  | .fence ch => if s.chFenced ch then s.fencePins ch else s
  | .settle ch => s.chanApply ch
  | .repark ch => if (s.chan ch).ctl = .parked then s.park ch else s
  | .pmu ch => (s.pmuApplyMode ch).pmuApply ch
  | .flt ch => s.fltApply ch
  | .cal b => s.calStep b c
  | _ => s

/-- Count the decisions of a context down by one boundary, and take those now due. -/
def Ctx.takeDue (x : Ctx) : List Due × Ctx :=
  ((x.due.filter (fun d => decide (d.1 ≤ 1))).map (fun d => d.2),
   { x with due := (x.due.filter (fun d => decide (1 < d.1))).map (fun d => (d.1 - 1, d.2)) })

/-- The context returns to IDLE by DISARM: STATIC at this leaf (Table 6-7). -/
def State.disarmNow (s : State) (c : Nat) : State :=
  let s := (s.onCtx c Ctx.clearRun).setCtxState c .idle
  s.eachOf (s.channelsOf c) (fun ch s => s.static ch)

/-- The context takes its first word's leaves (RUN_START, Table 10-5). -/
def State.runStart (s : State) (c n : Nat) : State :=
  let s := s.onCtx c (fun x => { x with lcnt := n })
  (s.ctxEvent c 0x0B 8 (leBytes (s.f (F.RDR_SEQ_ENTRY_WORD c)) 2)).setCtxState c .play

/-- Leaves 64 words that play nothing cannot pass in one boundary. -/
def nextFuel : Nat := 64

/-- A context that plays, halted or not at this leaf (Table 1-5 ranks 2 to 9). -/
def State.flowPlaying (s : State) (c n : Nat) (halt force : Bool) : State :=
  if halt || force then
    if s.blocked c n then s.playNext c n true nextFuel
    else if force then s.forceStop c
    else s.pauseCtx c n .play
  else s.playNext c n false nextFuel

/-- The hold ends with leaf M: the HOLD_END record, PLAY again (R185). -/
def State.endHold (s : State) (c n : Nat) (halt force : Bool) : State :=
  let (cn, _, leaf) := (s.ctx c).due?
  let s := s.onCtx c (fun x => { x with lcnt := n })
  let s := s.ctxEvent c 7 16 (leBytes ((s.ctx c).held % 2 ^ 48) 8 ++ leBytes cn 4 ++ leBytes leaf 4)
  (s.setCtxState c .play).flowPlaying c n halt force

/-- A context in starvation hold (R185). -/
def State.flowHold (s : State) (c n : Nat) (fin halt force : Bool) : State :=
  if fin then s.endHold c n halt force
  else if force then s.forceStop c
  else if halt then s.pauseCtx c n .hold
  else (s.onCtx c (fun x => { x with held := x.held + 1 })).playHoldOr c n (!s.flag (F.RDR_CFG_STARVE_PARK c))

/-- The next leaf of an active context, after the decisions due (Table 1-4, Table 1-5). -/
def State.flow (s : State) (c n : Nat) (due : List Due) : State :=
  let has := fun d => decide (d ∈ due)
  let stop := due.findSome? (fun d => match d with
    | .stop k => some k
    | _ => none)
  let halt := has .halt
  let force := has .forcedHalt
  match stop with
  | some code => s.stopHere c code (s.ctx c).place.1 (s.ctx c).place.2 0
  | none =>
    match s.ctxState c with
    | .armed =>
      if force then s.forceStop c
      else if has .start then (s.runStart c n).flowPlaying c n halt false
      else if halt then s.pauseCtx c n .armed
      else if has .disarm then s.disarmNow c
      else if s.grpCtx c ∧ s.grp.align.isSome then s.playPark c n
      else s.playIdle c n
    | .play | .wait => s.flowPlaying c n halt force
    | .hold => s.flowHold c n (has .holdEnd) halt force
    | .paused =>
      if force then s.forceStop c
      else if has .resume then
        match (s.ctx c).before with
        | .armed => ((s.onCtx c (fun x => { x with special := 0 })).setCtxState c .armed).playIdle c n
        | .hold => (s.setCtxState c .hold).flowHold c n false halt false
        | b => (s.setCtxState c b).flowPlaying c n halt false
      else if has .disarm then s.disarmNow c
      else s.playHoldOr c n (s.flag (F.RDR_CFG_HOLD_EN c))
    | _ => s

/-- A context that is not active passes a boundary: its stopped pins and its last results. -/
def State.idleBoundary (s : State) (c n : Nat) (due : List Due) : State :=
  let s := if decide (.stopPins ∈ due) then s.stopPins c else s
  let ts := List.replicate 32 ((s.ctx c).cur.tsets.getD 31 0)
  let fin := ((s.vectorStarts c (s.ctx c).acc ts).getLast?).getD 0
  s.onCtx c (fun x => { x with lcnt := n, acc := fin, curSrc := .park })

/-- LEAF_BOUNDARY (R20): leaf L ends and leaf L + 1 begins, with every decision due there. -/
def execLeafBoundary (c : Nat) (rx : List (Nat × List Byte)) (s : State) : Host.Outcome State Fault Refusal :=
  .next (
    let x := s.ctx c
    let live := (s.ctxState c).active
    if !live ∧ x.due = [] ∧ x.past = [] ∧ !(s.grpNamed c && s.grpAligned) then s
    else
      let n := x.lcnt + 1
      let s := (s.endLeaf c rx).reportLeaves c n
      let (due, y) := (s.ctx c).takeDue
      let s := s.setCtx c y
      let s := s.eachOf (due.filter Due.ofChannel) (fun d s => s.dueChannel c d)
      let s := if s.grpCtx c ∧ s.grpAligned then s.takeSummary c n else s
      let s := if live ∧ (s.ctxState c).active then s.flow c n due else s.idleBoundary c n due
      let s := if (s.ctx c).lcnt < n then s.onCtx c (fun x => { x with lcnt := n }) else s
      s.onCtx c Ctx.prune)

/-! ### RDR_CTRL -/

/-- A command Table 6-7 does not allow, or more than one command in a write (R179). -/
def State.cmdErr (s : State) (c : Nat) : State := s.setFlag (F.RDR_STATUS_CMD_ERR c) true

/-- The context plays in a group that has committed: ARM, START and RESUME are command errors (R418). -/
def State.grpBound (s : State) (c : Nat) : Bool := s.grpCtx c

/-- RDR_CTRL.HALT, a debug halt and a BREAK alike: of a group context a group halt request, which waits for
a barrier under way (R27); else a halt two leaves on (R180, R418, R427). -/
def State.haltCommand (s : State) (c : Nat) : State :=
  s.haltRegistered c

/-- RDR_CTRL.HALT with FORCE (R181). -/
def State.forceCommand (s : State) (c : Nat) : State := s.addDue c 2 .forcedHalt

/-- The start of an Arm check: refused while it would break R42 (step 1), under way otherwise (R187). -/
def State.armRefuse (s : State) (c code detail : Nat) : State :=
  ((s.setF (F.RDR_ARM_STATUS_RESULT c) code).setF (F.RDR_ARM_STATUS_DETAIL c) detail).onCtx c (fun x => { x with arming := false })

/-- One command of RDR_CTRL in its context's state (Table 6-7, R179). ARM in OFF runs the Arm check too, which ends CLUSTER_OFF
(R187, Table 6-8; DEDUCED, notes/assumptions/66.md). -/
def State.rdrCtrl (s : State) (c data : Nat) : State :=
  let st := s.ctxState c
  match data % 128 with
  | 0 => s
  | 0x01 => if (st = .idle ∨ st = .off) ∧ !s.grpBound c ∧ !(s.ctx c).arming then s.onCtx c (fun x => { x with arming := true }) else s.cmdErr c
  | 0x02 => if st = .armed ∧ !s.grpBound c then s.addDue c 3 .start else s.cmdErr c
  | 0x04 => if st = .armed ∨ st.playing then s.haltCommand c else s.cmdErr c
  | 0x0C => if st.active then s.forceCommand c else s.cmdErr c
  | 0x10 => if st = .paused ∧ !s.grpBound c then s.addDue c 3 .resume else s.cmdErr c
  | 0x20 => if st = .armed ∨ st = .paused then s.addDue c 2 .disarm else s.cmdErr c
  | 0x40 =>
    if st = .stopped then
      let s := (s.setF (F.RDR_STATUS_STOP c) 0).setCtxState c .idle
      s.eachOf (s.channelsOf c) (fun ch s => s.static ch)
    else s.cmdErr c
  | _ => s.cmdErr c

/-- A write of RDR_CTRL. -/
def State.rdrCtrlWrite (s : State) (c : Nat) (w : BusWrite) : State := s.onPlain (Reg.RDR_CTRL c) w (fun s => s.rdrCtrl c w.data.toNat)

/-- RDR_CTRL_ARM (R187). -/
def execRdrCtrlArm (c : Nat) (w : BusWrite) (s : State) : Host.Outcome State Fault Refusal := .next (s.rdrCtrlWrite c w)
/-- RDR_CTRL_START (R178). -/
def execRdrCtrlStart (c : Nat) (w : BusWrite) (s : State) : Host.Outcome State Fault Refusal := .next (s.rdrCtrlWrite c w)
/-- RDR_CTRL_HALT (R180). -/
def execRdrCtrlHalt (c : Nat) (w : BusWrite) (s : State) : Host.Outcome State Fault Refusal := .next (s.rdrCtrlWrite c w)
/-- FORCED_HALT (R181). -/
def execForcedHalt (c : Nat) (w : BusWrite) (s : State) : Host.Outcome State Fault Refusal := .next (s.rdrCtrlWrite c w)
/-- RDR_CTRL_RESUME (R180). -/
def execRdrCtrlResume (c : Nat) (w : BusWrite) (s : State) : Host.Outcome State Fault Refusal := .next (s.rdrCtrlWrite c w)
/-- RDR_CTRL_DISARM (R178). -/
def execRdrCtrlDisarm (c : Nat) (w : BusWrite) (s : State) : Host.Outcome State Fault Refusal := .next (s.rdrCtrlWrite c w)
/-- RDR_CTRL_ACK (R183). -/
def execRdrCtrlAck (c : Nat) (w : BusWrite) (s : State) : Host.Outcome State Fault Refusal := .next (s.rdrCtrlWrite c w)

/-- RDR_HOSTFLAG_WRITE (R165): a 1 sets the latch of its host flag. -/
def execRdrHostflagWrite (c : Nat) (w : BusWrite) (s : State) : Host.Outcome State Fault Refusal :=
  .next (s.onPlain (Reg.RDR_HOSTFLAG c) w (fun s =>
    s.setF (F.RDR_HOSTFLAG_FLAGS c) (BitVec.ofNat 8 (s.f (F.RDR_HOSTFLAG_FLAGS c)) ||| BitVec.ofNat 8 w.data.toNat).toNat))

/-- RDR_VCNT_READ (R189): the upper bits and WRAP are latched, and the low bits answered; `leaves`: RDR_LCNT. -/
def execRdrVcntRead (c : Nat) (leaves : Bool) (s : State) : Host.Outcome State Fault Refusal :=
  .next (
    let x := s.ctx c
    if leaves then
      (((s.setF ⟨Reg.RDR_LCNT_HI c, 0, 16⟩ (x.lcnt / 2 ^ 32)).setFlag (F.RDR_LCNT_HI_WRAP c) x.lwrap).onCtx c (fun x => { x with lwrap := false })).emit
        (.answer (Reg.RDR_LCNT_LO c) (x.lcnt % 2 ^ 32))
    else
      (((s.setF (F.RDR_VCNT_HI_HI c) (x.vcnt / 2 ^ 32)).setFlag (F.RDR_VCNT_HI_WRAP c) x.vwrap).onCtx c (fun x => { x with vwrap := false })).emit
        (.answer (Reg.RDR_VCNT_LO c) (x.vcnt % 2 ^ 32)))

/-! ### Waits and holds -/

/-- WAIT_TIMEOUT (R166, R176): the leaf after the last counted one; the wait folio plays one leaf more and the channels park
from the next. -/
def execWaitTimeout (c : Nat) (s : State) : Host.Outcome State Fault Refusal :=
  .next (match s.ctxState c, (s.ctx c).waiting with
    | .wait, some w => if w.expired ∧ (s.ctx c).due.all (fun d => decide (d.2 ≠ .stop 0x23)) then s.addDue c 2 (.stop 0x23) else s
    | _, _ => s)

/-- WAIT_TIMER_EXPIRY (R167): Y × 10 ns have passed since leaf W began by the boundary now ahead. -/
def execWaitTimerExpiry (c : Nat) (s : State) : Host.Outcome State Fault Refusal :=
  .next (match s.ctxState c, (s.ctx c).waiting with
    | .wait, some w =>
      if w.sync = none ∧ w.group = false ∧ w.src = 5 ∧ w.timeout * 2 ^ 33 ≤ (s.ctx c).acc - w.start then
        s.onCtx c (fun x => x.onWait (fun w => { w with seen := true }))
      else s
    | _, _ => s)

/-- A pin edge reaches the waits in force (R165): 0 EVT, 1 TRIG; RISE is edge 0, FALL 1. -/
def State.waitEdge (s : State) (src index : Nat) (rise : Bool) : State :=
  s.each 16 (fun c s =>
    if s.ctxState c = .wait then
      s.onCtx c (fun x => x.onWait (fun w =>
        if w.sync = none ∧ w.group = false ∧ w.src = src ∧ w.index = index ∧ w.edge = (if rise then 0 else 1) ∧ w.leaves ≠ 0 then
          { w with seen := true } else w))
    else s)

/-- Leaf M and the 15 leaves after it, or the rest of the program, are present (R185). -/
def State.refilled (s : State) (c : Nat) : Bool :=
  let x := s.ctx c
  let here := x.plan.flatMap (fun p => match p.seg with
    | .folio q _ => (List.range (Nat.min 16 (q.upto - q.next))).map (fun i => (x.cached q.id (q.next + i)).isSome)
    | .iterate m => (List.range (Nat.min 16 (m.leaves - m.k))).map (fun i => (x.cached m.id (m.k + i)).isSome)
    | .holdWord l _ => List.replicate (Nat.min 16 l) true
    | .wait _ | .halt => List.replicate 16 true
    | _ => [])
  let rest := x.ended || x.plan.any (fun p => match p.seg with | .endRun | .stopAt _ _ _ _ => true | _ => false)
  (here.take 16).all id && (decide (16 ≤ here.length) || (rest && decide (x.plan ≠ [])))

/-- HOLD_RESUME (R185): the condition holds at the boundary that ends this leaf, and leaf M plays from L + 3. -/
def execHoldResume (c : Nat) (s : State) : Host.Outcome State Fault Refusal :=
  .next (if s.ctxState c = .hold ∧ s.refilled c ∧ (s.ctx c).due.all (fun d => decide (d.2 ≠ .holdEnd)) then s.addDue c 3 .holdEnd else s)

/-- HOLD_LIMIT_EXPIRED (R185): the hold has lasted RDR_HOLD_LIMIT leaves; the channels park from the next leaf. -/
def execHoldLimitExpired (c : Nat) (s : State) : Host.Outcome State Fault Refusal :=
  .next (
    let lim := (s.rd (Reg.RDR_HOLD_LIMIT c)).toNat
    if s.ctxState c = .hold ∧ lim ≠ 0 ∧ lim ≤ (s.ctx c).held + 1 ∧ (s.ctx c).due.all (fun d => decide (d.2 ≠ .holdEnd)) then s.addDue c 1 (.stop 0x22)
    else s)

end Sys2Proof.Machine
end

