-- ==== Sys2Proof/Machine/Program.lean ====
section
/-! DEFINITION. The program of a context as the Arm check sees it: every word reachable from RDR_SEQ_ENTRY on any path, and the
limits that bind them (06_reader.md R154 to R176, R187 step 4). -/
namespace Sys2Proof.Machine

/-! ### One word -/

/-- The highest INDEX of a WAIT source (Table 6-2). -/
def waitIndexMax : Nat → Option Nat
  | 0 => some 15 | 1 => some 7 | 2 => some 15 | 3 => some 7 | 4 => some 3 | 5 => some 0 | 6 => some 7 | _ => none

/-- A word's fields keep the limits of Table 6-1 and R164, and a local SYNC names its own context (R176). -/
def wordFits (op x y c : Nat) : Bool :=
  match op with
  | 0x00 | 0x04 | 0x06 | 0x10 | 0x11 => decide (x = 0) && decide (y = 0)
  | 0x01 => true
  | 0x02 => decide (y = 0)
  | 0x03 | 0x0F => decide (x = 0) && decide (y ≠ 0)
  | 0x05 => decide (x = 0) && decide (y < 4096)
  | 0x07 => !bitAt x 16 && (match waitIndexMax (bitsAt x 20 4) with
      | some m => decide (x % 2 ^ 16 ≤ m) && (decide (bitsAt x 20 4 ≤ 1) || decide (bitsAt x 18 2 = 0))
      | none => false)
  | 0x08 => decide (bitsAt x 20 2 = 0) && decide (bitsAt x 0 20 ≠ 0)
  | 0x09 => decide (bitsAt x 12 10 = 0) && decide (y ≠ 0)
  | 0x0A => decide (bitsAt x 18 5 = 0) && !bitAt x 16 && (if bitAt x 23 then decide (x % 2 ^ 16 = 0) else bitAt x c)
  | 0x0B => decide (bitsAt x 2 22 = 0)
  | 0x0C => decide (bitsAt x 9 15 = 0) && decide (bitsAt x 6 2 = 0) && decide (y = 0)
  | 0x0D => decide (bitsAt x 16 2 = 0) && decide (bitsAt y 28 4 = 0)
  | 0x0E => decide (x = 0)
  | _ => false

/-- The words a loop body may hold (R160). -/
def bodyWord (op x : Nat) : Bool := decide (op ∈ [0x00, 0x03, 0x04, 0x0B, 0x0C, 0x0D, 0x0E]) || (decide (op = 0x01) && decide (x = 0))

/-- The word asks for the group (Table 6-1). -/
def groupWord (op x : Nat) : Bool := decide (op ∈ [0x08, 0x09, 0x0A]) && bitAt x 23

/-! ### Every path -/

/-- A point a path reaches: the routine it lies in, 4,096 for the program itself, its word, and the suspended folio of its call
level: the word that opened it, the leaves played, and how many it has, if known (R158, R159). -/
structure Point where
  routine : Nat
  word : Nat
  susp : Option (Nat × Nat × Option Nat)
  deriving DecidableEq, Repr

/-- What the walk has found. The conditions it finds broken are numbered in the order of R187: 0 Table 6-1, R164 and R176, 1
word 4,095, 2 R159, 3 R160, 4 a target inside a loop body, 5 PLAYC without a suspended folio, 6 a group word outside a group. -/
structure Walk where
  todo : List Point := []
  seen : List Point := []
  words : List Nat := []
  broken : List (Nat × Nat) := []
  /-- Calls: routine, CALL word, target. Routines that return. -/
  calls : List (Nat × Nat × Nat) := []
  returns : List Nat := []
  /-- Outermost loops: LOOP, ENDLOOP, and the PLAY words between. -/
  loops : List (Nat × Nat × List Nat) := []
  /-- BRANCH words and their targets, by routine. -/
  targets : List (Nat × Nat × Nat) := []
  deriving DecidableEq, Repr

def Walk.fail (w : Walk) (cond i : Nat) : Walk := { w with broken := (cond, i) :: w.broken }
def Walk.add (w : Walk) (p : Point) : Walk := { w with todo := p :: w.todo }
def Walk.mark (w : Walk) (i : Nat) : Walk := if i ∈ w.words then w else { w with words := i :: w.words }

/-- After n leaves of a folio (0: all of it) the suspended folio, if leaves remain (R158). -/
def suspendAfter (opened played n : Nat) (total : Option Nat) : Option (Nat × Nat × Option Nat) :=
  if n = 0 then none
  else match total with
    | some t => if played + n < t then some (opened, played + n, total) else none
    | none => some (opened, 0, none)

/-- A loop body scanned from a word on, `depth` levels open: its ENDLOOP, the deepest level, and its words (R160). -/
def State.scanBody (s : State) (c : Nat) : Nat → Nat → Nat → Nat → List Nat → Option Nat × Nat × List Nat
  | 0, _, _, peak, ws => (none, peak, ws)
  | fuel + 1, i, depth, peak, ws =>
    if 4096 ≤ i then (none, peak, ws)
    else match s.seqOp c i with
      | 0x03 => s.scanBody c fuel (i + 1) (depth + 1) (Nat.max peak (depth + 1)) (i :: ws)
      | 0x04 => if depth ≤ 1 then (some i, peak, i :: ws) else s.scanBody c fuel (i + 1) (depth - 1) peak (i :: ws)
      | 0x11 | 0x06 => (none, peak, i :: ws)
      | _ => s.scanBody c fuel (i + 1) depth peak (i :: ws)

/-- The checks of one word (Table 6-1, R171). -/
def State.checkWord (s : State) (c i : Nat) (w : Walk) : Walk :=
  let op := s.seqOp c i
  let x := s.seqX c i
  let w := w.mark i
  let w := if wordFits op x (s.seqY c i) c then w else w.fail 0 i
  if groupWord op x && !(s.flag F.GRP_CFG_EN && bitAt (s.rd Reg.GRP_CTX).toNat c && !bitAt s.grp.left c) then w.fail 6 i else w

/-- A LOOP word outside any body: its whole body is checked and the path goes on behind it (R160). -/
def State.walkLoop (s : State) (c : Nat) (p : Point) (w : Walk) : Walk :=
  match s.scanBody c 4096 (p.word + 1) 1 1 [] with
  | (fin, peak, ws) =>
    let plays := (ws.filter (fun i => decide (s.seqOp c i = 0x01))).reverse
    let w := ws.foldl (fun w i =>
      let w := s.checkWord c i w
      if bodyWord (s.seqOp c i) (s.seqX c i) then w else w.fail 3 i) w
    let w := if 8 < peak then w.fail 3 p.word else w
    match fin with
    | none => w.fail 3 p.word
    | some e => { w with loops := (p.word, e, plays) :: w.loops }.add
        { p with word := e + 1, susp := if plays = [] then p.susp else none }

/-- A CALL: the routine it enters begins with nothing suspended, and the path goes on behind it once that routine returns (R159). -/
def walkCall (p : Point) (t : Nat) (w : Walk) : Walk :=
  let w := { w with calls := (p.routine, p.word, t) :: w.calls }.add { routine := t, word := t, susp := none }
  if t ∈ w.returns then w.add { p with word := p.word + 1 } else w

/-- A RETURN: every caller's path goes on behind its CALL (R159). -/
def walkReturn (p : Point) (w : Walk) : Walk :=
  if p.routine = 4096 then w.fail 2 p.word
  else if p.routine ∈ w.returns then w
  else
    let back := w.seen.filter (fun q => w.calls.any (fun k => decide (k = (q.routine, q.word, p.routine))))
    { w with returns := p.routine :: w.returns, todo := back.map (fun q => { q with word := q.word + 1 }) ++ w.todo }

/-- One point of a path: what it adds (R154, R158 to R160, R170, R171). `leavesOf` gives a call number's leaves. -/
def State.walkPoint (s : State) (c : Nat) (leavesOf : Nat → Option Nat) (p : Point) (w : Walk) : Walk :=
  let i := p.word
  if 4096 ≤ i then w.fail 1 4095
  else
    let op := s.seqOp c i
    let x := s.seqX c i
    let y := s.seqY c i
    let w := s.checkWord c i w
    let next := { p with word := i + 1 }
    match op with
    | 0x01 => w.add { next with susp := suspendAfter i 0 x (leavesOf y) }
    | 0x02 => match p.susp with
      | none => w.fail 5 i
      | some (o, n, t) => w.add { next with susp := suspendAfter o n x t }
    | 0x03 => s.walkLoop c p w
    | 0x04 => w.fail 3 i
    | 0x05 => walkCall p (y % 4096) w
    | 0x06 => walkReturn p w
    | 0x09 => ({ w with targets := (p.routine, i, bitsAt x 0 12) :: w.targets }.add next).add { p with word := bitsAt x 0 12, susp := none }
    | 0x11 => w
    | _ => if 0x12 ≤ op then w else w.add next

/-- Walk every path. The points are finitely many, fewer than the fuel given below. -/
def State.walk (s : State) (c : Nat) (leavesOf : Nat → Option Nat) : Nat → Walk → Walk
  | 0, w => w
  | fuel + 1, w =>
    match w.todo with
    | [] => w
    | p :: ps =>
      let w := { w with todo := ps }
      if p ∈ w.seen then s.walk c leavesOf fuel w
      else s.walk c leavesOf fuel (s.walkPoint c leavesOf p { w with seen := p :: w.seen })

/-- Routines reachable from one by calls, none of them through another. -/
def Walk.reach (w : Walk) (without : Nat) : Nat → List Nat → List Nat
  | 0, l => l
  | n + 1, l =>
    let more := ((w.calls.filter (fun k => decide (k.1 ∈ l ∧ k.1 ≠ without ∧ k.2.2 ≠ without ∧ k.2.2 ∉ l))).map (fun k => k.2.2)).eraseDups
    if more = [] then l else w.reach without n (l ++ more)

/-- The deepest call level of each routine after n rounds. -/
def Walk.depths (w : Walk) : Nat → SMap Nat → SMap Nat
  | 0, d => d
  | n + 1, d => w.depths n (w.calls.foldl (fun d k => let v := SMap.get 0 d k.1 + 1
      if SMap.get 0 d k.2.2 < v then SMap.put 0 d k.2.2 v else d) d)

/-- Recursion, else calls beyond depth 16 (R159). -/
def Walk.nesting (w : Walk) : Walk :=
  let bad := w.calls.filter (fun k => decide (k.1 ≠ 4096) && decide (k.1 ∈ w.reach 5000 4097 [k.2.2]) &&
    (decide (k.1 = k.2.2) || decide (k.2.2 ∈ w.reach k.1 4097 [4096])))
  if bad ≠ [] then bad.foldl (fun w k => w.fail 2 k.2.1) w
  else
    let d := w.depths 17 []
    (w.calls.filter (fun k => decide (16 ≤ SMap.get 0 d k.1))).foldl (fun w k => w.fail 2 k.2.1) w

/-- The program of a context from its entry (R187 step 4). -/
def State.program (s : State) (c : Nat) (leavesOf : Nat → Option Nat) : Walk :=
  let w := s.walk c leavesOf (2 ^ 64) { todo := [{ routine := 4096, word := s.f (F.RDR_SEQ_ENTRY_WORD c), susp := none }] }
  let w := w.nesting
  let w := if 4095 ∈ w.words ∧ s.seqOp c 4095 ≠ 0x11 ∧ s.seqOp c 4095 ≠ 0x06 then w.fail 1 4095 else w
  w.targets.foldl (fun w t => if w.loops.any (fun l => decide (l.1 < t.2.2 ∧ t.2.2 ≤ l.2.1)) then w.fail 4 t.2.1 else w) w

/-- The first broken condition and its lowest word. -/
def Walk.invalid (w : Walk) : Option Nat :=
  (List.range 7).findSome? (fun k =>
    let l := (w.broken.filter (fun b => decide (b.1 = k))).map (fun b => b.2)
    match l with
    | [] => none
    | i :: is => some (is.foldl Nat.min i))

/-- Reachable words in ascending order. -/
def Walk.sorted (w : Walk) : List Nat := (List.range 4096).filter (fun i => decide (i ∈ w.words))

/-- Words that name a call number (PLAY, MATCH), in ascending order. -/
def State.callWords (s : State) (c : Nat) (w : Walk) : List Nat := w.sorted.filter (fun i => decide (s.seqOp c i = 0x01 ∨ s.seqOp c i = 0x08))

end Sys2Proof.Machine
end

