-- ==== Sys2Proof/Machine/Arm.lean ====
section
/-! DEFINITION. The Arm check (06_reader.md R187): its steps in order, and what a passed check leaves. -/
namespace Sys2Proof.Machine

/-! ### Fractions of a bandwidth, in units of 100 MB/s -/

abbrev Rate := Nat × Nat
def Rate.le (a b : Rate) : Bool := decide (a.1 * b.2 ≤ b.1 * a.2)
def Rate.add (a b : Rate) : Rate := if a.1 = 0 then b else if b.1 = 0 then a else (a.1 * b.2 + b.1 * a.2, a.2 * b.2)
def Rate.max (a b : Rate) : Rate := if a.le b then b else a
def Rate.ceil (a : Rate) : Nat := ceilDiv a.1 a.2

/-- MAX_WIN / (64 × 32 × P_min) of an entry, P_min in 1/65,536 FU (R224, R241). -/
def windowRate (maxWin p : Nat) : Rate := (maxWin * 2 ^ 22, Nat.max 1 p)

/-- A stack's bandwidth at its current rate (Table 9-6). -/
def State.stkBandwidth (s : State) (st : Nat) : Nat :=
  match s.f (F.STK_STATE_RATE st) with | 0 => 9728 | 1 => 8192 | 2 => 6656 | _ => 4096


/-! ### Steps 1 and 2 -/

/-- R42: the chip mode forbids arming. -/
def State.armForbidden (s : State) : Bool :=
  !decide (s.mode ∈ [.idle, .armed, .run, .paused, .characterise]) ||
  (s.flag F.SYS_MODE_BUSY && decide (s.sys.source = .idle) && decide (s.sys.target ≠ some .characterise))

/-- R150, R95 and R151 in order; fenced channels are accepted (R94). -/
def State.channelsFail (s : State) (c : Nat) : Option (Nat × Nat) :=
  let chs := s.channelsOf c
  let own := chs.filter (fun ch => !s.chFenced ch)
  let first := fun (st : Nat) (p : Nat → Bool) => (own.find? p).map (fun ch => (st, ch))
  if chs = [] then some (0x04, 0)
  else
    (first 0x05 (fun ch => decide (s.f (F.CHN_CTRL_PATH ch) = 0 ∨ s.f (F.CHN_CTRL_PATH ch) = 2))).or
    ((first 0x06 s.rangeBad).or
    ((first 0x07 (fun ch => (s.chan ch).settling)).or
    ((first 0x0A (fun ch => s.wide ch && (List.range 64).any (fun k => s.periodValid c k && decide (s.period c k < perMinWide)))).or
    ((first 0x08 (fun ch => s.flag (F.CAL_BAY_STATUS_UNCAL (bayOfCh ch)))).or
    ((((s.sitesOf c).find? (fun site => (s.siteChannels site).any (fun ch => decide (s.ownerCode ch ≠ c)))).map (fun x => (0x19, x))).or
    (((s.sitesOf c).find? (fun site => decide ((s.siteChannels site).length < 4))).map (fun x => (0x18, x))))))))

/-! ### Step 4 -/

/-- Leaf count of a call number's entry. -/
def State.leavesOf (s : State) (cn : Nat) : Option Nat := (s.lookup 5 cn).1.map entryLeaves

/-- Leaves and BODY_BYTES of some PLAY or MATCH words fit the loop buffer (R160, R173). -/
def State.fitsBuffer (s : State) (c : Nat) (ws : List Nat) : Bool :=
  let es := ws.filterMap (fun i => (s.lookup 5 (s.seqY c i)).1)
  decide (es.foldl (fun n e => n + entryLeaves e) 0 ≤ 65536) && decide (es.foldl (fun n e => n + (entryLength e - 64)) 0 ≤ 2097152)

/-- A timing set that can be selected: its period entry and every owned channel's set are valid. -/
def State.tsetOk (s : State) (c k : Nat) : Bool := s.periodValid c k && (s.channelsOf c).all (fun ch => s.flag (F.EDG_TS_CTRL_VALID ch k))

/-- A PERIOD word's entry and value at Arm (R108). -/
def State.periodWordOk (s : State) (c i : Nat) : Bool :=
  let k := bitsAt (s.seqX c i) 18 6
  let p := bitsAt (s.seqY c i) 0 28 * 65536 + bitsAt (s.seqX c i) 0 16
  s.periodValid c k && decide ((if (s.channelsOf c).any s.wide then perMinWide else perMinFast) ≤ p)

/-- Step 4: the statuses in the order R187 lists them, each at its lowest word. -/
def State.programFail (s : State) (c : Nat) (w : Walk) : Option (Nat × Nat) :=
  let ws := w.sorted
  let at_ := fun (st : Nat) (p : Nat → Bool) => (ws.find? p).map (fun i => (st, i))
  match w.invalid with
  | some i => some (0x17, i)
  | none =>
    (if s.catK < 10 ∨ 24 < s.catK then some (0x1C, 0) else none).or <|
    (at_ 0x1C (fun i => decide (s.seqOp c i = 0x01 ∨ s.seqOp c i = 0x08) && (s.lookup 5 (s.seqY c i)).1.isNone)).or
    ((at_ 0x1B (fun i => (w.loops.any (fun l => decide (l.1 = i) && !s.fitsBuffer c l.2.2)) ||
        (decide (s.seqOp c i = 0x08) && !s.fitsBuffer c [i]))).or
    ((at_ 0x0B (fun i => decide (s.seqOp c i = 0x0C) && bitAt (s.seqX c i) 8 && !s.tsetOk c (s.seqX c i % 64))).or
    (at_ 0x21 (fun i => decide (s.seqOp c i = 0x0D) && !s.periodWordOk c i))))

/-! ### Step 5 -/

/-- The program needs the hold folio (R162). -/
def State.needsHold (s : State) (c : Nat) (w : Walk) : Bool :=
  !s.flag (F.RDR_CFG_STARVE_PARK c) ||
  w.words.any (fun i => decide (s.seqOp c i = 0x0F) || (decide (s.seqOp c i ∈ [0x07, 0x0A]) && bitAt (s.seqX c i) 17))

/-- Every leaf record of a resident folio, or the status that refuses it; unreadable data cannot be copied (R148, R162). -/
def State.decodeAll (s : State) (c : Nat) (e : List Byte) : Nat → OpenFolio → List Leaf → List Leaf ⊕ Nat
  | 0, _, ls => .inl ls
  | n + 1, f, ls =>
    if f.bodyBytes < f.fetchOff + 4 then .inr 0x16
    else match s.folioRead c e (f.fetched + 1) (64 + f.fetchOff) 4 with
      | .bytes hw =>
        if f.bodyBytes < f.fetchOff + recordLen hw ∨ recordLen hw = 0 then .inr 0x16
        else match s.folioRead c e (f.fetched + 1) (64 + f.fetchOff) (recordLen hw) with
          | .bytes rec => match s.decodeRecord f rec with
            | some l => if s.leafTsetBad c l then .inr 0x0B else
                s.decodeAll c e n { f with fetched := f.fetched + 1, fetchOff := f.fetchOff + rec.length, prev := l } (ls ++ [l])
            | none => .inr 0x16
          | _ => .inr 0x1A
      | _ => .inr 0x1A

/-- A special folio: its leaves, or the status of its first failing check (R162, Table 5-10, R148). -/
def State.specialFolio (s : State) (c cn : Nat) : List Leaf ⊕ Nat :=
  match (s.lookup 5 cn).1 with
  | none => .inr 0x1A
  | some e =>
    if s.copies e = [] ∨ entryLeaves e = 0 ∨ 1024 < entryLeaves e then .inr 0x1A
    else match s.folioRead c e 0 0 64 with
      | .bytes h =>
        match s.headerFail c cn (entryLength e) h with
        | some st => .inr st
        | none => s.decodeAll c e (leAt h 0x0C 4) (openOf 0 cn e h) []
      | _ => .inr 0x1A

/-- A folio of the program that is resident fails Table 5-10 (R149); an unreadable header is left to its fetch (R186). -/
def State.residentFail (s : State) (c cn : Nat) : Option Nat :=
  match (s.lookup 5 cn).1 with
  | none => none
  | some e => if s.copies e = [] then none else match s.folioRead c e 0 0 64 with
    | .bytes h => s.headerFail c cn (entryLength e) h
    | _ => none

/-- A resident folio with lanes that an override's timing set breaks (R144). -/
def State.overrideFail (s : State) (c i cn : Nat) : Bool :=
  match (s.lookup 5 cn).1 with
  | none => false
  | some e => if s.copies e = [] then false else match s.folioRead c e 0 0 64 with
    | .bytes h => decide (leAt h 0x1C 2 ≠ 0 ∨ leAt h 0x1E 2 ≠ 0) &&
        !s.lanePeriodOk c (leAt h 0x34 8) (leAt h 0x20 2) (some (s.seqX c i % 64))
    | _ => false

/-- The words a TSET word can reach before another TSET word: one round of successors at a time. -/
def State.reachFrom (s : State) (c : Nat) (w : Walk) : Nat → List Nat → List Nat
  | 0, l => l
  | n + 1, l =>
    let next := l.flatMap (fun i =>
      match s.seqOp c i with
      | 0x0C | 0x11 => []
      | 0x05 => [s.seqY c i % 4096, i + 1]
      | 0x06 => w.calls.map (fun k => k.2.1 + 1)
      | 0x09 => [bitsAt (s.seqX c i) 0 12, i + 1]
      | 0x04 => (i + 1) :: (w.loops.filter (fun q => decide (q.1 < i ∧ i ≤ q.2.1))).map (fun q => q.1 + 1)
      | _ => [i + 1])
    let more := (next.filter (fun i => decide (i ∈ w.words ∧ i ∉ l))).eraseDups
    if more = [] then l else s.reachFrom c w n (l ++ more)

/-- Step 5 after the special folios: R149 over the program's resident folios, then R144 over its TSET words. -/
def State.foliosFail (s : State) (c : Nat) (w : Walk) : Option (Nat × Nat) :=
  let calls := s.callWords c w
  (calls.findSome? (fun i => (s.residentFail c (s.seqY c i)).map (fun st => (st, i)))).or
  (((w.sorted.filter (fun i => decide (s.seqOp c i = 0x0C) && bitAt (s.seqX c i) 8)).find? (fun i =>
    let reach := s.reachFrom c w 4097 [i + 1]
    calls.any (fun j => decide (j ∈ reach) && s.overrideFail c i (s.seqY c j)))).map (fun i => (0x15, i)))

/-! ### Step 6 -/

/-- The entries the program plays with no usable copy, by their first word, and those read from a copy. -/
def State.streamedWords (s : State) (c : Nat) (w : Walk) : List (Nat × List Byte) :=
  (s.callWords c w).filterMap (fun i => ((s.lookup 5 (s.seqY c i)).1).bind (fun e => if s.copies e = [] then some (i, e) else none))

/-- Source latency L of an origin in 10 ns units (R222). -/
def State.originLat (s : State) (o : Nat) : Nat :=
  if o / 2 ^ 50 = 2 then 10 * s.f (F.LIB_HOST_LAT_LAT (bitsAt o 46 4)) else s.f (F.LIB_PEER_LAT_LAT (bitsAt o 46 4))

/-- R224 for one entry: the status of its first failing condition. L / (32 × P_min) is taken in 1/65,536 FU, 10 ns being
131,072 FU. -/
def State.streamFail (s : State) (c : Nat) (e : List Byte) : Option Nat :=
  let p := Nat.max 1 (s.periodMin c)
  let o := entryOrigin e
  let d := s.f (F.LIB_CTX_PF_DEPTH c)
  let rsv := if o / 2 ^ 50 = 2 then s.f (F.LIB_CTX_RSV_HOST c) else s.f (F.LIB_CTX_RSV_FABRIC c)
  if !entryStream e then some 0x1C
  else if !(windowRate (entryMaxWin e) p).le (rsv, 1) then some 0x1D
  else if d < 64 + ceilDiv (s.originLat o * 131072 * 65536) (32 * p) then some 0x1D
  else if s.f (F.LIB_STAGE_SIZE_MIB c) * 1048576 < ceilDiv d 64 * entryMaxWin e then some 0x1D
  else none

/-- Whether a path from a BRANCH target meets a streamed folio after fewer than D leaves of resident ones (R225): word, the
calls open, the leaves so far, and the leaves at each open loop's start with its count. -/
def State.earlyStream (s : State) (c : Nat) (w : Walk) (d : Nat) : Nat → Nat → Nat → List Nat → Nat → List (Nat × Nat) → Bool
  | 0, _, _, _, _, _ => true
  | fuel + 1, rt, i, calls, acc, loops =>
    if 4096 ≤ i ∨ d ≤ acc then false
    else
      let x := s.seqX c i
      let y := s.seqY c i
      let go := fun acc loops => s.earlyStream c w d fuel rt (i + 1) calls acc loops
      let folio := fun (n : Nat) => match (s.lookup 5 y).1 with
        | some e => if s.copies e = [] then true else go (acc + (if n = 0 ∨ entryLeaves e < n then entryLeaves e else n)) loops
        | none => false
      match s.seqOp c i with
      | 0x01 => folio x
      | 0x08 => folio 0
      | 0x03 => go acc ((acc, y) :: loops)
      | 0x04 => match loops with
        | (a, n) :: ls => go (acc + (n - 1) * (acc - a)) ls
        | [] => false
      | 0x05 => s.earlyStream c w d fuel (y % 4096) (y % 4096) ((i + 1) :: calls) acc loops
      | 0x06 => match calls with
        | r :: rs => s.earlyStream c w d fuel rt r rs acc loops
        | [] => w.calls.any (fun k => decide (k.2.2 = rt) && s.earlyStream c w d fuel k.1 (k.2.1 + 1) [] acc loops)
      | 0x11 => false
      | _ => go acc loops

/-- The READER term of a context's program by stack (R241): folios read from a copy, and streamed ones from their ring. -/
def State.readerTerm (s : State) (c : Nat) (w : Walk) (st : Nat) : Rate :=
  let p := Nat.max 1 (s.periodMin c)
  (s.callWords c w).foldl (fun m i =>
    match (s.lookup 5 (s.seqY c i)).1 with
    | none => m
    | some e =>
      let on := match s.copies e with
        | [] => stackOf (s.f (F.LIB_STAGE_HI_ADDR c) * 2 ^ 32)
        | k :: _ => k
      if on = st then m.max (windowRate (entryMaxWin e) p) else m) (0, 1)

/-- Fabric ports that serve a program's PEER origins (R224). -/
def State.peerPorts (s : State) (c : Nat) (w : Walk) : List Nat :=
  ((s.streamedWords c w).filterMap (fun q =>
    let o := entryOrigin q.2
    if o / 2 ^ 50 = 1 then s.routePort (bitsAt o 46 4) else none)).eraseDups

/-- The contexts that would be armed beside this one. -/
def State.armedOthers (s : State) (c : Nat) : List Nat := (List.range 16).filter (fun k => decide (k ≠ c) && (s.ctxState k).active)

/-- A LOCAL range touches an enabled mirror window (R262). -/
def State.mirrored (s : State) (a n : Nat) : Bool :=
  (List.range 8).any (fun w => s.flag (F.STK_MIR_BASE_EN w) &&
    (let b := s.f (F.STK_MIR_BASE_BASE w) * 2097152
     let e := b + s.f (F.STK_MIR_SIZE_SIZE w) * 2097152
     decide (offsetOf a < e) && decide (b < offsetOf a + n)))

/-- The STAGE term of a stack (R241): the reservations of contexts whose ring lies on it, or in a mirror window. -/
def State.stageTerm (s : State) (cs : List Nat) (st : Nat) : Nat :=
  cs.foldl (fun n c =>
    let a := s.f (F.LIB_STAGE_HI_ADDR c) * 2 ^ 32 + s.f (F.LIB_STAGE_LO_ADDR c) * 1048576
    if stackOf a = st ∨ s.mirrored a (s.f (F.LIB_STAGE_SIZE_MIB c) * 1048576) then
      n + s.f (F.LIB_CTX_RSV_HOST c) + s.f (F.LIB_CTX_RSV_FABRIC c) else n) 0

/-- The LEDGER term of a stack: its reservation, and the other's where an enabled stream there is mirrored (R241). -/
def State.ledgerTerm (s : State) (st : Nat) : Nat :=
  s.f (F.STK_RSV_LDG_R st) +
    (if (List.range 84).any (fun k => s.strEn k && decide (stackOf (s.strBase k) ≠ st) && s.mirrored (s.strBase k) (s.strSize k))
     then s.f (F.STK_RSV_LDG_R (1 - st)) else 0)

/-- The READER sum of a stack over the contexts that would be armed. -/
def State.readerSum (s : State) (c : Nat) (w : Walk) (st : Nat) : Rate :=
  (s.armedOthers c).foldl (fun r k => r.add ((s.ctx k).rdrTerm.getD st (0, 1))) (s.readerTerm c w st)

/-- Step 6: R224 per call number, R225, the ports, then R33 and R241 per stack. -/
def State.bandwidthFail (s : State) (c : Nat) (w : Walk) : Option (Nat × Nat) :=
  let str := s.streamedWords c w
  let cs := c :: s.armedOthers c
  let d := s.f (F.LIB_CTX_PF_DEPTH c)
  let ports := s.peerPorts c w
  let fabric := fun p => cs.foldl (fun n k => if p ∈ (if k = c then ports else (s.ctx k).fabPorts) then n + s.f (F.LIB_CTX_RSV_FABRIC k) else n) 0
  let host := cs.foldl (fun n k => n + s.f (F.LIB_CTX_RSV_HOST k)) 0
  (str.findSome? (fun q => (s.streamFail c q.2).map (fun st => (st, q.1)))).or
  (((w.targets.filter (fun t => decide (str ≠ []) && s.earlyStream c w d (2 ^ 64) t.1 t.2.2 [] 0 [])).getLast?.map (fun t => (0x1D, t.2.1))).or
  ((if host ≠ 0 ∧ s.hostBandwidth < host then some (0x1D, 0)
    else if (List.range 4).any (fun p => decide (fabric p ≠ 0) && decide (s.fabricBandwidth p < fabric p)) then some (0x1D, 0) else none).or
  ((List.range 2).findSome? (fun st =>
    let sum := (s.readerSum c w st).add (s.stageTerm cs st + s.ledgerTerm st + s.f (F.STK_RSV_PEER_R st), 1)
    if s.stkUp st ∧ !sum.le (s.stkBandwidth st, 1) then some (0x1D, 0xFFF0 + st) else none))))

/-! ### The check -/

/-- Steps 1 to 6 of R187: the status and DETAIL of the first check that fails, or the program and the special folios. -/
def State.armCheck (s : State) (c : Nat) : (Walk × List Leaf × List Leaf) ⊕ (Nat × Nat) :=
  if s.armForbidden then .inr (0x02, 0)
  else if s.ctxState c = .off then .inr (0x03, 0)
  else match (s.channelsFail c).or (s.timingFail c) with
    | some r => .inr r
    | none =>
      let w := s.program c s.leavesOf
      match s.programFail c w with
      | some r => .inr r
      | none =>
        let holdEn := s.flag (F.RDR_CFG_HOLD_EN c)
        if s.needsHold c w ∧ !holdEn then .inr (0x1A, 0)
        else match s.specialFolio c (s.rd (Reg.RDR_IDLE_CN c)).toNat, (if holdEn then s.specialFolio c (s.rd (Reg.RDR_HOLD_CN c)).toNat else .inl []) with
          | .inr st, _ => .inr (st, 0)
          | .inl _, .inr st => .inr (st, 0)
          | .inl idle, .inl hold =>
            match (s.foliosFail c w).or (s.bandwidthFail c w) with
            | some r => .inr r
            | none => .inl (w, idle, hold)

/-- A lookup of the check that finds a bad entry reports it as any other does (R213). -/
def State.armLookups (s : State) (c : Nat) : State :=
  if s.armForbidden ∨ s.ctxState c = .off ∨ ((s.channelsFail c).or (s.timingFail c)).isSome then s
  else
    let w := s.program c s.leavesOf
    if w.invalid.isSome then s
    else s.eachOf ((s.callWords c w).map (s.seqY c)).eraseDups (fun cn s => (s.lookup 5 cn).2)

/-- The counters of the context's sites (R302). -/
def State.clearSite (s : State) (site : Nat) : State :=
  let s := [Reg.LDG_SITE_FAIL site, Reg.LDG_SITE_DROP site, Reg.LDG_SITE_SNAP site, Reg.LDG_SITE_STATUS site, Reg.LDG_FF_CN site,
    Reg.LDG_FF_FLEAF site, Reg.LDG_FF_LEAF_LO site, Reg.LDG_FF_LEAF_HI site, Reg.LDG_FF_POS site].foldl (fun s a => s.wr a 0) s
  s.setSiteCount site {}

/-- What the clerks keep of the runs since the last Arm is of that Arm only (R472). -/
def State.forgetRuns (s : State) (c : Nat) : State :=
  let sites := s.sitesOf c
  { s with wks := { s.wks with ends := SMap.put [] s.wks.ends c [],
                               seen := sites.foldl (fun m site => SMap.put [] m site []) s.wks.seen,
                               digest := sites.foldl (fun m site => SMap.put none m site none) s.wks.digest } }

/-- What a passed Arm check clears and loads, the context's state apart (R78, R105, R153, R183, R187, R189, R226, R241, R302). -/
def State.armLoad (s : State) (c : Nat) (w : Walk) (idle hold : List Leaf) : State :=
  let cs := c :: s.armedOthers c
  let s := s.onLib (fun l => { l with caches := [] })
  let s := s.eachOf [0, 1] (fun st s => (s.setF (F.STK_RSV_RDR_R st) (Nat.min 0xFFFF (s.readerSum c w st).ceil)).setF (F.STK_RSV_STG_R st) (Nat.min 0xFFFF (s.stageTerm cs st)))
  let terms := [s.readerTerm c w 0, s.readerTerm c w 1]
  let ports := s.peerPorts c w
  let s := s.eachOf (s.sitesOf c) (fun site s => s.clearSite site)
  let s := s.forgetRuns c
  let s := s.eachOf (s.channelsOf c) (fun ch s => s.onChan ch (fun x => { x with last := false }))
  let s := (s.wr (Reg.RDR_SITE_ACT_LO c) (s.rd (Reg.RDR_SITE_INIT_LO c))).wr (Reg.RDR_SITE_ACT_HI c) (s.rd (Reg.RDR_SITE_INIT_HI c))
  let s := (s.markStop c 0 0 0).setF (F.RDR_STATUS_STOP c) 0
  let s := ((s.wr (Reg.RDR_POS c) 0).wr (Reg.RDR_HOSTFLAG c) 0).setF (F.RDR_POS_WORD c) (s.f (F.RDR_SEQ_ENTRY_WORD c))
  s.onCtx c (fun x => { x.clearRun with
    ended := false, pos := s.f (F.RDR_SEQ_ENTRY_WORD c), special := 0, sinceOpen := 8, idleF := idle, holdF := hold,
    fabric := 0, acq := 0, tim := 0, vcnt := 0, vwrap := false, lcnt := 0, lwrap := false, acc := 0, ord := 0, held := 0,
    past := [], results := [], rdrTerm := terms, fabPorts := ports })

/-- ARMED, with the idle folio playing (Table 6-7). -/
def State.enterArmed (s : State) (c : Nat) : State :=
  let s := ((s.armRefuse c 0x01 0).setCtxState c .armed).prime c 200
  s.playIdle c 0

/-- ARM_CHECK_COMPLETE (R187): an Arm check under way ends; while a frequency change runs it has not begun (R253). The idle
folio's first leaf starts at a master-clock edge, `start`. -/
def execArmCheckComplete (c start : Nat) (s : State) : Host.Outcome State Fault Refusal :=
  .next (
    if !(s.ctx c).arming ∨ s.flag (F.STK_FREQ_GO 0) ∨ s.flag (F.STK_FREQ_GO 1) then s
    else
      let t := s.armLookups c
      match s.armCheck c with
      | .inr (st, detail) => t.armRefuse c st detail
      | .inl (w, idle, hold) => ((t.armLoad c w idle hold).onCtx c (fun x => { x with acc := start * 4096 * 65536 })).enterArmed c)

end Sys2Proof.Machine
end

