-- ==== Sys2Proof/Machine/Channels.lean ====
section
/-! DEFINITION. The commands of the pin channels (03_pin_channels.md), and the writes of R125. -/
namespace Sys2Proof.Machine

/-! ### Register writes -/

/-- A WL write of a channel takes effect: at the next boundary of the context that plays it in Characterise, else at once (R43).
`o` is the context that owned the channel before the write. -/
def State.chanWrite (s : State) (ch : Nat) (o : Option Nat) : State :=
  match o with
  | some c => if decide (s.mode = .characterise) && (s.ctxState c).playing then s.addDue c 1 (.settle ch) else s.chanApply ch
  | none => s.chanApply ch

/-- CHN_CTRL_WRITE (R83, R85, R96, R98, R320): context, path and mode; a change of PATH restarts the decimation chain. -/
def execChnCtrlWrite (ch : Nat) (w : BusWrite) (s : State) : Host.Outcome State Fault Refusal :=
  let o := s.owner ch
  let was := s.rd (Reg.CHN_CTRL ch)
  let path := s.f (F.CHN_CTRL_PATH ch)
  .next (s.onWrite (Reg.CHN_CTRL ch) w (fun s =>
    let s := if s.mode = .safe ∧ s.f (F.CHN_CTRL_PATH ch) = 0 then s.disconnect ch else s
    let s := if s.rd (Reg.CHN_CTRL ch) = was then s else s.chanWrite ch o
    if s.f (F.CHN_CTRL_PATH ch) = path then s else s.fltRestart ch))

/-- CHN_LEVEL_WRITE (R71, R72, R96): register `i` is VIH, VIL, VTT, VOH or VOL. -/
def execChnLevelWrite (ch i : Nat) (w : BusWrite) (s : State) : Host.Outcome State Fault Refusal :=
  let a := Reg.CHN_VIH ch + 4 * i
  let was := s.rd a
  .next (if 5 ≤ i then s else s.onWrite a w (fun s => if s.rd a = was then s else s.chanWrite ch (s.owner ch)))

/-- CHN_STATIC_WRITE (R84). -/
def execChnStaticWrite (ch : Nat) (w : BusWrite) (s : State) : Host.Outcome State Fault Refusal :=
  .next (s.onWrite (Reg.CHN_STATIC ch) w (fun s =>
    let x := s.chan ch
    let o := s.staticOut ch
    if x.ctl = .static ∧ (x.conn = 1 ∨ x.conn = 3) ∧ !s.chFenced ch then s.onChan ch (fun x => { x with out := o }) else s))

/-- CHN_PARK_WRITE (R87): LIVE. -/
def execChnParkWrite (ch : Nat) (w : BusWrite) (s : State) : Host.Outcome State Fault Refusal :=
  .next (s.onWrite (Reg.CHN_PARK ch) w (fun s =>
    s.atLeaf ch (.repark ch) (fun s => if (s.chan ch).ctl = .parked then s.park ch else s)))

/-- CHN_TERM_WRITE (R80, R96). -/
def execChnTermWrite (ch : Nat) (w : BusWrite) (s : State) : Host.Outcome State Fault Refusal :=
  let was := s.rd (Reg.CHN_TERM ch)
  .next (s.onWrite (Reg.CHN_TERM ch) w (fun s => if s.rd (Reg.CHN_TERM ch) = was then s else s.chanWrite ch (s.owner ch)))

/-- SETTLING_DONE (R96, R98): a channel opened for a change of MODE connects again, without a settling of its own. -/
def execSettlingDone (ch : Nat) (s : State) : Host.Outcome State Fault Refusal :=
  .next (
    let back := (s.chan ch).reconnect.isSome
    let s := s.onChan ch (fun x => { x with settling := false, reconnect := none })
    if back then (s.syncConn ch).onChan ch (fun x => { x with settling := false }) else s)

/-! ### Fences -/

/-- The owner of a channel lets a fence go: none, or IDLE, STOPPED or OFF (R93). -/
def State.ownerRests (s : State) (ch : Nat) : Bool :=
  match s.owner ch with
  | some c => !(s.ctxState c).active
  | none => true

/-- An uncleared fault of a unit remains (R93). -/
def State.unclearedOf (s : State) (u : Nat) : Bool := s.fcl.active.any (fun p => p.2.uncleared && decide (p.2.unit = u))

/-- A fenced channel is free: it takes the state Table 3-4 gives, and its chain restarts (R93, R320). -/
def State.unfence (s : State) (ch : Nat) : State :=
  let s1 := ((s.setF (F.CHN_FENCE_CAUSE ch) 0).setFlag (F.CHN_FENCE_CLEAR_PENDING ch) false).setFence (unitCode 1 ch) none
  let s1 := (s1.syncConn ch).fltRestart ch
  let s1 := if (s1.owner ch).map s1.ctxState = some .stopped ∨ s1.mode = .safe then s1.park ch else s1.static ch
  s1.degradedIrq s

/-- The conditions under which a pending clear takes effect (R93). -/
def State.mayUnfence (s : State) (ch : Nat) : Bool :=
  s.chFenced ch && !s.unclearedOf (unitCode 1 ch) && !decide (s.f (F.CHN_FENCE_CAUSE ch) ∈ [7, 8]) && s.ownerRests ch

/-- A channel loses the hold of its shelf (7) or bay (8): its own fence stays (R529), or the other area's does, else it is free (R93,
R538). -/
def State.dropHold (s : State) (ch cause : Nat) : State :=
  if s.f (F.CHN_FENCE_CAUSE ch) ≠ cause then s
  else match s.fence (unitCode 1 ch) with
    | some f =>
      let s := (s.setF (F.CHN_FENCE_CAUSE ch) f.cause).setFence (unitCode 1 ch) none
      if s.flag (F.CHN_FENCE_CLEAR_PENDING ch) && s.mayUnfence ch then s.unfence ch else s
    | none =>
      if cause = 7 ∧ s.fenced (unitCode 3 (ch / 64)) then s.setF (F.CHN_FENCE_CAUSE ch) 8
      else if cause = 8 ∧ s.fenced (unitCode 2 (ch / 8)) then s.setF (F.CHN_FENCE_CAUSE ch) 7
      else s.unfence ch

/-- The channels of a shelf or a bay, and the owners of all of them rest. -/
def areaOf (u : Nat) : List Nat :=
  if unitKind u = 2 then (List.range 8).map (fun i => 8 * unitIndex u + i) else (List.range 64).map (fun i => 64 * unitIndex u + i)
def State.areaRests (s : State) (u : Nat) : Bool := (areaOf u).all s.ownerRests

/-- A shelf or bay is free: the fences its channels took with it go, and a bay frees the shelves it took along (R538). -/
def State.unfenceArea (s : State) (u : Nat) : State :=
  let i := unitIndex u
  let s1 := if unitKind u = 2 then
      (s.setFence u (if s.fenced (unitCode 3 (i / 8)) then some { byBay := true } else none)).eachOf (areaOf u) (fun ch s => s.dropHold ch 7)
    else
      let s := (s.setFence u none).each 8 (fun k s => match s.fence (unitCode 2 (8 * i + k)) with
        | some f => if f.byBay then s.setFence (unitCode 2 (8 * i + k)) none else s
        | none => s)
      s.eachOf (areaOf u) (fun ch s => s.dropHold ch 8)
  s1.degradedIrq s

/-- A pending clear of a shelf or bay takes effect, and FCL_FENCE_CMD reads DONE where it names the unit (R538). A shelf that only its
bay's fence holds waits for the bay (DEDUCED, notes/assumptions/56.md). -/
def State.areaClear (s : State) (u : Nat) : State :=
  match s.fence u with
  | some f =>
    if f.pendingClear && !f.byBay && s.areaRests u then
      let s := s.unfenceArea u
      if s.f F.FCL_FENCE_CMD_RESULT = 2 ∧ s.f F.FCL_FENCE_CMD_UNIT = u then s.setF F.FCL_FENCE_CMD_RESULT 1 else s
    else s
  | none => if s.f F.FCL_FENCE_CMD_RESULT = 2 ∧ s.f F.FCL_FENCE_CMD_UNIT = u then s.setF F.FCL_FENCE_CMD_RESULT 1 else s

/-- CHN_FENCE: SET fences with cause HOST and raises the channel's Unit-fatal fault, which opens no window and never escalates
(R89, R525; DEDUCED, notes/assumptions/57.md); CLEAR asks for clearing (R93). -/
def State.chnFenceWrite (s : State) (ch : Nat) (w : BusWrite) : State :=
  s.onWrite (Reg.CHN_FENCE ch) w (fun s =>
    let s := if w.data.getLsbD 0 && !s.chFenced ch then
        (s.fenceUnit (unitCode 1 ch) 0 true).enter (unitCode 1 ch) 0x0C 2 0 .ended false
      else s
    if w.data.getLsbD 1 && s.chFenced ch then
      let s := s.setFlag (F.CHN_FENCE_CLEAR_PENDING ch) true
      if s.mayUnfence ch then s.unfence ch else s
    else s)

/-- CHN_FENCE_SET (R89). -/
def execChnFenceSet (ch : Nat) (w : BusWrite) (s : State) : Host.Outcome State Fault Refusal := .next (s.chnFenceWrite ch w)
/-- CHN_FENCE_CLEAR (R93). -/
def execChnFenceClear (ch : Nat) (w : BusWrite) (s : State) : Host.Outcome State Fault Refusal := .next (s.chnFenceWrite ch w)
/-- CHN_FENCE_RELEASE (R93, R538): a pending clear of the channel, of its shelf or of its bay takes effect once its conditions hold
together. -/
def execChnFenceRelease (ch : Nat) (s : State) : Host.Outcome State Fault Refusal :=
  .next (
    let s := (s.areaClear (unitCode 3 (ch / 64))).areaClear (unitCode 2 (ch / 8))
    if s.flag (F.CHN_FENCE_CLEAR_PENDING ch) && s.mayUnfence ch then s.unfence ch else s)

/-- The channel's PE is on its ball (R91, R92). -/
def State.peConnected (s : State) (ch : Nat) : Bool := decide ((s.chan ch).conn = 1 ∨ (s.chan ch).conn = 3)

/-- OVERVOLT (R91). -/
def execOvervolt (ch : Nat) (s : State) : Host.Outcome State Fault Refusal :=
  .next (
    if !s.wide ch && s.peConnected ch then
      (s.setFlag (F.CHN_STATUS_OVERVOLT ch) true).raise { unit := unitCode 1 ch, cause := 0x14, cls := 2, held := true }
    else s)

/-- ILIM_REACHED (R92). -/
def execIlimReached (ch : Nat) (s : State) : Host.Outcome State Fault Refusal :=
  .next (if s.peConnected ch then s.setFlag (F.CHN_STATUS_ILIM ch) true else s)

/-- OVERCURRENT (R92). -/
def execOvercurrent (ch : Nat) (s : State) : Host.Outcome State Fault Refusal :=
  .next (
    if s.peConnected ch then
      (s.setFlag (F.CHN_STATUS_ILIM ch) true).raise { unit := unitCode 1 ch, cause := 0x13, cls := 2, held := true }
    else s)

/-! ### Timing in Characterise -/

/-- CHARACTERISE_TIMING_WRITE (R125): a write of an EDG or RDR_PER register; the leaf that begins next uses it, and one that
would make its active context fail Table 4-12 is denied. -/
def execCharacteriseTimingWrite (a : Nat) (w : BusWrite) (s : State) : Host.Outcome State Fault Refusal :=
  let timing := match blockOf a with
    | .chn ch => decide (0x200 ≤ a - chnBase ch)
    | .rdr c => decide (0xF000 ≤ a - ctxBase c)
    | _ => false
  .next (if timing then s.onWrite a w (fun s => s) else s)

end Sys2Proof.Machine
end

