-- ==== Sys2Proof/Machine/StackOps.lean ====
section
/-! DEFINITION. Reads and writes of the stacks as every requester makes them: outcomes and responses, mirror windows, bad granules
(09_stacks_controller.md R255 to R264). -/
namespace Sys2Proof.Machine

/-! ### Mirror windows -/

/-- An enabled window that covers an OFFSET (R262). -/
def State.windowAt (s : State) (off : Nat) : Option Nat :=
  (List.range 8).find? (fun w => s.flag (F.STK_MIR_BASE_EN w) &&
    (let b := s.f (F.STK_MIR_BASE_BASE w) * 2097152
     decide (b ≤ off) && decide (off < b + s.f (F.STK_MIR_SIZE_SIZE w) * 2097152)))

/-- The twin of a LOCAL address on the other stack. -/
def twin (a : Nat) : Nat := localAddr (1 - stackOf a) (offsetOf a)

/-- A covering window's copies agree (R264). -/
def State.mirrorSync (s : State) (off : Nat) : Bool :=
  match s.windowAt off with
  | some w => s.flag (F.STK_MIR_STATUS_SYNC w)
  | none => false

/-! ### Outcomes -/

/-- Outcomes of Table 9-8: 0 CLEAN, 1 DIE_CORR, 2 CORRECTED, 3 UNCORR, from the on-die severity (0 none, 1 corrected, 2
uncorrected) and the controller's code (0 clean, 1 one symbol corrected, 2 uncorrectable or address mismatch). -/
def readOutcome (die code : Nat) : Nat :=
  if 2 ≤ die ∨ 2 ≤ code then 3 else if code = 1 then 2 else if die = 1 then 1 else 0

/-- UNCORR and WRITE_ERROR outcomes of a stack: 16 within any 1 s fence it (R259). -/
def State.stkError (s : State) (st : Nat) : State :=
  let l := s.now :: (s.stk st).errs.filter (fun t => decide (s.now < t + 100000000))
  let s := s.onStk st (fun x => { x with errs := l })
  if 16 ≤ l.length ∧ s.stkState st ≠ 5 then s.raise { unit := unitCode 9 st, cause := 0x17, cls := 2 } else s

/-- Counter, log and fault of a read outcome at a granule (Table 9-8); `sym` is the corrected symbol. -/
def State.stkOutcome (s : State) (a outcome cls sym : Nat) : State :=
  let st := stackOf a
  let g := a / 64 * 64
  match outcome with
  | 1 => s.satInc (F.STK_CNT_DIE st)
  | 2 => ((s.satInc (F.STK_CNT_CORR st)).stkLogEntry 1 cls st g sym).enter (unitCode 9 st) 0x04 0 (g % 2 ^ 32) .ended false
  | 3 => (((s.satInc (F.STK_CNT_UNC st)).stkLogEntry 2 cls st g 0).raise { unit := unitCode 9 st, cause := 0x03, cls := 1, detail := g % 2 ^ 32 }).stkError st
  | _ => s

/-! ### Granules -/

/-- Store bytes in one granule of a stack. Data marked bad, or a part of a granule that reads bad, leaves it bad (R257). -/
def State.putGranule (s : State) (a : Nat) (bs : List Byte) (bad : Bool) : State :=
  let keeps := s.badGranule a && decide (bs.length < 64)
  ((s.stBytes a bs).setBad a (bad || keeps))

/-- Write within one granule, on both stacks in an enabled window while both serve (R257, R263, R266): the response of Table 9-9. -/
def State.writeGranule (s : State) (a cls : Nat) (bs : List Byte) (bad : Bool) : Nat × State :=
  let st := stackOf a
  let two := (s.windowAt (offsetOf a)).isSome
  let up := s.stkUp st
  let upTwin := s.stkUp (1 - st)
  let isBad := bad || (s.badGranule a && decide (bs.length < 64))
  let s := if isBad then s.stkLogEntry 3 cls st (a / 64 * 64) 0 else s
  let s := if up then s.putGranule a bs bad else s
  let s := if two && upTwin then s.putGranule (twin a) bs bad else s
  (if up || (two && upTwin) then 0 else 2, s)

/-- Cut a run of bytes at granules: address and bytes of each piece. -/
def granules : Nat → Nat → List Byte → List (Nat × List Byte)
  | 0, _, _ => []
  | _, _, [] => []
  | fuel + 1, a, bs => (a, bs.take (64 - a % 64)) :: granules fuel (a + (64 - a % 64)) (bs.drop (64 - a % 64))

/-- Write a run of bytes; `bad` tells, by offset from `a`, which arrive marked bad. The offset of the first piece that was not
stored and its response, if any. -/
def State.stkWrite (s : State) (a cls : Nat) (bs : List Byte) (bad : Nat → Bool) : Option (Nat × Nat) × State :=
  (granules (bs.length + 1) a bs).foldl (fun (r : Option (Nat × Nat) × State) p =>
    match r.1 with
    | some _ => r
    | none =>
      let off := p.1 - a
      if !localOk p.1 1 then (some (off, 3), r.2)
      else
        let (resp, s) := r.2.writeGranule p.1 cls p.2 ((List.range p.2.length).any (fun i => bad (off + i)))
        (if resp = 0 then none else some (off, resp), s)) (none, s)

/-- A granule that reads bad is served from its twin in a window in SYNC, which also mends it (R264). -/
def State.mendGranule (s : State) (a cls : Nat) : State :=
  let g := a / 64 * 64
  if s.badGranule g && s.mirrorSync (offsetOf g) && s.stkUp (stackOf g) && s.stkUp (stackOf (twin g)) && !s.badGranule (twin g) then
    ((s.stkOutcome g 3 cls 0).putGranule g (s.ldBytes (twin g) 64) false).stkLogEntry 9 cls (stackOf g) g 0
  else s

/-- Read a run of bytes for an engine: the bytes, the offsets of granules that read POISON, and the offset and response of a
failure (R256). Each granule that reads uncorrectable counts as such. -/
def State.stkRead (s : State) (a cls n : Nat) : (List Byte × List Nat × Option (Nat × Nat)) × State :=
  if !localOk a 1 then (([], [], some (0, 3)), s)
  else if !s.stkUp (stackOf a) then (([], [], some (0, 2)), s)
  else
    let gs := (granules (n + 1) a (List.replicate n 0)).map (fun p => p.1)
    let bads := gs.filter s.badGranule
    let s := bads.foldl (fun s g => s.mendGranule g cls) s
    let still := bads.filter s.badGranule
    let s := still.foldl (fun s g => s.stkOutcome g 3 cls 0) s
    let far := if localOk a n then none else some (stackBytes - offsetOf a, 3)
    ((s.ldBytes a n, still.map (fun g => g - a), far), s)

end Sys2Proof.Machine
end

