-- ==== Sys2Proof/Machine/ArchOps.lean ====
section
/-! DEFINITION. The Archive as its users read it: bytes, slots and commit words (21_security_and_archive.md R583, R584). -/
namespace Sys2Proof.Machine

/-- Bytes of the Archive; an erased byte reads 0xFF. -/
def Archive.bytes (a : Archive) (at_ n : Nat) : List Byte := (List.range n).map (fun i => SMap.get 0xFF a.cells (at_ + i))
/-- Program bytes: a program only clears bits (serial NOR flash; PRESUMED, notes/assumptions/37.md). -/
def Archive.program (a : Archive) : Nat → List Byte → Archive
  | _, [] => a
  | at_, b :: bs => Archive.program { a with cells := SMap.put 0xFF a.cells at_ (SMap.get 0xFF a.cells at_ &&& b) } (at_ + 1) bs
/-- Erase a 64 KiB sector. -/
def Archive.erase (a : Archive) (at_ : Nat) : Archive :=
  { a with cells := a.cells.filter (fun p => decide (p.1 / 0x10000 ≠ at_ / 0x10000)) }

/-- The commit word of a slot: its sequence where the slot is valid (R584). -/
def Archive.slotSeq (a : Archive) (base : Nat) : Option Nat :=
  let w := a.bytes (base + 0xFFF8) 8
  if leAt w 4 4 = 0x736C6F74 then some (leAt w 0 4) else none

/-- The active slot of a pair at `base` and `base` + 64 KiB, with its sequence: the valid one with the higher sequence. -/
def Archive.activeSlot (a : Archive) (base : Nat) : Option (Nat × Nat) :=
  match a.slotSeq base, a.slotSeq (base + 0x10000) with
  | some x, some y => if x < y then some (base + 0x10000, y) else some (base, x)
  | some x, none => some (base, x)
  | none, some y => some (base + 0x10000, y)
  | none, none => none
/-- The inactive slot of a pair. -/
def Archive.inactiveSlot (a : Archive) (base : Nat) : Nat :=
  match a.activeSlot base with
  | some (b, _) => if b = base then base + 0x10000 else base
  | none => base

/-- Queue the write of a slot: erase, content, commit word with the active sequence + 1 (R584). -/
def State.writeSlot (s : State) (who : Writer) (base tag : Nat) (bs : List Byte) : State :=
  let at_ := s.arch.inactiveSlot base
  let seq := ((s.arch.activeSlot base).map (fun p => p.2)).getD 0 + 1
  s.onArch (fun a => a.enqueue { writer := who, erase := [at_], addr := at_, data := bs, commitAddr := at_ + 0xFFF8,
                                 commit := leBytes seq 4 ++ leBytes 0x736C6F74 4, tag := tag })

/-- The pairs of slots. -/
def licenceBase : Nat := 0x30000
def errataBase : Nat := 0x50000

end Sys2Proof.Machine
end

