-- ==== Sys2Proof/Machine/HostOps.lean ====
section
/-! DEFINITION. The host port as every family of commands uses it: host memory accesses, rings and their entries, and requests
to the ORIGIN of a folio (16_host_rings_and_dma.md, 08_library_and_catalogue.md R220, R231). -/
namespace Sys2Proof.Machine

def State.ring (s : State) (r : Nat) : Ring := SMap.get {} s.hp.rings r
def State.setRing (s : State) (r : Nat) (x : Ring) : State := { s with hp := { s.hp with rings := SMap.put {} s.hp.rings r x } }
def State.onRing (s : State) (r : Nat) (g : Ring → Ring) : State := s.setRing r (g (s.ring r))

/-! ### Host memory -/

/-- Max_Payload_Size and Max_Read_Request_Size in bytes (R435, R462). -/
def State.mps (s : State) : Nat := 128 * 2 ^ Nat.min 2 (bitsAt (s.cfgDword 18) 5 3)
def State.mrrs (s : State) : Nat := 128 * 2 ^ Nat.min 5 (bitsAt (s.cfgDword 18) 12 3)

/-- Where the next TLP of a transfer of n bytes ends: at the size limit and at every 4 KiB boundary (R462). -/
def tlpLen (max a n : Nat) : Nat := Nat.min (Nat.min max n) (4096 - a % 4096)

/-- Write bytes to host memory; `bad` tells by offset from `base` which are marked bad (R462, R464). -/
def State.hostStore (s : State) (base : Nat) (bad : Nat → Bool) : Nat → Nat → List Byte → State
  | 0, _, _ => s
  | _, _, [] => s
  | fuel + 1, a, bs =>
    let n := tlpLen s.mps a bs.length
    (s.emit (.hostWrite a (bs.take n) ((List.range n).any (fun i => bad (a - base + i))))).hostStore base bad fuel (a + n) (bs.drop n)

def State.hostPut (s : State) (a : Nat) (bs : List Byte) : State := s.hostStore a (fun _ => false) bs.length a bs

/-- Read requests for n bytes of host memory (R462). -/
def State.hostFetch (s : State) : Nat → Nat → Nat → State
  | 0, _, _ => s
  | fuel + 1, a, n => if n = 0 then s else
    let k := tlpLen s.mrrs a n
    (s.emit (.hostRead a k)).hostFetch fuel (a + k) (n - k)

/-! ### Rings -/

def State.ringKind (s : State) (r : Nat) : Nat := s.f (F.HST_RING_CFG_KIND r)
def State.ringCount (s : State) (r : Nat) : Nat := s.f (F.HST_RING_PTR_PTR r)
def State.ringRuns (s : State) (r : Nat) : Bool := s.flag (F.HST_RING_CFG_EN r)

/-- The phase of a count (R440). -/
def State.phaseOf (s : State) (r c : Nat) : Nat := if c / s.ringEntries r % 2 = 0 then 1 else 0

/-- PHASE and BACKLOG follow the ring (Table 16-9). -/
def State.ringShow (s : State) (r : Nat) : State :=
  (s.setF (F.HST_RING_STATUS_PHASE r) (s.phaseOf r (s.ringCount r))).setF (F.HST_RING_STATUS_BACKLOG r) (s.ring r).backlog.length

/-- A ring stops with a cause of Table 16-9 (R446). -/
def State.ringStop (s : State) (r cause : Nat) : State :=
  let s := s.setFlag (F.HST_RING_CFG_EN r) false
  (s.setF (F.HST_RING_STATUS_STOP r) cause).setF (F.HST_RING_STATUS_STATE r) (if (s.ring r).desc.isSome then 2 else 3)

/-- Free entries of a COMPLETE or REQUEST ring (R440, R441). -/
def State.ringFree (s : State) (r : Nat) : Nat := s.ringEntries r - (s.ringCount r + 65536 - (s.ring r).host) % 65536

/-- A COMPLETE or REQUEST ring sends its message (R451). -/
def State.ringSignal (s : State) (r : Nat) : State :=
  (s.onRing r (fun x => { x with unsig := 0 })).signal (s.f (F.HST_RING_CFG_MSIX r))

/-- Write one entry with its PHASE, and signal where R451 says so (R440, R449 to R451). -/
def State.ringWrite (s : State) (r : Nat) (bs : List Byte) (now : Bool) : State :=
  let c := s.ringCount r
  let bs := bs.take 1 ++ leBytes (s.phaseOf r c) 1 ++ bs.drop 2
  let s := s.hostPut (s.ringBase r + 32 * (c % s.ringEntries r)) bs
  let s := ((s.setF (F.HST_RING_PTR_PTR r) ((c + 1) % 65536)).onRing r (fun x => { x with unsig := x.unsig + 1 })).ringShow r
  if now || decide (Nat.max 1 (s.f (F.HST_RING_IRQ_COUNT r)) ≤ (s.ring r).unsig) then s.ringSignal r else s

/-- The backlog leaves in order while entries are free (R448). -/
def State.ringFlush (s : State) (r : Nat) : Nat → State
  | 0 => s
  | fuel + 1 =>
    match (s.ring r).backlog with
    | [] => s
    | (bs, now) :: rest =>
      if s.ringRuns r && decide (s.ringFree r ≠ 0) then
        (((s.onRing r (fun x => { x with backlog := rest })).ringWrite r bs now).ringShow r).ringFlush r fuel
      else s

/-- A completion entry: into the ring, or into its backlog while that is not free (R447, R448). -/
def State.ringComplete (s : State) (r : Nat) (bs : List Byte) (now : Bool) : State :=
  ((s.onRing r (fun x => { x with backlog := x.backlog ++ [(bs, now)] })).ringFlush r ((s.ring r).backlog.length + 1)).ringShow r

/-! ### Requests to an ORIGIN -/

/-- Requests of a host origin that are out (R452). -/
def State.originOut (s : State) (h : Nat) : Nat :=
  (s.lib.reqs.filter (fun q => decide (q.addr / 2 ^ 50 = 2) && decide (bitsAt q.addr 46 4 = h) && !q.done)).length
def State.showOrigin (s : State) (h : Nat) : State := s.setF (F.HST_ORIGIN_STATUS_OUT h) (s.originOut h)

/-- A TAG of the Burcel's own choice that no request bears (R452): the first free one from a free value on. -/
def State.newTag (s : State) : Nat :=
  let v := (s.freeBits 16).toNat
  (((List.range (s.lib.reqs.length + 1)).map (fun i => (v + i) % 65536)).find? (fun t => !s.lib.reqs.any (fun q => decide (q.tag = t)))).getD v

def State.onReq (s : State) (tag : Nat) (g : OriginReq → OriginReq) : State :=
  s.onLib (fun l => { l with reqs := l.reqs.map (fun q => if q.tag = tag then g q else q) })

/-- A request entry of Table 16-6. -/
def requestEntry (h tag off len : Nat) : List Byte :=
  leBytes h 1 ++ leBytes 0 1 ++ leBytes 0 2 ++ leBytes tag 4 ++ leBytes off 8 ++ leBytes len 4 ++ leBytes 0 12

/-- Send a request: a LOCAL origin is read at once, a member is asked by LIB_READ, a host origin by its REQUEST ring (R208, R216,
R393, R452). -/
def State.sendRequest (s : State) (q : OriginReq) : State :=
  match q.addr / 2 ^ 50 with
  | 0 =>
    let ((bs, poison, fail), s) := s.stkRead q.addr (if q.ctx = none then 5 else 2) q.len
    s.onReq q.tag (fun q => { q with bytes := bs, bad := decide (poison ≠ []) || fail.isSome, done := true })
  | 1 =>
    let (s, ok) := s.sendTo (bitsAt q.addr 46 4)
      { vc := 0, kind := 1, tag := q.tag, arg := ceilDiv q.len 64, payload := leBytes (q.addr % 2 ^ 41) 8 ++ leBytes 0 4 }
    if ok then s else s.onReq q.tag (fun q => { q with bad := true, done := true })
  | _ =>
    let h := bitsAt q.addr 46 4
    let r := s.f (F.HST_ORIGIN_REQUEST h)
    let s := s.showOrigin h
    if s.ringRuns r && decide (s.ringFree r ≠ 0) then
      (s.ringWrite r (requestEntry h q.tag (q.addr % 2 ^ 46) q.len) false).onReq q.tag (fun q => { q with waiting := false })
    else s.onReq q.tag (fun q => { q with waiting := true })

/-- Ask for n bytes at a library address for a staged part, or for a LOAD. -/
def State.originAsk (s : State) (addr len : Nat) (ctx : Option Nat) (cn part : Nat) : State :=
  let q : OriginReq := { tag := s.newTag, addr := addr, len := len, ctx := ctx, cn := cn, part := part }
  (s.nextFree.onLib (fun l => { l with reqs := l.reqs ++ [q] })).sendRequest q

/-- Ask in stretches of at most 64 KiB (R452). -/
def State.originAskAll (s : State) (addr : Nat) (ctx : Option Nat) (cn part : Nat) : Nat → Nat → State
  | 0, _ => s
  | fuel + 1, len => if len = 0 then s else
    let n := Nat.min len 65536
    (s.originAsk addr n ctx cn part).originAskAll (addr + n) ctx cn part fuel (len - n)

/-- Requests that wait for a REQUEST ring's entry are written as it frees (R452). -/
def State.originRetry (s : State) (r : Nat) : State :=
  s.eachOf (s.lib.reqs.filter (fun q => q.waiting && decide (s.f (F.HST_ORIGIN_REQUEST (bitsAt q.addr 46 4)) = r)))
    (fun q s => if s.ringRuns r && decide (s.ringFree r ≠ 0) then s.sendRequest q else s)

/-- Requests of a test are dropped: their answers find an unknown TAG. -/
def State.dropReqs (s : State) (p : OriginReq → Bool) : State :=
  let s := s.onLib (fun l => { l with reqs := l.reqs.filter (fun q => !p q) })
  s.each 16 (fun h s => s.showOrigin h)

end Sys2Proof.Machine
end

