-- ==== Sys2Proof/Machine/Ledger.lean ====
section
/-! DEFINITION. The Ledger's commands: stored records, stream enables, the drainer's pointer, quotas and the site counters
(10_ledger.md). -/
namespace Sys2Proof.Machine

def State.strWr (s : State) (k : Nat) : Nat := (s.rd (Reg.LDG_STR_WR (k / 21) (k % 21))).toNat

/-- A stream's buffered records are lost: each but a PAD counts (R272, R298, R299). -/
def State.loseBuffer (s : State) (k : Nat) : State :=
  let st := s.stream k
  let n := (st.buf.filter (fun r => decide (ofLe (r.take 1) ≠ 0))).length
  let s := (List.range n).foldl (fun s _ => s.lose k) s
  s.setStream k { s.stream k with buf := [], adm := s.strWr k }

/-- A write of the record that WRITE_ERROR ends: the stack's counts and fault, and the record's granules read POISON (R258, R298). -/
def State.spoilRecord (s : State) (a n : Nat) : State :=
  let g := a / 64 * 64
  let s := ((s.stkLogEntry 4 1 (stackOf a) g 0).raise
    { unit := unitCode 9 (stackOf a), cause := (s.freeBits 8).toNat, cls := 1, detail := g % 2 ^ 32 }).nextFree.stkError (stackOf a)
  (List.range ((a + n - 1) / 64 - a / 64 + 1)).foldl (fun s i => s.setBad (g + 64 * i) true) s

/-- RECORD_STORED (R274, R276, R297 to R299): the oldest record of a stream's buffer reaches the ring and WR passes it; `failed`,
the stack ended its write with WRITE_ERROR. A fenced stack or slice loses what is buffered. -/
def execRecordStored (k : Nat) (failed : Bool) (s : State) : Host.Outcome State Fault Refusal :=
  .next (
    let st := s.stream k
    match st.buf with
    | [] => s
    | r :: rest =>
      let b := k / 21
      let t := k % 21
      let a := s.strBase k + s.strWr k % s.strSize k
      let mirror := (s.windowAt (offsetOf a)).isSome && s.stkUp (1 - stackOf a)
      if s.fenced (unitCode 5 b) then s.loseBuffer k
      else if !s.stkUp (stackOf a) && !mirror then
        let s := (s.loseBuffer k).setFlag (F.LDG_STR_STATUS_BACKLOG b t) true
        if s.flag (F.LDG_SLICE_STATUS_BACKLOG b) then s
        else ((s.setFlag (F.LDG_SLICE_STATUS_BACKLOG b) true).irq (0x7C + b)).note (unitCode 5 b) 0x19
      else
        let s := s.wr (Reg.LDG_STR_WR b t) (BitVec.ofNat 32 (s.strWr k + r.length))
        let s := s.setStream k { st with buf := rest }
        if failed then (s.spoilRecord a r.length).setFlag (F.LDG_STR_STATUS_WRITE_ERR b t) true
        else (s.stkWrite a 1 r (fun _ => false)).2)

/-- LDG_STR_ENABLE (R272): a write to LDG_STR_CFG; setting EN starts the stream at 0, clearing it discards what is buffered. -/
def execLdgStrEnable (k : Nat) (w : BusWrite) (s : State) : Host.Outcome State Fault Refusal :=
  .next (
    let b := k / 21
    let t := k % 21
    let was := s.strEn k
    s.onWrite (Reg.LDG_STR_CFG b t) w (fun s =>
      match was, s.strEn k with
      | false, true =>
        let s := s.eachOf [Reg.LDG_STR_WR b t, Reg.LDG_STR_DR b t, Reg.LDG_STR_SEQ b t, Reg.LDG_STR_LOST b t] (fun a s => s.wr a 0)
        let s : State := { s with wks := { s.wks with nextSeq := SMap.put 0 s.wks.nextSeq k 0 } }
        s.setStream k {}
      | true, false => s.loseBuffer k
      | _, _ => s))

/-- A site leaves over-quota once its level is below the effective quota, and writes its QUOTA record (R293). -/
def State.leaveQuota (s : State) (site : Nat) : State :=
  let k := strOfSite site
  if s.flag (F.LDG_SITE_STATUS_OVER site) && decide (s.strLevel k < s.quota site) then
    let n := (s.stream k).dropped
    let c := s.siteOwner site
    let s := (s.setFlag (F.LDG_SITE_STATUS_OVER site) false).setStream k { s.stream k with dropped := 0 }
    s.event k 0x0D (s.ctx c).lcnt (if c < 16 then c else 0xFF) site 16 (leBytes n 4 ++ leBytes (s.quota site) 4)
  else s

/-- The site whose stream this is. -/
def siteOfStr (k : Nat) : Option Nat := if k % 21 < 16 then some (16 * (k / 21) + k % 21) else none

/-- DR moves, and the stream's site may leave over-quota (R274, R293). -/
def State.advanceDr (s : State) (k v : Nat) : State :=
  let s := s.wr (Reg.LDG_STR_DR (k / 21) (k % 21)) (BitVec.ofNat 32 v)
  match siteOfStr k with
  | some site => s.leaveQuota site
  | none => s

/-- LDG_STR_DR_WRITE (R274, R293): the drainer frees bytes; a bad value is ignored with DR_ERR. -/
def execLdgStrDrWrite (k : Nat) (w : BusWrite) (s : State) : Host.Outcome State Fault Refusal :=
  .next (
    let a := Reg.LDG_STR_DR (k / 21) (k % 21)
    s.onPlain a w (fun s =>
      let level := fun (dr : Nat) => (s.strWr k + 2 ^ 32 - dr) % 2 ^ 32
      if w.data.toNat % 8 ≠ 0 ∨ level (s.strDr k) < level w.data.toNat then s.setFlag (F.LDG_STR_STATUS_DR_ERR (k / 21) (k % 21)) true
      else s.advanceDr k w.data.toNat))

/-- LDG_SITE_QUOTA_WRITE (R291, R293). -/
def execLdgSiteQuotaWrite (site : Nat) (w : BusWrite) (s : State) : Host.Outcome State Fault Refusal :=
  .next (s.onWrite (Reg.LDG_SITE_QUOTA site) w (fun s =>
    if s.quota site < s.strLevel (strOfSite site) then s.overQuota site (s.siteOwner site) else s.leaveQuota site))

/-- LDG_SITE_FAIL_READ (R300): a consuming read latches the drop count and the saturation flags; a peek only returns the count. -/
def execLdgSiteFailRead (site : Nat) (peek : Bool) (s : State) : Host.Outcome State Fault Refusal :=
  .next (
    let c := s.siteCount site
    let v := s.f (F.LDG_SITE_FAIL_FAIL site)
    let s := s.emit (.answer (Reg.LDG_SITE_FAIL site) v)
    if peek then s
    else
      let s := ((s.setF (F.LDG_SITE_DROP_DROP site) c.drop).setFlag (F.LDG_SITE_SNAP_DROP_SAT site) c.dropSat).setFlag
        (F.LDG_SITE_SNAP_FAIL_SAT site) c.failSat
      s.setSiteCount site { c with failSat := false, dropSat := false })

/-- LDG_SITE_FAIL_WRITE (R301): loads the counter. -/
def execLdgSiteFailWrite (site : Nat) (w : BusWrite) (s : State) : Host.Outcome State Fault Refusal :=
  .next (s.onPlain (Reg.LDG_SITE_FAIL site) w (fun s => s.wr (Reg.LDG_SITE_FAIL site) w.data))

/-- LDG_SITE_DROP_WRITE (R301): loads the drop counter; the latched value stays. -/
def execLdgSiteDropWrite (site : Nat) (w : BusWrite) (s : State) : Host.Outcome State Fault Refusal :=
  .next (s.onPlain (Reg.LDG_SITE_DROP site) w (fun s => s.setSiteCount site { s.siteCount site with drop := w.data.toNat }))

/-- FF_CLR (R279): the first-fail registers clear, so that the next failing vector is again a first fail. -/
def execFfClr (site : Nat) (w : BusWrite) (s : State) : Host.Outcome State Fault Refusal :=
  .next (s.onWrite (Reg.LDG_SITE_STATUS site) w (fun s =>
    if bitAt w.data.toNat 3 then
      s.eachOf [Reg.LDG_FF_CN site, Reg.LDG_FF_FLEAF site, Reg.LDG_FF_LEAF_LO site, Reg.LDG_FF_LEAF_HI site, Reg.LDG_FF_POS site]
        (fun a s => s.wr a 0)
    else s))

end Sys2Proof.Machine
end

