-- ==== Sys2Proof/Machine/Works.lean ====
section
/-! DEFINITION. The work scheduler, the work kinds the clerks run, and the datalog channels (17_clerks.md). -/
namespace Sys2Proof.Machine

/-! ### Enqueueing -/

/-- Items in the ready lists, and positions of a flow not yet released. -/
def State.readyCount (s : State) : Nat := (s.wks.items.filter (fun x => decide (x.place = 1))).length
def State.flowCount (s : State) (flow : Nat) : Nat := (s.wks.items.filter (fun x => x.ordered && decide (x.flow = flow))).length
/-- Free places outside those kept for firmware (R477). -/
def State.hasRoom (s : State) : Bool := decide (s.readyCount < 16384 - 256)

/-- Enqueue an item: it takes its flow position, and waits in the delay list until its DUE (R474 to R476). -/
def State.enqueueWork (s : State) (x : WorkItem) : State :=
  let n := s.wks.nextId
  let late := decide (s.wks.tick < x.due)
  let pos := SMap.get 0 s.wks.pos x.flow
  let x := { x with id := n, place := if late then 0 else 1, list := x.prio, since := s.wks.tick, pos := if x.ordered then pos else 0 }
  let s := s.onWks (fun w => { w with nextId := n + 1, items := w.items ++ [x],
                                      pos := if x.ordered then SMap.put 0 w.pos x.flow (pos + 1) else w.pos,
                                      delay := if late then w.delay ++ [n] else w.delay })
  if late then s else s.setReady x.prio (s.readyList x.prio ++ [n])

/-- The 32 bytes of the host's item, as eight words (Table 17-1). -/
def State.hostItem (s : State) : List Byte := (List.range 8).flatMap (fun i => leBytes (s.rd (Reg.WKS_HOST_ITEM i)).toNat 4)

/-- WKS_HOST_SUBMIT (R473, R477): RESULT 1 ACCEPTED, 2 INVALID, 3 FULL, 4 DISABLED. -/
def execWksHostSubmit (w : BusWrite) (s : State) : Host.Outcome State Fault Refusal :=
  .next (s.onWrite Reg.WKS_HOST_SUBMIT w (fun s =>
    let s := s.setF F.WKS_HOST_SUBMIT_GO 0
    if !w.data.getLsbD 31 then s
    else
      let b := s.hostItem
      let kind := leAt b 0 1
      let ctrl := leAt b 1 1
      let flow := leAt b 2 2
      let due := leAt b 0x10 8
      let ordered := bitAt ctrl 3
      let bad := !decide (kind ∈ [2, 3, 4, 6]) || decide (16 ≤ ctrl) || decide (4096 ≤ flow) || decide (2 ^ 48 ≤ due) ||
        decide (leAt b 0x19 7 ≠ 0) || decide (flow < 128)
      let full := !s.hasRoom || (decide (s.wks.tick < due) && decide (1024 ≤ s.wks.delay.length)) || (ordered && decide (256 ≤ s.flowCount flow))
      let r := if bad then 2 else if !s.flag F.WKS_CTRL_EN || !s.domOn 49 then 4 else if full then 3 else 1
      let s := s.setF F.WKS_HOST_SUBMIT_RESULT r
      if r = 1 then s.enqueueWork { id := 0, kind := kind, prio := ctrl % 8, ordered := ordered, flow := flow, tag := leAt b 4 4, arg := leAt b 8 8,
                                    due := due, origin := 1 }
      else s))

/-! ### Streams as the clerks see them -/

/-- The end of a stream's last claim not yet released, else DR (R475). -/
def State.claimEnd (s : State) (k : Nat) : Nat :=
  ((s.wks.items.filterMap (fun x => if decide (x.kind = 1) && decide (x.arg % 128 = k / 21 + 4 * (k % 21)) then x.claim else none)).getLast?.map
    (fun q => q.2)).getD (s.strDr k)

/-- Bytes between two counts of a stream (R273). -/
def gap32 (a b : Nat) : Nat := (b + 2 ^ 32 - a) % 2 ^ 32

/-- The records from count p on, up to `upto`: where each lies and its length. -/
def State.recordsFrom (s : State) (k upto : Nat) : Nat → Nat → List (Nat × Nat)
  | 0, _ => []
  | fuel + 1, p =>
    let n := 8 * leAt (s.ldBytes (s.strBase k + p % s.strSize k) 16) 2 2
    if n = 0 ∨ gap32 p upto < n then [] else (p, n) :: s.recordsFrom k upto fuel ((p + n) % 2 ^ 32)

/-- The header of a stored record. -/
def State.recordAt (s : State) (k p : Nat) : List Byte := s.ldBytes (s.strBase k + p % s.strSize k) 16
def recKind (h : List Byte) : Nat := leAt h 0 1
def recSeq (h : List Byte) : Nat := leAt h 4 4
def recLeaf (h : List Byte) : Nat := leAt h 8 6

/-- The records of a stream below a count, from its unclaimed bytes. -/
def State.unclaimed (s : State) (k : Nat) : List (Nat × Nat) :=
  let p := s.claimEnd k
  s.recordsFrom k (s.strWr k) (gap32 p (s.strWr k) / 16 + 1) p

/-- DRAIN_ENQUEUE (R470); stream 21·bay + t. -/
def execDrainEnqueue (k : Nat) (s : State) : Host.Outcome State Fault Refusal :=
  .next (
    let n := gap32 (s.claimEnd k) (s.strWr k)
    let arg := k / 21 + 4 * (k % 21)
    let waiting := s.wks.items.any (fun x => decide (x.kind = 1) && decide (x.arg % 128 = arg) && decide (x.place ≤ 1))
    let thr := 1024 * Nat.max 1 (s.f F.WKS_DRAIN_THR_THR)
    let last := SMap.get 0 s.wks.lastDrain k
    let old := decide (last + 1000 ≤ s.wks.tick)
    let ended := (s.unclaimed k).any (fun q => decide (recKind (s.recordAt k q.1) = 0x0C))
    let flow := 32 * (k / 21) + k % 21
    if bitAt (s.rd (Reg.WKS_DRAIN_EN (k / 21))).toNat (k % 21) && s.domOn 49 && decide (n ≠ 0) && !waiting &&
        (decide (thr ≤ n) || ended || old) && s.hasRoom && decide (s.flowCount flow < 256) then
      (s.enqueueWork { id := 0, kind := 1, prio := 4, ordered := true, flow := flow, arg := arg }).onWks
        (fun w => { w with lastDrain := SMap.put 0 w.lastDrain k w.tick })
    else s)

/-! ### Dispatch -/

/-- A debug halt holds a clerk (R480). -/
def State.clerkHalted (s : State) (i : Nat) : Bool := bitAt (s.f F.DBG_CLK_STATUS_HALTED) i

def WorkItem.stream (x : WorkItem) : Nat := 21 * (x.arg % 4) + x.arg / 4 % 32

/-- Every record of a FINAL DRAIN's leaf is stored (R471). -/
def State.finalStored (s : State) (x : WorkItem) : Bool :=
  match x.final with
  | none => true
  | some leaf =>
    let k := x.stream
    (s.stream k).buf.all (fun r => decide (leaf < recLeaf r)) &&
      (match siteOfStr k with
       | some site => let c := s.siteOwner site
                      decide (16 ≤ c) || (s.ctx c).past.all (fun p => decide (leaf < p.leaf)) || decide (leaf + 4 ≤ (s.ctx c).lcnt)
       | none => true)

/-- An item may be dispatched: in position order of its flow, and a FINAL DRAIN once its leaf is stored (R471, R475). -/
def State.dispatchable (s : State) (x : WorkItem) : Bool :=
  (!x.ordered || s.wks.items.all (fun y => !(y.ordered && decide (y.flow = x.flow) && decide (y.pos < x.pos) && decide (y.place ≤ 1)))) &&
    s.finalStored x

/-- The claim of a DRAIN at dispatch: at most 64 KiB of whole records up to WR; of a FINAL one, up to the first record past its
leaf (R471, R475). -/
def State.claimOf (s : State) (x : WorkItem) : Nat × Nat :=
  let k := x.stream
  let p := s.claimEnd k
  let rs : List (Nat × Nat) := s.unclaimed k
  let rs : List (Nat × Nat) := match x.final with
    | some leaf => rs.takeWhile (fun q => decide (recKind (s.recordAt k q.1) = 0) || decide (recLeaf (s.recordAt k q.1) ≤ leaf))
    | none => rs
  (p, rs.foldl (fun e q => if gap32 p q.1 + q.2 ≤ 65536 then (q.1 + q.2) % 2 ^ 32 else e) p)

/-- WORK_DISPATCH (R474): free clerk i takes the first item that may be dispatched of the highest list that holds one. -/
def execWorkDispatch (i : Nat) (s : State) : Host.Outcome State Fault Refusal :=
  .next (
    if s.f F.WKS_STATUS_STATE ≠ 1 ∨ !s.domOn 49 ∨ (s.runs i).isSome ∨ s.fenced (unitCode 0xC i) ∨ s.clerkHalted i then s
    else
      let first := fun (j : Nat) => ((s.readyList j).filterMap s.item).find? s.dispatchable
      match [7, 6, 5, 4, 3, 2, 1, 0].findSome? first with
      | none => s
      | some x =>
        let claim := if x.kind = 1 ∧ x.claim = none then some (s.claimOf x) else x.claim
        let waited := s.wks.tick - x.since
        let s := s.setReady x.list ((s.readyList x.list).filter (fun n => decide (n ≠ x.id)))
        let s := s.onWks (fun w => { w with waitMax := SMap.put 0 w.waitMax x.list (Nat.max waited (SMap.get 0 w.waitMax x.list)) })
        s.onItem x.id (fun x => { x with place := 2, clerk := i, ran := 0, claim := claim }))

/-- WORK_AGE_PROMOTE (R474): item n has waited 1 ms in its list. -/
def execWorkAgePromote (n : Nat) (s : State) : Host.Outcome State Fault Refusal :=
  .next (
    match s.item n with
    | some x =>
      if x.place = 1 ∧ x.list < 7 ∧ x.since + 1000 ≤ s.wks.tick then
        let s := s.setReady x.list ((s.readyList x.list).filter (fun m => decide (m ≠ n)))
        (s.setReady (x.list + 1) (s.readyList (x.list + 1) ++ [n])).onItem n (fun x => { x with list := x.list + 1, since := s.wks.tick })
      else s
    | none => s)

/-- Insert by DUE, equal DUE in enqueue order (R476). -/
def insertDue (x : WorkItem) : List WorkItem → List WorkItem
  | [] => [x]
  | y :: l => if y.due ≤ x.due then y :: insertDue x l else x :: y :: l

/-- DELAY_LIST_TICK (R476): one tick of 1 µs from Boot step 8 on. Items whose DUE has come become ready; running items age,
unless debug halts their clerk (R479, R480). -/
def execDelayListTick (s : State) : Host.Outcome State Fault Refusal :=
  .next (
    if decide (s.mode ∈ [.cold, .boot]) then s
    else
      let t := (s.wks.tick + 1) % 2 ^ 48
      let busy := (List.range 16).filter (fun i => (s.runs i).isSome)
      let s := s.onWks (fun w => { w with
        tick := t,
        items := w.items.map (fun x => if x.place = 2 ∧ !s.clerkHalted x.clerk then { x with ran := x.ran + 1 } else x),
        busy := busy.foldl (fun m i => SMap.put 0 m i (SMap.get 0 m i + 1)) w.busy })
      let due := ((s.wks.delay.filterMap s.item).filter (fun x => decide (x.due ≤ t))).foldl (fun l x => insertDue x l) []
      s.eachOf due (fun x s =>
        ((s.onWks (fun w => { w with delay := w.delay.filter (fun n => decide (n ≠ x.id)) })).onItem x.id
          (fun x => { x with place := 1, since := t })).setReady x.prio (s.readyList x.prio ++ [x.id])))

/-- WKS_TICK_READ (R476): the upper bits are latched. -/
def execWksTickRead (s : State) : Host.Outcome State Fault Refusal :=
  .next ((s.setF F.WKS_TICK_HI_HI (s.wks.tick / 2 ^ 32)).emit (.answer Reg.WKS_TICK_LO (s.wks.tick % 2 ^ 32)))

/-- WKS_CTRL_WRITE (R481). -/
def execWksCtrlWrite (w : BusWrite) (s : State) : Host.Outcome State Fault Refusal :=
  .next (s.onWrite Reg.WKS_CTRL w (fun s =>
    if s.f F.WKS_STATUS_STATE = 0 then s
    else if s.flag F.WKS_CTRL_EN then s.setF F.WKS_STATUS_STATE 1
    else if s.f F.WKS_STATUS_STATE = 1 then (s.setF F.WKS_STATUS_STATE 2).wksStopped
    else s))

/-! ### Completion -/

/-- Clerk i completes its item with a result and outputs, which wait for release (R475, R485). -/
def State.completeItem (s : State) (i result : Nat) (outs : List (List Byte)) : State :=
  match s.runs i with
  | none => s
  | some x =>
    let s := s.onItem x.id (fun x => { x with place := 3, result := result, outs := outs })
    (s.onWks (fun w => { w with done := SMap.put 0 w.done i (SMap.get 0 w.done i + 1) })).wksStopped

/-- The item of clerk i is of a kind. -/
def State.runsKind (s : State) (i kind : Nat) : Option WorkItem := (s.runs i).bind (fun x => if x.kind = kind then some x else none)

/-- The context and the site a stream's records name. -/
def State.strCtx (s : State) (k : Nat) : Nat :=
  if k % 21 < 16 then (let c := s.siteOwner (16 * (k / 21) + k % 21); if c < 16 then c else 0xFF)
  else if k % 21 < 20 then 4 * (k / 21) + k % 21 - 16 else 0xFF
def strSite (k : Nat) : Nat := if k % 21 < 16 then 16 * (k / 21) + k % 21 else 0xFF

/-- A GAP record (Table 17-4); its LEAF is that of the record after it (DEDUCED, notes/assumptions/42.md). -/
def gapRecord (first missing reason leaf ctx site : Nat) : List Byte :=
  recHeader 0x80 0 4 first leaf ctx site ++ leBytes first 4 ++ leBytes missing 4 ++ leBytes reason 1 ++ leBytes 0 7

/-- The claimed records of a DRAIN as read, and whether any read failed (R469, R486): a record that reads POISON, or on a fenced
stack, is not copied, so that a GAP follows (DEDUCED, notes/assumptions/42.md). -/
def State.drainRead (s : State) (x : WorkItem) : (List (List Byte) × Nat) × State :=
  match x.claim with
  | none => (([], 0), s)
  | some (p, e) =>
    let k := x.stream
    (s.recordsFrom k e (gap32 p e / 16 + 1) p).foldl (fun acc q =>
      let ((rs, res), s) := acc
      let ((bs, poison, fail), s) := s.stkRead (s.strBase k + q.1 % s.strSize k) 4 q.2
      if fail.isSome then ((rs, 4), s)
      else if poison ≠ [] then ((rs, if res = 0 then 2 else res), s)
      else if recKind bs = 0 then ((rs, res), s)
      else ((rs ++ [bs], res), s)) (([], 0), s)

/-- DRAIN (Table 17-2, R469): clerk i has read its claim. -/
def execItemDrain (i : Nat) (s : State) : Host.Outcome State Fault Refusal :=
  .next (
    match s.runsKind i 1 with
    | none => s
    | some x =>
      let ((rs, res), s) := s.drainRead x
      s.completeItem i res rs)

/-- The newest RUN_END released of a site's context, and the leaf of the one before it (R472). -/
def State.lastRun (s : State) (site : Nat) : Option (Nat × Nat × Option Nat) :=
  let es := (SMap.get [] s.wks.ends (s.siteOwner site)).reverse
  match es with
  | [] => none
  | (leaf, st) :: before => some (leaf, st, before.head?.map (fun q => q.1))

/-- The records of a site's run (R472). -/
def State.runRecords (s : State) (site leaf : Nat) (prev : Option Nat) : List (List Byte) :=
  (SMap.get [] s.wks.seen site).filter (fun r => decide (recLeaf r ≤ leaf) && (match prev with
    | some p => decide (p < recLeaf r)
    | none => true))

/-- The channels of a site that a FAIL or FIRST_FAIL record shows failing, as CHMAP bits (Table 10-3, R285). -/
def State.failMap (s : State) (site : Nat) (r : List Byte) : Nat :=
  let shelves := bitList (leAt r 0x1C 4) 32
  let chs := s.siteChannels site
  (List.range shelves.length).foldl (fun m i =>
    (bitList (leAt r (0x20 + i) 1) 8).foldl (fun m p =>
      match chs.findIdx? (fun ch => decide (ch = 8 * shelves.getD i 0 + p)) with
      | some k => setBitTo m k true
      | none => m) m) 0

/-- DIGEST (R472, Table 17-4). The header's SEQ has no value of the spec's: it is free. -/
def execItemDigest (i : Nat) (s : State) : Host.Outcome State Fault Refusal :=
  .next (
    match s.runsKind i 2 with
    | none => s
    | some x =>
      let site := x.arg % 64
      match s.lastRun site with
      | none => s.completeItem i 3 []
      | some (leaf, _, prev) =>
        let rs := s.runRecords site leaf prev
        let fails := rs.filter (fun r => decide (recKind r = 1 ∨ recKind r = 2))
        let dropped := (rs.filter (fun r => decide (recKind r = 0x80))).foldl (fun n r => n + leAt r 0x14 4) 0
        let copy := fun (l : Nat) => ((s.siteCount site).runEnds.find? (fun q => decide (q.1 = l))).map (fun q => q.2)
        let this := (copy leaf).getD 0
        let count := if this = 0xFFFFFFFF then 0xFFFFFFFF else this - ((prev.bind copy).getD 0)
        let first := (rs.find? (fun r => decide (recKind r = 2))).getD []
        let map := fails.foldl (fun m r => (BitVec.ofNat 256 m ||| BitVec.ofNat 256 (s.failMap site r)).toNat) 0
        let seq := (s.freeBits 32).toNat
        let body := leBytes count 4 ++ leBytes fails.length 4 ++ leBytes dropped 4 ++ leBytes (s.siteChannels site).length 2 ++ leBytes 0 2 ++
          leBytes (leAt first 0x10 4) 4 ++ leBytes (leAt first 0x14 4) 4 ++ leBytes (leAt first 0x18 1) 1 ++ List.replicate 23 0 ++ leBytes map 32
        let s := s.nextFree.onWks (fun w => { w with digest := SMap.put none w.digest site (some (count, dropped)) })
        s.completeItem i 0 [recHeader 0x81 0 12 seq leaf (s.strCtx (strOfSite site)) site ++ body])

/-- BIN (R484, Table 17-4). -/
def execItemBin (i : Nat) (s : State) : Host.Outcome State Fault Refusal :=
  .next (
    match s.runsKind i 3 with
    | none => s
    | some x =>
      let site := x.arg % 64
      match s.lastRun site, SMap.get none s.wks.digest site with
      | some (leaf, st, prev), some (fails, dropped) =>
        let cut := (s.runRecords site leaf prev).any (fun r => decide (recKind r = 9)) || decide (st ≠ 0)
        let reason := if cut then 2 else if fails ≠ 0 ∨ dropped ≠ 0 then 1 else 0
        let bin := x.arg / 2 ^ (match reason with | 2 => 24 | 1 => 16 | _ => 8) % 256
        let seq := (s.freeBits 32).toNat
        s.nextFree.completeItem i 0 [recHeader 0x82 0 6 seq leaf (s.strCtx (strOfSite site)) site ++
          leBytes bin 1 ++ leBytes reason 1 ++ leBytes 0 2 ++ leBytes fails 4 ++ List.replicate 24 0]
      | _, _ => s.completeItem i 3 [])

/-- The STATS kept for a stream, source and SUB. -/
def statKey (k sub src : Nat) : Nat := k * 512 + src * 256 + sub

/-- STATS (Table 17-2, Table 17-4). The header's SEQ and LEAF have no value of the spec's: they are free. -/
def execItemStats (i : Nat) (s : State) : Host.Outcome State Fault Refusal :=
  .next (
    match s.runsKind i 4 with
    | none => s
    | some x =>
      let k := x.stream
      let t := SMap.get {} s.wks.stats (statKey k (x.arg / 256 % 256) (x.arg / 65536 % 2))
      if t.n = 0 then s.completeItem i 3 []
      else
        let seq := (s.freeBits 32).toNat
        let leaf := (s.nextFree.freeBits 48).toNat
        let body := leBytes t.n 4 ++ leBytes (unsigned 32 t.low) 4 ++ leBytes (unsigned 32 t.high) 4 ++ leBytes 0 4 ++
          leBytes (unsigned 64 t.sum) 8 ++ leBytes (unsigned 128 t.sq) 16 ++ List.replicate 16 0
        let s := s.nextFree.nextFree.onWks (fun w => { w with stats := w.stats.filter (fun q => decide (q.1 / 512 ≠ k)) })
        s.completeItem i 0 [recHeader 0x83 0 9 seq leaf (s.strCtx k) (strSite k) ++ body])

/-- FLUSH (Table 17-2). -/
def execItemFlush (i : Nat) (s : State) : Host.Outcome State Fault Refusal :=
  .next (if (s.runsKind i 6).isSome then s.completeItem i 0 [] else s)

/-! ### Datalog channels -/

def State.dlogWr (s : State) (d : Nat) : Nat := (s.rd (Reg.WKS_DLOG_WR d)).toNat
def State.dlogSize (s : State) (d : Nat) : Nat := 2 ^ s.f (F.WKS_DLOG_CFG_SIZE_LOG2 d)
/-- Bytes a record needs at the channel: with the PAD before it where it would straddle the end (R273, R482). -/
def State.dlogPad (s : State) (d n : Nat) : Nat :=
  let off := s.dlogWr d % s.dlogSize d
  if off + n ≤ s.dlogSize d then 0 else s.dlogSize d - off

/-- The channel takes a record: PAD where needed, the record at WR in the host's buffer, the open batch (R482, R483). `none`:
the record does not fit in the free space, or the channel is not enabled. -/
def State.dlogWrite (s : State) (d : Nat) (r : List Byte) : Option State :=
  let pad := s.dlogPad d r.length
  let used := gap32 (s.rd (Reg.WKS_DLOG_RD d)).toNat (s.dlogWr d)
  if !s.flag (F.WKS_DLOG_CFG_EN d) || decide (s.dlogSize d < used + pad + r.length) then none
  else
    let base := s.f (F.WKS_DLOG_BASE_HI_ADDR d) * 2 ^ 32 + s.f (F.WKS_DLOG_BASE_LO_ADDR d) * 4096
    let wr := s.dlogWr d
    let x : Dlog := SMap.get {} s.wks.dlog d
    let s := s.onWks (fun w => { w with dlog := SMap.put {} w.dlog d { x with start := some (x.start.getD (wr, w.tick)) } })
    let s := if pad = 0 then s else s.hostPut (base + wr % s.dlogSize d)
      ((recHeader 0 0 (pad / 8) (s.freeBits 32).toNat 0 (leAt r 14 1) (leAt r 15 1) ++ List.replicate pad 0).take pad)
    let s := s.hostPut (base + (wr + pad) % s.dlogSize d) r
    some (s.nextFree.wr (Reg.WKS_DLOG_WR d) (BitVec.ofNat 32 (wr + pad + r.length)))

/-- Close and announce the open batch (R483). -/
def State.dlogAnnounce (s : State) (d : Nat) : State :=
  let x : Dlog := SMap.get {} s.wks.dlog d
  match x.start with
  | none => s
  | some (start, _) =>
    let s := s.onWks (fun w => { w with dlog := SMap.put {} w.dlog d { start := none, count := (x.count + 1) % 65536 } })
    s.ringComplete (s.f (F.WKS_DLOG_CFG_CRING d)) (leBytes 0 2 ++ leBytes 0xFF 1 ++ leBytes 0x30 1 ++ leBytes d 4 ++
      leBytes (s.dlogWr d) 8 ++ leBytes start 8 ++ leBytes (x.count + 1) 2 ++ List.replicate 6 0) false

/-- BATCH_ANNOUNCE (R483): the batch has reached BATCH KiB, or 100 µs have passed since its first record. -/
def execBatchAnnounce (d : Nat) (s : State) : Host.Outcome State Fault Refusal :=
  .next (
    match (SMap.get {} s.wks.dlog d : Dlog).start with
    | none => s
    | some (start, since) =>
      if 1024 * Nat.max 1 (s.f (F.WKS_DLOG_CFG_BATCH d)) ≤ gap32 start (s.dlogWr d) ∨ since + 100 ≤ s.wks.tick then s.dlogAnnounce d else s)

/-! ### Release -/

/-- The datalog channel of an item: the bay its stream or site belongs to; of a FLUSH, the channel it names. -/
def WorkItem.channel (x : WorkItem) : Nat :=
  match x.kind with
  | 2 | 3 => x.arg % 64 / 16
  | _ => x.arg % 4

/-- What the firmware keeps of a released record: a site's fails, gaps and INVALIDATEs, and the measured values (R469, R472). -/
def State.noteRecord (s : State) (k : Nat) (r : List Byte) : State :=
  let site := strSite k
  let kind := recKind r
  let s := if site < 64 ∧ (kind = 1 ∨ kind = 2 ∨ kind = 9 ∨ kind = 0x80) then
      s.onWks (fun w => { w with seen := SMap.put [] w.seen site (SMap.get [] w.seen site ++ [r]) })
    else s
  if kind = 0x0E ∨ kind = 0x0F then
    let key := statKey k (leAt r 0x20 1) (kind - 0x0E)
    let v := signed 32 (leAt r 0x38 4)
    let t := SMap.get {} s.wks.stats key
    let t' : Stat := { n := t.n + 1, low := if t.n = 0 ∨ v < t.low then v else t.low, high := if t.n = 0 ∨ t.high < v then v else t.high,
                       sum := t.sum + v, sq := t.sq + v * v }
    s.onWks (fun w => { w with stats := SMap.put {} w.stats key t' })
  else s

/-- A firmware item (R471); its PRIO has no value of the spec's: it is free. -/
def State.enqueueFirmware (s : State) (kind flow arg : Nat) (final : Option Nat) : State :=
  let prio := (s.freeBits 3).toNat
  s.nextFree.enqueueWork { id := 0, kind := kind, prio := prio, ordered := true, flow := flow, arg := arg, origin := 2, final := final }

/-- A released RUN_END of context c: a FINAL DRAIN, a DIGEST and a BIN for each of its sites whose WKS_SITE_CFG asks (R471). -/
def State.runEnded (s : State) (c : Nat) (r : List Byte) : State :=
  let leaf := recLeaf r
  let s := s.onWks (fun w => { w with ends := SMap.put [] w.ends c (SMap.get [] w.ends c ++ [(leaf, leAt r 0x20 1)]) })
  s.eachOf (s.sitesOf c) (fun site s =>
    if !s.flag (F.WKS_SITE_CFG_DIGEST site) then s
    else
      let flow := 32 * (site / 16) + site % 16
      let s := (s.enqueueFirmware 1 flow (site / 16 + 4 * (site % 16) + 256) (some leaf)).enqueueFirmware 2 flow site none
      if s.flag (F.WKS_SITE_CFG_BIN site) then
        s.enqueueFirmware 3 flow (site + 256 * s.f (F.WKS_SITE_CFG_PASS_BIN site) + 65536 * s.f (F.WKS_SITE_CFG_FAIL_BIN site) +
          16777216 * s.f (F.WKS_SITE_CFG_INC_BIN site)) none
      else s)

/-- Write an item's held records while they fit, a GAP wherever a DRAIN's SEQ jumps (R469, R482): the records left. -/
def State.releaseOuts (s : State) (x : WorkItem) : List (List Byte) → List (List Byte) × State
  | [] => ([], s)
  | r :: rest =>
    let d := x.channel
    let k := x.stream
    let next := SMap.get 0 s.wks.nextSeq k
    let jump := decide (x.kind = 1 ∧ recKind r ≠ 0x80 ∧ recSeq r ≠ next)
    let gap := gapRecord next (gap32 next (recSeq r)) 1 (recLeaf r) (s.strCtx k) (strSite k)
    let s1 := if jump then (s.dlogWrite d gap).map (fun s => (s.noteRecord k gap).onWks (fun w => { w with nextSeq := SMap.put 0 w.nextSeq k (recSeq r) }))
      else some s
    match s1 with
    | none => (r :: rest, s)
    | some s => match s.dlogWrite d r with
      | none => (r :: rest, s)
      | some s =>
        if x.kind ≠ 1 then s.releaseOuts x rest
        else
          let s := s.noteRecord k r
          let upto := if recKind r = 0x80 then recSeq r + leAt r 0x14 4 else recSeq r + 1
          let s := s.onWks (fun w => { w with nextSeq := SMap.put 0 w.nextSeq k (upto % 2 ^ 32) })
          let s := if recKind r = 0x0C ∧ 16 ≤ k % 21 then s.runEnded (s.strCtx k) r else s
          s.releaseOuts x rest

/-- The completion entry of a host item (R473). -/
def State.hostDone (s : State) (x : WorkItem) : State :=
  if x.origin = 1 ∧ s.flag F.WKS_HOST_CRING_EN then
    s.ringComplete (s.f F.WKS_HOST_CRING_RING) (leBytes 0 2 ++ leBytes 0xFF 1 ++ leBytes 0x31 1 ++ leBytes x.tag 4 ++ leBytes x.result 1 ++
      List.replicate 23 0) false
  else s

/-- WORK_RELEASE (R475, R482): the outputs of complete item n, once every earlier position of its flow has released. -/
def execWorkRelease (n : Nat) (s : State) : Host.Outcome State Fault Refusal :=
  .next (
    match s.item n with
    | none => s
    | some x =>
      let earlier := x.ordered && s.wks.items.any (fun y => y.ordered && decide (y.flow = x.flow) && decide (y.pos < x.pos))
      if x.place ≠ 3 ∨ earlier then s
      else
        let (rest, s) := s.releaseOuts x x.outs
        if rest ≠ [] then s.onItem n (fun x => { x with outs := rest })
        else
          let s := match x.kind, x.claim with
            | 1, some (_, e) => s.advanceDr x.stream e
            | _, _ => s
          let s := if x.kind = 6 then s.dlogAnnounce x.channel else s
          let s := if x.kind = 5 then s.calEnd (x.arg % 4) 9 else s
          (s.onWks (fun w => { w with items := w.items.filter (fun y => decide (y.id ≠ n)) })).hostDone x)

/-- The GAP record in place of a DRAIN that the watchdog ended twice (R479). -/
def State.watchdogGap (s : State) (x : WorkItem) : List (List Byte) :=
  match x.kind, x.claim with
  | 1, some (p, e) =>
    let k := x.stream
    let rs := s.recordsFrom k e (gap32 p e / 16 + 1) p
    match rs.head?, rs.getLast? with
    | some a, some b =>
      let first := recSeq (s.recordAt k a.1)
      let last := s.recordAt k b.1
      [gapRecord first (gap32 first (recSeq last) + 1) 2 (recLeaf last) (s.strCtx k) (strSite k)]
    | _, _ => []
  | _, _ => []

/-- WORK_WATCHDOG (R479): clerk i's item has run 50 µs. -/
def execWorkWatchdog (i : Nat) (s : State) : Host.Outcome State Fault Refusal :=
  .next (
    match s.runs i with
    | none => s
    | some x =>
      if x.ran < 50 then s
      else
        let s := s.raiseRecovery (unitCode 0xC i) 5 0
        if x.tries = 0 then (s.onItem x.id (fun x => { x with tries := 1 })).returnItem x.id
        else s.completeItem i 1 (s.watchdogGap x))

/-! ### Observability -/

/-- A latched count as the register shows it (R485). -/
def snapValue (n : Nat) : Nat := if 0x7FFFFFFF < n then 0xFFFFFFFF else n

/-- WKS_OBS_SNAP (R485). -/
def execWksObsSnap (w : BusWrite) (s : State) : Host.Outcome State Fault Refusal :=
  .next (s.onPlain Reg.WKS_OBS_CTRL w (fun s =>
    if !w.data.getLsbD 0 then s
    else
      let x := s.wks
      let s := s.each 8 (fun j s => s.setF (F.WKS_WAIT_MAX j) (snapValue (SMap.get 0 x.waitMax j)))
      let s := s.each 16 (fun i s => (s.setF (F.WKS_CORE_BUSY i) (snapValue (SMap.get 0 x.busy i))).setF (F.WKS_CORE_ITEMS i) (snapValue (SMap.get 0 x.done i)))
      s.onWks (fun w => { w with waitMax := [], busy := [], done := [] })))

end Sys2Proof.Machine
end

