-- ==== Sys2Proof/Machine/Calibration.lean ====
section
/-! DEFINITION. Calibration: full and tracking calibrations, the sets pending and in force, and the triplicated store
(20_calibration.md). -/
namespace Sys2Proof.Machine

/-! ### Commands -/

/-- TIM t is ARMED. -/
def State.timHeld (s : State) (t : Nat) : Bool := s.timArmed t

/-- MODES of a FULL: 0 acts as both (Table 20-7). -/
def fullModes (m : Nat) : Nat := if m = 0 then 3 else m

/-- The precondition of a full calibration (R551). -/
def State.fullAllowed (s : State) (b shelves : Nat) : Bool :=
  decide (shelves ≠ 0) &&
    (if shelves = 0xFF then decide (s.mode = .calibrate) || s.fenced (unitCode 3 b)
     else (bitList shelves 8).all (fun i => s.fenced (unitCode 2 (8 * b + i)))) &&
    s.domOn 48 && s.domOn (domPmu b) && !s.fenced (unitCode 6 b)

/-- Channels a full calibration skips: fenced by the collector for DAC, COMPARATOR, EDGE, OVERCURRENT or OVERVOLT (R552). -/
def State.calSkipped (s : State) (b shelves : Nat) : Nat :=
  ((List.range 64).filter (fun i => bitAt shelves (i / 8) && decide (s.f (F.CHN_FENCE_CAUSE (64 * b + i)) ∈ [2, 3, 4, 5, 6]))).length

/-- A calibration starts, or waits for TIM b (R551, R553). -/
def State.calStart (s : State) (b : Nat) (r : CalRun) : State :=
  let all := r.full && decide (r.shelves = 0xFF)
  let s := s.istDrop (fun x => decide (x.kind = 0) && decide ((if x.unit < 256 then x.unit / 64 else (x.unit - 256) / 8) = b))
  let s := s.onCal b (fun c => { c with run := some r })
  let s := if r.full then s.setF (F.CAL_BAY_STATUS_SKIPPED b) (s.calSkipped b r.shelves) else s
  let s := if all then ((s.timStopped b 2).acqStopBay b).each 64 (fun i s => s.syncConn (64 * b + i)) else s
  s.setF (F.CAL_BAY_STATUS_STATE b) (if !all && s.timHeld b then 2 else if r.full then 1 else 3)

/-- CAL_TREF_CFG.DIV is in range and both references pass their checks (R550). -/
def State.refsOk (s : State) (ref : Bool) : Bool := ref && decide (1 ≤ s.f F.CAL_TREF_CFG_DIV ∧ s.f F.CAL_TREF_CFG_DIV ≤ 16)

/-- A tracking calibration is asked for, by the host or by the temperature (R553, R555): its refusal, if any. -/
def State.trackRefusal (s : State) (b : Nat) (ref : Bool) : Option Nat :=
  if s.flag (F.CAL_BAY_STATUS_UNCAL b) then some 6 else if !s.refsOk ref then some 5 else none

/-! ### Entering a set -/

/-- The contexts that own a channel of the shelves a set changes (R559). -/
def State.calOwners (s : State) (b shelves : Nat) : List Nat :=
  (List.range 16).filter (fun c => (s.channelsOf c).any (fun ch => decide (ch / 64 = b) && bitAt shelves (ch / 8 % 8)))

/-- The condition of Table 20-4 for one owning context. -/
def State.calReady (s : State) (policy c : Nat) : Bool :=
  let due := (s.ctx c).due.map (fun d => d.2)
  match s.ctxState c with
  | .idle | .stopped | .off => true
  | .armed => decide (.start ∉ due)
  | .paused => decide (.resume ∉ due)
  | .wait => decide (policy = 1) && (match (s.ctx c).waiting with
      | some w => w.release.isNone
      | none => false)
  | _ => false

/-- The pending set of a bay may be committed (Table 20-4, R564). -/
def State.calMayCommit (s : State) (b : Nat) (x : CalSet) : Bool :=
  let policy := s.f (F.CAL_BAY_CFG_POLICY b)
  decide (policy = 2) || s.fenced (unitCode 3 b) || (s.calOwners b x.shelves).all (s.calReady policy)

/-- A set's block as the store holds it: header and body (Table 20-5). -/
def State.calBlock (s : State) (b : Nat) (x : CalSet) : List Byte :=
  let h := leBytes 0x4C434B56 4 ++ leBytes 1 2 ++ leBytes b 1 ++ leBytes x.modes 1 ++ leBytes x.gen 4 ++ leBytes x.baseGen 4 ++
    leBytes s.sec.fuses.serial 8 ++ leBytes (unsigned 16 x.tcal) 2 ++ leBytes x.kind 1 ++ leBytes (b2n x.uncal) 1 ++ leBytes x.fullSec 8 ++
    leBytes 17664 4 ++ leBytes x.refV 4 ++ leBytes 0 12 ++ leBytes (crc32c x.body) 4
  h ++ leBytes (crc32c h) 4 ++ x.body

/-- Where copy k of a bay's block lies (R566, Table 21-4). -/
def calAddr (b k : Nat) : Nat := 0x100000 + 0x40000 * k + 0x10000 * b

/-- Queue the write of the first copy still to be written, from the set in force (R567); under the inhibit the bay's flag stands for
it (R589). -/
def State.calStoreNext (s : State) (b : Nat) : State :=
  match (s.cal b).store, (s.cal b).force with
  | k :: _, some x =>
    if s.arch.inhibit then s.onArch (fun a => { a with calFlags := if b ∈ a.calFlags then a.calFlags else a.calFlags ++ [b] })
    else
      let a := calAddr b k
      s.onArch (fun r => r.enqueue { writer := .cal b k, erase := [a], addr := a, data := s.calBlock b x, commitAddr := a + 0xFFF8,
                                     commit := leBytes x.gen 4 ++ leBytes 0x636C6131 4, tag := x.gen })
  | _, _ => s

/-- The pending set, or a full calibration's, becomes the set in force (R559 to R561, R290): the contexts that play take it two
leaves on, every other channel at once. `policy`: what the CAL_STEP record carries. -/
def State.calEnter (s : State) (b : Nat) (x : CalSet) (policy : Nat) : State :=
  let s := s.onCal b (fun c => { c with force := some x, pending := none, store := [0, 1, 2] })
  let s := ((s.wr (Reg.CAL_BAY_GEN b) (BitVec.ofNat 32 x.gen)).setF (F.CAL_BAY_TCAL_T b) (unsigned 16 x.tcal)).wr (Reg.CAL_BAY_PEND b) 0
  let s := ((s.wr (Reg.CAL_BAY_FULL_SEC_LO b) (BitVec.ofNat 32 x.fullSec)).setF (F.CAL_BAY_FULL_SEC_HI_SEC b) (x.fullSec / 2 ^ 32)).setFlag
    (F.CAL_BAY_STATUS_UNCAL b) x.uncal
  let live := (s.calOwners b x.shelves).filter (fun c => (s.ctxState c).active)
  let pay := leBytes b 1 ++ leBytes x.shelves 1 ++ leBytes policy 1 ++ leBytes 0 1 ++ leBytes x.gen 4 ++ leBytes (unsigned 16 x.tcal) 2
  let s := if live = [] then s.event strOfChip 0x0A 0 0xFF 0xFF 16 pay
    else s.eachOf live (fun c s => (s.addDue c 2 (.cal b)).event (strOfCtx c) 0x0A ((s.ctx c).lcnt + 2) c 0xFF 16 pay)
  let s := s.each 64 (fun i s =>
    let ch := 64 * b + i
    let plays := match s.owner ch with
      | some c => decide (c ∈ live)
      | none => false
    if bitAt x.shelves (i / 8) && !plays then s.calStepCh ch else s)
  let s := s.onArch (fun a => match a.busy, a.queue with
    | true, q :: qs => { a with queue := q :: qs.filter (fun w => !(List.range 3).any (fun k => decide (w.writer = .cal b k))) }
    | _, qs => { a with queue := qs.filter (fun w => !(List.range 3).any (fun k => decide (w.writer = .cal b k))) })
  s.calStoreNext b

/-! ### The four commands -/

/-- A write of CAL_CMD with GO (R551, R553, R563, R565; the order of the refusals is DEDUCED, notes/assumptions/47.md). `ref`: both
references pass their checks. -/
def State.calCommand (s : State) (w : BusWrite) (ref : Bool) : State :=
  if s.flag F.CAL_CMD_GO && w.data.getLsbD 31 && decide (w.data.toNat % 4 = s.f F.CAL_CMD_BAY) && (s.cal (w.data.toNat % 4)).run.isSome then
    s.onPlain Reg.CAL_CMD w (fun s => s.setF (F.CAL_BAY_STATUS_RESULT (w.data.toNat % 4)) 2)
  else s.onWrite Reg.CAL_CMD w (fun s =>
    let b := s.f F.CAL_CMD_BAY
    let op := s.f F.CAL_CMD_OP
    let shelves := s.f F.CAL_CMD_SHELVES
    let s := s.setFlag F.CAL_CMD_GO (s.cal b).run.isSome
    if !w.data.getLsbD 31 || !decide (1 ≤ op ∧ op ≤ 4) then s
    else if s.mode ∈ [.cold, .boot, .standby, .selftest, .safe] then s.calResult b 3
    else if (s.cal b).run.isSome then s.setF (F.CAL_BAY_STATUS_RESULT b) 2
    else match op with
      | 1 =>
        if !s.fullAllowed b shelves then s.calResult b 4
        else if !s.refsOk ref then s.calResult b 5
        else (s.setFlag F.CAL_CMD_GO true).calStart b
          { full := true, shelves := shelves, modes := fullModes (s.f F.CAL_CMD_MODES), temp := s.fs (F.CAL_BAY_TEMP_T b) }
      | 2 => match s.trackRefusal b ref with
        | some r => (s.onCal b (fun c => { c with failed := some (s.fs (F.CAL_BAY_TEMP_T b)) })).calResult b r
        | none => (s.setFlag F.CAL_CMD_GO true).calStart b { full := false, shelves := 0xFF, modes := 3, temp := s.fs (F.CAL_BAY_TEMP_T b) }
      | 3 => match (s.cal b).pending with
        | some x => (s.calEnter b x 2).calResult b 1
        | none => s.calResult b 0x0B
      | _ => match (s.cal b).pending with
        | some _ => ((s.onCal b (fun c => { c with pending := none })).wr (Reg.CAL_BAY_PEND b) 0).calResult b 1
        | none => s.calResult b 0x0B)

/-- FULL (R551). -/
def execCalFull (w : BusWrite) (ref : Bool) (s : State) : Host.Outcome State Fault Refusal := .next (s.calCommand w ref)
/-- TRACK (R553). -/
def execCalTrack (w : BusWrite) (ref : Bool) (s : State) : Host.Outcome State Fault Refusal := .next (s.calCommand w ref)
/-- APPLY_NOW (R563). -/
def execCalApplyNow (w : BusWrite) (s : State) : Host.Outcome State Fault Refusal := .next (s.calCommand w true)
/-- DISCARD_SET (R563). -/
def execCalDiscardSet (w : BusWrite) (s : State) : Host.Outcome State Fault Refusal := .next (s.calCommand w true)

/-! ### Temperature -/

/-- THRESH in 0.01 °C (Table 20-7). -/
def State.calThresh (s : State) (b : Nat) : Nat := 25 * Nat.max 1 (Nat.min 40 (s.f (F.CAL_BAY_CFG_THRESH b)))

/-- The pin die has moved by THRESH from a temperature. -/
def State.calMoved (s : State) (b : Nat) (t from_ : Int) : Bool := decide (s.calThresh b ≤ (t - from_).natAbs)

/-- CAL_TEMP_READ (R555, R556): a reading in 0.01 °C; with AUTO a tracking calibration may start. -/
def execCalTempRead (b : Nat) (t : Int) (ref : Bool) (s : State) : Host.Outcome State Fault Refusal :=
  .next (
    let s := s.setF (F.CAL_BAY_TEMP_T b) (unsigned 16 t)
    let c := s.cal b
    let base := match c.failed, c.pending, c.force with
      | some f, _, _ => some f
      | none, some x, _ => some x.tcal
      | none, none, some x => some x.tcal
      | _, _, _ => none
    match base with
    | none => s
    | some f =>
      if !s.flag (F.CAL_BAY_CFG_AUTO b) || c.run.isSome || !s.calMoved b t f || decide (s.mode ∈ [.cold, .boot, .standby, .selftest, .safe]) then s
      else match s.trackRefusal b ref with
        | some r => (s.onCal b (fun c => { c with failed := some t })).setF (F.CAL_BAY_STATUS_RESULT b) r
        | none => s.calStart b { full := false, shelves := 0xFF, modes := 3, temp := t })

/-- CAL_WAIT_TIM_END (R553): TIM b has left ARMED. -/
def execCalWaitTimEnd (b : Nat) (s : State) : Host.Outcome State Fault Refusal :=
  .next (
    match (s.cal b).run with
    | some r => if s.f (F.CAL_BAY_STATUS_STATE b) = 2 ∧ !s.timHeld b then s.setF (F.CAL_BAY_STATUS_STATE b) (if r.full then 1 else 3) else s
    | none => s)

/-- CAL_MEASURE_DONE (R554): the fit is enqueued, or the calibration ends NO_CLERK. -/
def execCalMeasureDone (b : Nat) (s : State) : Host.Outcome State Fault Refusal :=
  .next (
    if s.f (F.CAL_BAY_STATUS_STATE b) ≠ 1 ∧ s.f (F.CAL_BAY_STATUS_STATE b) ≠ 3 then s
    else if s.f F.WKS_STATUS_STATE ≠ 1 then s.calEnd b 7
    else
      let n := s.wks.nextId
      let s := s.enqueueWork { id := 0, kind := 5, prio := 6, arg := b }
      (s.onCal b (fun c => { c with run := c.run.map (fun r => { r with fit := some n }) })).setF (F.CAL_BAY_STATUS_STATE b) 4)

/-! ### Fits -/

/-- The first edge correction of a candidate that breaks Table 20-3, as far as the block can judge it: quantity, mode, channel.
Drive is quantity 6, compare 7; a tracking step is held against the newest accepted set. -/
def State.edgeReject (s : State) (b : Nat) (r : CalRun) (body : List Byte) : Option (Nat × Nat × Nat) :=
  let old := ((s.cal b).pending.orElse (fun _ => (s.cal b).force)).map (fun x => x.body)
  let lim := Nat.max 13 (Nat.min 1310 (s.f (F.CAL_BAY_LIM_EDGE_TRK b)))
  let bad := fun (cmp : Bool) (m i : Nat) => !r.full && (match old with
    | some o => decide (lim < ((Config.calCorr body i (decide (m = 1)) cmp).toInt - (Config.calCorr o i (decide (m = 1)) cmp).toInt).natAbs)
    | none => false)
  [false, true].findSome? (fun cmp => [0, 1].findSome? (fun m =>
    if bitAt r.modes m then ((List.range 64).find? (bad cmp m)).map (fun i => (6 + b2n cmp, m, i)) else none))

/-- The first of the verdict on the hidden quantities and that on the edges, in the order of Table 20-1. -/
def firstReject (a b : Option (Nat × Nat × Nat)) : Option (Nat × Nat × Nat) :=
  match a, b with
  | some x, some y => if y.1 < x.1 then some y else some x
  | some x, none => some x
  | none, y => y

/-- An accepted candidate: the next generation of its bay; a full calibration enters at once, a tracking one waits for its policy
(R557, R559). -/
def State.calAccept (s : State) (b : Nat) (r : CalRun) (body : List Byte) : State :=
  let c := s.cal b
  let gen := c.lastGen + 1
  let old := c.pending.orElse (fun _ => c.force)
  let x : CalSet :=
    if r.full then
      { gen := gen, baseGen := gen, tcal := r.temp, kind := 1, modes := r.modes ||| ((old.map (fun o => o.modes)).getD 0),
        uncal := if r.shelves = 0xFF ∧ r.modes = 3 then false else s.flag (F.CAL_BAY_STATUS_UNCAL b), fullSec := s.clk.sec,
        refV := s.f F.CAL_REF_V_UV, shelves := r.shelves, body := body }
    else
      let o := old.getD {}
      { o with gen := gen, tcal := r.temp, kind := 2, shelves := 0xFF, body := body }
  let s := s.onCal b (fun c => { c with lastGen := gen, pending := if r.full then none else some x })
  let s := s.calEnd b 1
  if r.full then s.calEnter b x 2
  else
    let s := s.wr (Reg.CAL_BAY_PEND b) (BitVec.ofNat 32 gen)
    if s.f (F.CAL_BAY_CFG_POLICY b) = 2 then s.calEnter b x 2 else s

/-- CAL_FIT (R554, R557, R558): clerk i's fit releases with a work result and a candidate; `reject`: the first quantity, mode and
channel or monitor outside Table 20-3. -/
def execItemCalFit (i res : Nat) (body : List Byte) (reject : Option (Nat × Nat × Nat)) (s : State) : Host.Outcome State Fault Refusal :=
  .next (
    match s.runsKind i 5 with
    | none => s
    | some x =>
      let b := x.arg % 4
      let s := (s.completeItem i res []).onWks (fun w => { w with items := w.items.filter (fun y => decide (y.id ≠ x.id)) })
      match (s.cal b).run with
      | none => s
      | some r =>
        if r.fit ≠ some x.id then s
        else if res ≠ 0 then s.calEnd b 9
        else match firstReject reject (s.edgeReject b r body) with
          | some (q, m, ch) =>
            let s := ((s.setF (F.CAL_BAY_REJ_ORDER b) q).setF (F.CAL_BAY_REJ_MODE b) m).setF (F.CAL_BAY_REJ_LOCAL b) ch
            (s.note (unitCode 3 b) 0x15).calEnd b 8
          | none => s.calAccept b r body)

/-- CAL_COMMIT (R559): the pending set's condition holds. -/
def execCalCommit (b : Nat) (s : State) : Host.Outcome State Fault Refusal :=
  .next (
    match (s.cal b).pending with
    | some x => if s.calMayCommit b x then s.calEnter b x (let p := s.f (F.CAL_BAY_CFG_POLICY b); if p = 3 then 0 else p) else s
    | none => s)

/-! ### The store -/

/-- CAL_STORE_WRITE (R567, R569): the copy under way has been written and read back (`ok`: valid); then the next copy starts, and
after the last REWRITE clears. A copy that reads back bad is written again (DEDUCED, notes/assumptions/48.md). -/
def execCalStoreWrite (b : Nat) (ok : Bool) (s : State) : Host.Outcome State Fault Refusal :=
  .next (
    match (s.cal b).store with
    | [] => s
    | k :: rest =>
      if s.arch.queue.any (fun w => decide (w.writer = .cal b k)) || decide (b ∈ s.arch.calFlags) then s
      else if !ok then s.calStoreNext b
      else
        let s := s.onCal b (fun c => { c with store := rest })
        if rest = [] then s.setFlag ⟨Reg.CAL_STORE_STATUS, 8 * b + 6, 1⟩ false else s.calStoreNext b)

/-- A stored block is valid (R566). -/
def State.calBlockValid (s : State) (b k : Nat) : Bool :=
  let h := s.arch.bytes (calAddr b k) 64
  let n := leAt h 0x24 4
  let body := s.arch.bytes (calAddr b k + 64) n
  let c := s.arch.bytes (calAddr b k + 0xFFF8) 8
  decide (leAt h 0 4 = 0x4C434B56) && decide (leAt h 4 2 = 1) && decide (leAt h 6 1 = b) && decide (leAt h 0x10 8 = s.sec.fuses.serial) &&
    decide (n = 17664) && decide (leAt c 0 4 = leAt h 8 4) && decide (leAt c 4 4 = 0x636C6131) &&
    decide (crc32c (h.take 0x3C) = leAt h 0x3C 4) && decide (crc32c body = leAt h 0x38 4)

/-- Boot step 5 for a bay (R568, R569): the copy that wins is loaded, or the bay is uncalibrated; a divergence is reported and the
losing copies will be rewritten. -/
def State.calLoad (s : State) (b : Nat) : State :=
  let valid := (List.range 3).filter (s.calBlockValid b)
  let blk := fun (k : Nat) => s.arch.bytes (calAddr b k) (64 + 17664)
  let gen := fun (k : Nat) => leAt (blk k) 8 4
  let pair := valid.find? (fun k => valid.any (fun j => decide (j ≠ k) && decide (blk j = blk k)))
  let best := valid.foldl (fun m k => match m with
    | none => some k
    | some j => if gen j < gen k then some k else some j) none
  let win := pair.orElse (fun _ => best)
  let bits := valid.foldl (fun m k => m + 2 ^ k) 0
  let s := (s.setF ⟨Reg.CAL_STORE_STATUS, 8 * b, 3⟩ bits).setF ⟨Reg.CAL_STORE_STATUS, 8 * b + 4, 2⟩ (win.getD 3)
  match win with
  | none => (s.onCal b (fun c => { c with force := none, pending := none, store := [] })).setFlag (F.CAL_BAY_STATUS_UNCAL b) true
  | some k =>
    let h := blk k
    let x : CalSet := { gen := leAt h 8 4, baseGen := leAt h 0x0C 4, tcal := signed 16 (leAt h 0x18 2), kind := leAt h 0x1A 1,
                        modes := leAt h 7 1, uncal := bitAt (leAt h 0x1B 1) 0, fullSec := leAt h 0x1C 6, refV := leAt h 0x28 4,
                        shelves := 0xFF, body := h.drop 64 }
    let losers := (List.range 3).filter (fun j => !(decide (j ∈ valid) && decide (blk j = h)))
    let s := s.onCal b (fun c => { c with force := some x, pending := none, lastGen := Nat.max c.lastGen x.gen, store := losers })
    let s := ((s.wr (Reg.CAL_BAY_GEN b) (BitVec.ofNat 32 x.gen)).setF (F.CAL_BAY_TCAL_T b) (leAt h 0x18 2)).setFlag (F.CAL_BAY_STATUS_UNCAL b) x.uncal
    let s := (s.wr (Reg.CAL_BAY_FULL_SEC_LO b) (BitVec.ofNat 32 x.fullSec)).setF (F.CAL_BAY_FULL_SEC_HI_SEC b) (x.fullSec / 2 ^ 32)
    let s := s.each 64 (fun i s => s.calStepCh (64 * b + i))
    if losers = [] then s
    else ((s.setFlag ⟨Reg.CAL_STORE_STATUS, 8 * b + 7, 1⟩ true).setFlag ⟨Reg.CAL_STORE_STATUS, 8 * b + 6, 1⟩ true).note 0xE006 0x15 b

end Sys2Proof.Machine
end

