-- ==== Sys2Proof/Machine/Scratch.lean ====
section
/-! DEFINITION. The scratchpad banks: the host's window, power states and marches (17_clerks.md R486 to R492). -/
namespace Sys2Proof.Machine

def State.spdWord (s : State) (i : Nat) : BitVec 64 := SMap.get 0 s.wks.spd i
def State.setSpd (s : State) (i : Nat) (v : BitVec 64) : State := s.onWks (fun w => { w with spd := SMap.put 0 w.spd i v })
/-- A bank's contents become zero (R490, R491). -/
def State.zeroBank (s : State) (k : Nat) : State := s.onWks (fun w => { w with spd := w.spd.filter (fun q => decide (q.1 / 32768 ≠ k)) })
def State.bankState (s : State) (k : Nat) : Nat := s.f (F.SPD_BANK_STATE k)

/-- The window's data registers. -/
def State.winData (s : State) : BitVec 64 := s.rd Reg.SPD_WIN_DATA_HI ++ s.rd Reg.SPD_WIN_DATA_LO
def State.setWinData (s : State) (v : BitVec 64) : State :=
  (s.wr Reg.SPD_WIN_DATA_LO (v.extractLsb' 0 32)).wr Reg.SPD_WIN_DATA_HI (v.extractLsb' 32 32)

/-- An operation of the window (R486 to R488): OP 0 READ, 1 WRITE, 2 ADD, 3 SWAP; `ecc` of the word read: 0 clean, 1 corrected,
2 uncorrectable. What the firmware stores in a bank with USE = 1, and the data of a POISON, have no value of the spec's: free. -/
def State.winOp (s : State) (ecc : Nat) : State :=
  let a := s.f F.SPD_WIN_ADDR_ADDR
  let k := a / 32768
  let op := s.f F.SPD_WIN_OP_OP
  let use := s.flag (F.SPD_BANK_USE k)
  let res := fun (s : State) (r : Nat) => s.setF F.SPD_WIN_OP_RESULT r
  if s.bankState k = 4 then res s 2
  else if s.bankState k ≠ 2 then res (if op = 0 then s.setWinData 0 else s) 1
  else if op ≠ 0 ∧ use then res s 3
  else if op = 1 then res (s.setSpd a s.winData) 0
  else if ecc = 2 then
    let s := (s.satInc F.SPD_CNT_UNC).raiseRecovery (unitCode 0xD k) 3 (8 * a)
    res ((s.setWinData (s.freeBits 64)).nextFree) 4
  else
    let s := if ecc = 1 then s.satInc F.SPD_CNT_CORR else s
    let old := if use then s.freeBits 64 else s.spdWord a
    let s := if use then s.nextFree else s
    let s := match op with
      | 2 => s.setSpd a (old + s.winData)
      | 3 => s.setSpd a s.winData
      | _ => s
    res (s.setWinData old) 0

/-- A write of SPD_WIN_OP performs OP with GO (Table 17-8). -/
def State.winWrite (s : State) (w : BusWrite) (ecc : Nat) : State :=
  s.onWrite Reg.SPD_WIN_OP w (fun s =>
    let s := s.setF F.SPD_WIN_OP_GO 0
    if w.data.getLsbD 31 then s.winOp ecc else s)

/-- READ (R487). -/
def execSpdRead (w : BusWrite) (ecc : Nat) (s : State) : Host.Outcome State Fault Refusal := .next (s.winWrite w ecc)
/-- WRITE (R487). -/
def execSpdWrite (w : BusWrite) (s : State) : Host.Outcome State Fault Refusal := .next (s.winWrite w 0)
/-- ADD (R487, R488). -/
def execSpdAdd (w : BusWrite) (ecc : Nat) (s : State) : Host.Outcome State Fault Refusal := .next (s.winWrite w ecc)
/-- SWAP (R487, R488). -/
def execSpdSwap (w : BusWrite) (ecc : Nat) (s : State) : Host.Outcome State Fault Refusal := .next (s.winWrite w ecc)

/-- SPD_MARCH (R491). -/
def execSpdMarch (w : BusWrite) (s : State) : Host.Outcome State Fault Refusal :=
  .next (s.onWrite Reg.SPD_MARCH w (fun s =>
    let s := s.setF F.SPD_MARCH_GO 0
    if !w.data.getLsbD 31 then s
    else
      let k := s.f F.SPD_MARCH_BANK
      let destructive := s.flag F.SPD_MARCH_MODE
      let s := s.istDrop (fun x => decide (x.kind = 2))
      if s.bankState k ≠ 2 ∨ s.wks.march.isSome ∨ (destructive ∧ s.flag (F.SPD_BANK_USE k)) then s.setF F.SPD_MARCH_STATUS_RESULT 3
      else
        let s := s.onWks (fun x => { x with march := some { bank := k, alg := s.f F.SPD_MARCH_ALG, destructive := destructive } })
        ((s.setF F.SPD_MARCH_STATUS_RESULT 0).setF F.SPD_MARCH_STATUS_SEG 0).setFlag F.SPD_MARCH_STATUS_BUSY true))

/-- MARCH_DONE (R491, R492): the march ends in segment `seg`; `fail`: the first failing byte address. -/
def execMarchDone (seg : Nat) (fail : Option Nat) (s : State) : Host.Outcome State Fault Refusal :=
  .next (
    match s.wks.march with
    | none => s
    | some m =>
      let s := ((s.onWks (fun x => { x with march := none })).setFlag F.SPD_MARCH_STATUS_BUSY false).setF F.SPD_MARCH_STATUS_SEG seg
      let s := s.irq 0xD4
      match fail with
      | none => (if m.destructive then s.zeroBank m.bank else s).setF F.SPD_MARCH_STATUS_RESULT 1
      | some a =>
        ((s.setF F.SPD_MARCH_STATUS_RESULT 2).setF F.SPD_MARCH_FAIL_ADDR a).raise
          { unit := unitCode 0xD m.bank, cause := 0x18, cls := 2, detail := a })

/-- A bank starts toward a power state (R490, Table 17-5): 0 OFF, 2 ON, 3 RETENTION. A bank that leaves ON serves no access at
once, and one that goes OFF has lost its contents. -/
def State.bankGo (s : State) (k target : Nat) : State :=
  if s.bankState k = target ∧ SMap.get none s.wks.target k = none then s
  else
    let s := (s.istDrop (fun x => decide (x.kind = 2 ∧ x.unit = k))).onWks (fun x => { x with target := SMap.put none x.target k (some target) })
    s.setF (F.SPD_BANK_STATE k) 1

/-- The power state REQ names (Table 17-8). -/
def bankTarget (req : Nat) : Nat := match req with | 0 => 0 | 2 => 3 | _ => 2

/-- SPD_BANK_REQ (R489, R490): USE, STBY and REQ are written; a refused request leaves STATE, with ERR. -/
def execSpdBankReq (k : Nat) (w : BusWrite) (s : State) : Host.Outcome State Fault Refusal :=
  .next (
    let was := s.f (F.SPD_BANK_REQ k)
    s.onWrite (Reg.SPD_BANK k) w (fun s =>
      let req := s.f (F.SPD_BANK_REQ k)
      let marching := (s.wks.march.map (fun m => m.bank)) = some k
      if bankTarget req = bankTarget was ∨ s.bankState k = 4 then s
      else if marching then s.setF (F.SPD_BANK_ERR k) 2
      else if bankTarget req ≠ 2 ∧ s.flag (F.SPD_BANK_USE k) then s.setF (F.SPD_BANK_ERR k) 1
      else (s.setF (F.SPD_BANK_ERR k) 0).bankGo k (bankTarget req)))

/-- BANK_TRANSITION_DONE (R490): a bank that comes from OFF is zero-filled; in OFF nothing is kept. -/
def execBankTransitionDone (k : Nat) (s : State) : Host.Outcome State Fault Refusal :=
  .next (
    match SMap.get none s.wks.target k with
    | none => s
    | some t =>
      let s := s.onWks (fun x => { x with target := SMap.put none x.target k none })
      (if t = 0 then s.zeroBank k else s).setF (F.SPD_BANK_STATE k) t)

/-- SPD_CNT_WRITE (R486): `unc`, the counter of uncorrectable reads. -/
def execSpdCntWrite (unc : Bool) (w : BusWrite) (s : State) : Host.Outcome State Fault Refusal :=
  .next (let a := if unc then Reg.SPD_CNT_UNC else Reg.SPD_CNT_CORR
         s.onPlain a w (fun s => s.wr a 0))

end Sys2Proof.Machine
end

