-- ==== Sys2Proof/Machine/Debug.lean ====
section
/-! DEFINITION. The test access port, the always-on write gate, debug halts, the inventory cycle and die temperature
(22_debug_and_in_service_test.md, 24_electrical_and_package.md R638). -/
namespace Sys2Proof.Machine

/-! ### The test access port -/

/-- Ports of TDO's data and instruction captures (the model's own: notes/assumptions/3.md). -/
def tdoPort : Nat := 0x20000000
def tdoIrPort : Nat := 0x20000001

/-- Load a TAP instruction: Capture-IR shifts out 0x01 (R590). -/
def State.tapIr (s : State) (ir : Nat) : State :=
  ({ s with tap := { s.tap with ir := ir } } : State).emit (.answer tdoIrPort 0x01)

/-- An instruction that takes the boundary balls enters Safe as a request, every channel's PATH set to NONE (R593, R86); in Cold and
in Boot, where no request for Safe is legal, it acts with no mode change (Boot: DEDUCED, notes/assumptions/54.md). -/
def State.tapSafe (s : State) : State :=
  if s.mode = .cold ∨ s.mode = .boot then s
  else
    let was := s.mode
    let s := s.safeEntry false
    let s := if was = .safe then
        s.each 256 (fun ch s => ((s.setF (F.CHN_CTRL_PATH ch) 0).disconnect ch).pmuStop ch)
      else s
    s.modeResult (s.f F.SYS_MODE_LAST_SEQ) 1

/-- The TAP answers while VDD_AON and VDD_33 are good (R590). -/
def State.tapOn (s : State) (act : State → State) : State := if s.sys.unpowered then s else act s

/-- What the boundary register drives in place of the functional drive, where it does (R593): HIGHZ disables every output. -/
def State.boundaryDrive (s : State) : Option Nat :=
  match s.tap.ir with
  | 0x00 | 0x04 => some s.tap.cells
  | 0x03 => some 0
  | _ => none

/-- TAP_RESET (R590): Test-Logic-Reset, IDCODE in the instruction register. -/
def execTapReset (s : State) : Host.Outcome State Fault Refusal :=
  .next (s.tapOn (fun s => { s with tap := { s.tap with ir := 0x02 } }))
/-- EXTEST (R593): the captured cells shift out and the updated cells drive. -/
def execTapExtest (cells pins : Nat) (s : State) : Host.Outcome State Fault Refusal :=
  .next (s.tapOn (fun s =>
    let s := (s.tapIr 0x00).tapSafe
    ({ s with tap := { s.tap with cells := cells % 2 ^ 54 } } : State).emit (.answer tdoPort (pins % 2 ^ 54))))
/-- SAMPLE_PRELOAD (R590): samples, and loads the cells that EXTEST or CLAMP will drive; function unchanged. -/
def execTapSamplePreload (cells pins : Nat) (s : State) : Host.Outcome State Fault Refusal :=
  .next (s.tapOn (fun s =>
    let s := s.tapIr 0x01
    ({ s with tap := { s.tap with cells := cells % 2 ^ 54 } } : State).emit (.answer tdoPort (pins % 2 ^ 54))))
/-- IDCODE (R591). -/
def execTapIdcode (s : State) : Host.Outcome State Fault Refusal :=
  .next (s.tapOn (fun s => (s.tapIr 0x02).emit (.answer tdoPort 0x1B2565D3)))
/-- HIGHZ (R593): bypass selected. -/
def execTapHighz (s : State) : Host.Outcome State Fault Refusal :=
  .next (s.tapOn (fun s => ((s.tapIr 0x03).tapSafe).emit (.answer tdoPort 0)))
/-- CLAMP (R593): outputs held from the boundary register; bypass selected. -/
def execTapClamp (cells : Nat) (s : State) : Host.Outcome State Fault Refusal :=
  .next (s.tapOn (fun s =>
    let s := (s.tapIr 0x04).tapSafe
    ({ s with tap := { s.tap with cells := cells % 2 ^ 54 } } : State).emit (.answer tdoPort 0)))
/-- BYPASS (R590): the 1-bit bypass register, captured 0 (IEEE 1149.1; PRESUMED, notes/assumptions/54.md). -/
def execTapBypass (s : State) : Host.Outcome State Fault Refusal :=
  .next (s.tapOn (fun s => (s.tapIr 0xFF).emit (.answer tdoPort 0)))

/-- The debug access port is enabled (R595). -/
def State.dapEnabled (s : State) : Bool := s.flag F.DBG_STATUS_DAP_EN && !s.sec.fuses.debugOff && !s.flag F.SEC_LOCK_DBG
/-- DBG_STATUS as it reads: GATE_DAP and DAP_EN follow the gate and the lock (Table 22-6). -/
def State.dbgStatus (s : State) : Nat :=
  setBits (setBits (s.rd Reg.DBG_STATUS).toNat 3 1 (b2n (s.gate 16).opened)) 0 1 (b2n s.dapEnabled)
/-- DAP_STATUS (R590): DBG_STATUS, with no side effect. -/
def execDapStatus (s : State) : Host.Outcome State Fault Refusal :=
  .next (s.tapOn (fun s => (s.tapIr 0x11).emit (.answer tdoPort s.dbgStatus)))

/-! ### The always-on write gate -/

/-- One write of a KEY by a master with a gate (R598, R600). -/
def State.unlockKey (s : State) (g key : Nat) : State :=
  if (s.gate g).keyed then
    if key = 0x3C5A then s.setGate g { opened := true }
    else (s.setGate g {}).setFlag F.DBG_STATUS_UNLOCK_TMO true
  else if key = 0xA5C3 then s.setGate g { keyed := true, opened := (s.gate g).opened }
  else s

/-- DBG_AON_UNLOCK (R598): the register reads 0; the host port has no gate. -/
def execDbgAonUnlock (w : BusWrite) (s : State) : Host.Outcome State Fault Refusal :=
  .next (s.onWrite Reg.DBG_AON_UNLOCK w (fun s =>
    let s := s.wr Reg.DBG_AON_UNLOCK 0
    if w.master = .host then s else s.unlockKey (masterGate w.master) (w.data.toNat % 65536)))

/-- UNLOCK_TMO (R598, R600): 2 µs after KEY1 the sequence voids; 2 µs after KEY2 the gate closes. -/
def execUnlockTmo (g : Nat) (s : State) : Host.Outcome State Fault Refusal :=
  .next (
    let v := s.gate g
    let s := s.setGate g {}
    if v.keyed then s.setFlag F.DBG_STATUS_UNLOCK_TMO true else s)

/-! ### Halting -/

/-- One context under DBG_RDR_HALT (R601): a state that allows no halt is left as it is. -/
def State.debugHalt (s : State) (c : Nat) (force : Bool) : State :=
  let st := s.ctxState c
  if force then (if st.active then s.forceCommand c else s)
  else if st = .armed ∨ st.playing then s.haltCommand c else s

/-- DBG_RDR_HALT (R601). -/
def execDbgRdrHalt (w : BusWrite) (s : State) : Host.Outcome State Fault Refusal :=
  .next (s.onPlain Reg.DBG_RDR_HALT w (fun s =>
    s.each 16 (fun c s => if w.data.getLsbD c then s.debugHalt c (w.data.getLsbD 31) else s)))

/-- The halt bits take effect on the clerks that are not fenced: a clerk halts with its program counter, a free value, to be read;
one that resumes reads 0 (R602). -/
def State.clerkHalts (s : State) : State :=
  s.each 16 (fun i s =>
    let want := s.flag ⟨Reg.DBG_CLK_HALT, i, 1⟩ && !s.fenced (unitCode 0xC i)
    let is := s.flag ⟨Reg.DBG_CLK_STATUS, i, 1⟩
    if want = is then s
    else
      let s := s.setFlag ⟨Reg.DBG_CLK_STATUS, i, 1⟩ want
      if want then (s.wr (Reg.DBG_CLK_PC i) (s.freeBits 32)).nextFree else s.wr (Reg.DBG_CLK_PC i) 0)

/-- DBG_CLK_HALT (R602). -/
def execDbgClkHalt (w : BusWrite) (s : State) : Host.Outcome State Fault Refusal :=
  .next (s.onWrite Reg.DBG_CLK_HALT w State.clerkHalts)

/-! ### Inventory -/

/-- Steps of each kind in a cycle, and the unit of a step (Table 22-4). -/
def istSteps (kind : Nat) : Nat := match kind with | 0 => 576 | 1 => 160 | 2 => 16384 | _ => 192
def istUnit (kind n : Nat) : Nat := match kind with | 0 => n / 2 | 1 => n / 40 | 2 => n / 256 | _ => n / 16
/-- Units of each kind: 256 channels and 32 monitors, 4 clusters, 64 banks, 3 copies of 4 bays; and steps of a unit. -/
def istUnits (kind : Nat) : Nat := match kind with | 0 => 288 | 1 => 4 | 2 => 64 | _ => 12
def istPer (kind : Nat) : Nat := match kind with | 0 => 2 | 1 => 40 | 2 => 256 | _ => 16
/-- The unit code IST_FAIL records. -/
def istCode (kind u : Nat) : Nat :=
  match kind with
  | 0 => if u < 256 then unitCode 1 u else unitCode 2 (u - 256)
  | 1 => unitCode 4 u
  | 2 => unitCode 0xD u
  | _ => unitCode 3 (u % 4)

/-- A calibration runs on a bay. -/
def State.calRuns (s : State) (b : Nat) : Bool := (s.cal b).run.isSome

/-- A unit is eligible for a step (Table 22-4). -/
def State.istEligible (s : State) (kind u : Nat) : Bool :=
  match kind with
  | 0 => if u < 256 then decide (s.chanState u = 1) && !s.calRuns (u / 64) else !s.calRuns ((u - 256) / 8)
  | 1 => decide (s.f (F.UCS_STATUS_STATE u) ≠ 0 ∧ s.f (F.UCS_STATUS_STATE u) ≠ 1)
  | 2 => decide (s.bankState u = 2) && !s.fenced (unitCode 0xD u) && s.wks.march.isNone
  | _ => s.arch.hostOp.isNone && !s.arch.busy && !s.arch.inhibit &&
      !s.arch.queue.any (fun w => (List.range 3).any (fun k => decide (w.writer = .cal (u % 4) k))) && !decide (u % 4 ∈ s.arch.calFlags) &&
      decide ((s.cal (u % 4)).store = [])

/-- Inventory runs (R603). -/
def State.istRuns (s : State) : Bool :=
  s.flag F.IST_CFG_EN && decide (s.mode ∈ [.idle, .calibrate, .load, .armed, .run, .paused, .characterise])

def State.onIst (s : State) (g : Inventory → Inventory) : State := { s with ist := g s.ist }
def State.istDone (s : State) (kind n : Nat) : Bool := bitAt (SMap.get 0 s.ist.done kind) n

/-- Units that are eligible now are noted as such (R606; seen at inventory's own steps: DEDUCED, notes/assumptions/55.md). -/
def State.istSee (s : State) : State :=
  s.eachOf ((List.range 4).filter (fun k => bitAt (s.f F.IST_CFG_KINDS) k)) (fun k s =>
    let m := (List.range (istUnits k)).foldl (fun m u => if s.istEligible k u then setBitTo m u true else m) (SMap.get 0 s.ist.seen k)
    s.onIst (fun x => { x with seen := SMap.put 0 x.seen k m }))

/-- Steps of a unit still to do. -/
def State.istLeft (s : State) (k u : Nat) : Nat := istPer k - popCount (bitsAt (SMap.get 0 s.ist.done k) (istPer k * u) (istPer k)) (istPer k)

/-- The cycle ends once every enabled step is done but those of units that were never eligible, which are skipped and counted
(R606). -/
def State.istCycle (s : State) : State :=
  let kinds := (List.range 4).filter (fun k => bitAt (s.f F.IST_CFG_KINDS) k)
  let open_ := kinds.flatMap (fun k => ((List.range (istUnits k)).filter (fun u => decide (s.istLeft k u ≠ 0))).map (fun u => (k, u)))
  if open_.any (fun p => bitAt (SMap.get 0 s.ist.seen p.1) p.2) then s
  else
    let secs := (s.now - s.ist.began) / 100000000
    let s := ((s.satInc F.IST_CYCLES).setF F.IST_LAST_S_S (Nat.min 0xFFFF secs)).setF F.IST_SKIPPED_N open_.length
    (s.setF F.IST_STATUS_PROGRESS 0).onIst (fun _ => { began := s.now })

/-- A copy of a bay's calibration store is found bad: the divergence is reported and the copy rewritten (R569). -/
def State.calDiverge (s : State) (b k : Nat) : State :=
  let idle := decide ((s.cal b).store = [])
  let s := s.onCal b (fun c => { c with store := if k ∈ c.store then c.store else c.store ++ [k] })
  let s := ((s.setFlag ⟨Reg.CAL_STORE_STATUS, 8 * b + 7, 1⟩ true).setFlag ⟨Reg.CAL_STORE_STATUS, 8 * b + 6, 1⟩ true).note 0xE006 0x15 b
  if idle then s.calStoreNext b else s

/-- What a failing step raises (Table 22-4). -/
def State.istRaise (s : State) (kind u x : Nat) : State :=
  let s := ((s.setFlag F.IST_FAIL_VALID true).setF F.IST_FAIL_KIND kind).setF F.IST_FAIL_UNIT (istCode kind u)
  match kind with
  | 0 => s.raise { unit := istCode 0 u, cause := if x ∈ [0x10, 0x11, 0x12] then x else 0x12, cls := 2 }
  | 1 => (s.setFlag (F.UCS_STATUS_INTEGRITY u) true).raise { unit := unitCode 4 u, cause := 0x15, cls := 2 }
  | 2 => s.raise { unit := unitCode 0xD u, cause := 0x18, cls := 2, detail := x }
  | _ => s.calDiverge (u % 4) (u / 4)

/-- An inventory step starts, or ends (R603 to R606). -/
def State.istStep (s : State) (kind n : Nat) (fin : Option (Option Nat)) : State :=
  let u := istUnit kind n
  match fin with
  | none =>
    if !s.istRuns || !bitAt (s.f F.IST_CFG_KINDS) kind || s.ist.step.isSome || decide (istSteps kind ≤ n) || s.istDone kind n then s
    else
      let s := s.istSee
      if !s.istEligible kind u then s
      else
        let s := s.onIst (fun x => { x with step := some { kind := kind, unit := u, num := n } })
        let s := if kind = 0 ∧ u < 256 then s.onChan u (fun c => { c with taken := true }) else s
        (s.setFlag F.IST_STATUS_BUSY true).setF F.IST_STATUS_KIND kind
  | some r =>
    if s.ist.step ≠ some { kind := kind, unit := u, num := n } then s
    else
      let s := s.onIst (fun x => { x with step := none, done := SMap.put 0 x.done kind (setBitTo (SMap.get 0 x.done kind) n true) })
      let s := if kind = 0 ∧ u < 256 then s.onChan u (fun c => { c with taken := false }) else s
      let s := (s.setFlag F.IST_STATUS_BUSY false).setF F.IST_STATUS_PROGRESS (s.f F.IST_STATUS_PROGRESS + 1)
      let s := match r with
        | some x => s.istRaise kind u x
        | none => s
      s.istSee.istCycle

/-- LOOPBACK (R604, R605). -/
def execIstLoopback (n : Nat) (fin : Option (Option Nat)) (s : State) : Host.Outcome State Fault Refusal := .next (s.istStep 0 n fin)
/-- CSTORE (R206, R604). -/
def execIstCstore (n : Nat) (fin : Option (Option Nat)) (s : State) : Host.Outcome State Fault Refusal := .next (s.istStep 1 n fin)
/-- MARCH (R491, R604). -/
def execIstMarch (n : Nat) (fin : Option (Option Nat)) (s : State) : Host.Outcome State Fault Refusal := .next (s.istStep 2 n fin)
/-- ARCHIVE (R566, R604). -/
def execIstArchive (n : Nat) (fin : Option (Option Nat)) (s : State) : Host.Outcome State Fault Refusal := .next (s.istStep 3 n fin)

/-! ### Die temperature -/

/-- DIE_OVERTEMP (R638): a die above 110 °C for 10 ms. -/
def execDieOvertemp (d : Nat) (s : State) : Host.Outcome State Fault Refusal :=
  .next (
    if s.mode = .cold then s
    else if d < 4 then s.raise { unit := unitCode 3 d, cause := 0x09, cls := 2, held := true }
    else s.raise { unit := 0xE005, cause := 0x09, cls := 3, held := true })

end Sys2Proof.Machine
end

