-- ==== Sys2Proof/Machine/Library.lean ====
section
/-! DEFINITION. The library command engine, loads on this device and for members, the prefetcher, LIB frames and the concordance
load (08_library_and_catalogue.md, 05_folios_and_leaf_code.md R140, R141). -/
namespace Sys2Proof.Machine

/-! ### The command engine -/

/-- A command ends (R235): the register form shows its result, PARTS and FAILS, a ring's is kept for its completion entry. -/
def State.libEnd (s : State) (c : LibCmd) (res parts fails : Nat) : State :=
  let s := s.onLib (fun l => { l with cur := none, load := {}, reqs := l.reqs.filter (fun q => q.ctx.isSome) })
  match c.desc with
  | some r => if r < 256 then s.onLib (fun l => { l with ended := l.ended ++ [(r, res, parts, fails)] }) else s
  | none =>
    ((((s.setF F.LIB_CMD_STATUS_RESULT res).setF F.LIB_CMD_PARTS_PARTS parts).setF F.LIB_CMD_FAILS_FAILS fails).setFlag
      F.LIB_CMD_OP_GO false).irq 0xCB

/-- The modes in which commands and the LOAD engine run (R230). -/
def State.libMode (s : State) : Bool := !decide (s.mode ∈ [.cold, .boot, .standby, .selftest, .safe])

/-- The parts of a LOAD that its entry already holds (R231). -/
def resident (tgt : Nat) (e : List Byte) : Nat := bitsAt tgt 0 2 &&& entryRes e

/-- The first refusal of R645 before the header check: the result, or the entry. -/
def State.libRefuse (s : State) (c : LibCmd) : Nat ⊕ List Byte :=
  let members := bitList (c.tgt / 4) 16
  if !s.libMode then .inl 4
  else if 5 ≤ c.op then .inl 0x0A
  else if c.op < 3 then .inr []
  else if c.tgt = 0 then .inl 0x0B
  else if c.op = 4 ∧ members ≠ [] then .inl 5
  else if c.op = 3 ∧ s.f F.GRP_CFG_SELF ∈ members then .inl 5
  else match (s.lookup 5 c.cn).1 with
    | none => .inl 3
    | some e =>
      if c.op = 3 ∧ (s.addrStatus (entryOrigin e) = 1 ∨
          (List.range 2).any (fun st => bitAt c.tgt st && !(decide (entryLocal e st ≠ 0) && localOk (entryLocal e st) (entryLength e)))) then .inl 5
      else if c.op = 3 ∧ (members.any (fun m => !s.memberOk m || (s.routePort m).isNone) ∨
          (entryOrigin e / 2 ^ 50 = 1 ∧ (s.routePort (bitsAt (entryOrigin e) 46 4)).isNone)) then .inl 6
      else .inr e

/-- Start a command: everything but a LOAD ends at once (R227, R231, R234, Table 8-5). -/
def State.libStart (s : State) (c : LibCmd) : State :=
  let s := if c.op = 3 ∨ c.op = 4 then (s.lookup 5 c.cn).2 else s
  match s.libRefuse c with
  | .inl res => s.libEnd c res 0 0
  | .inr e =>
    match c.op with
    | 0 => s.libEnd c 1 0 0
    | 1 => (s.invalidateCn (some c.cn)).libEnd c 1 0 0
    | 2 => (s.invalidateCn none).libEnd c 1 0 0
    | 4 =>
      let res := (BitVec.ofNat 8 (entryRes e) &&& ~~~(BitVec.ofNat 8 (c.tgt % 4))).toNat
      ((s.putEntry (c.cn % 2 ^ s.catK) (entryWithRes e res)).invalidateCn (some c.cn)).libEnd c 1 0 0
    | _ =>
      let s := s.onLib (fun l => { l with cur := some c, load := { entry := e, done := resident c.tgt e } })
      s.originAskAll (entryOrigin e) none c.cn 0 (entryLength e / 65536 + 1) (entryLength e)

/-- Commands that wait start in the order received (R235). -/
def State.libNext (s : State) : Nat → State
  | 0 => s
  | fuel + 1 =>
    match s.lib.cur, s.lib.queue with
    | none, c :: cs => ((s.onLib (fun l => { l with queue := cs })).libStart c).libNext fuel
    | _, _ => s

/-- A command reaches the engine. -/
def State.libTake (s : State) (c : LibCmd) : State :=
  (s.onLib (fun l => { l with queue := l.queue ++ [c] })).libNext (s.lib.queue.length + 1)

/-- A command ends and the next begins. -/
def State.libFinish (s : State) (c : LibCmd) (res parts fails : Nat) : State :=
  let s := s.libEnd c res parts fails
  s.libNext s.lib.queue.length

/-- A write to LIB_CMD_OP (R235): ignored while GO reads 1. -/
def State.libWrite (s : State) (w : BusWrite) : State :=
  if s.flag F.LIB_CMD_OP_GO then s.onPlain Reg.LIB_CMD_OP w id
  else s.onWrite Reg.LIB_CMD_OP w (fun s =>
    if bitAt w.data.toNat 31 then
      (s.setFlag F.LIB_CMD_OP_GO true).libTake
        { op := s.f F.LIB_CMD_OP_OP, cn := s.f F.LIB_CMD_CN, tgt := s.f F.LIB_CMD_TGT_TARGETS }
    else s)

/-- LIB_CMD_NONE (R235, Table 8-5). -/
def execLibCmdNone (w : BusWrite) (s : State) : Host.Outcome State Fault Refusal := .next (s.libWrite w)
/-- INVALIDATE (R227, R228). -/
def execLibInvalidate (w : BusWrite) (s : State) : Host.Outcome State Fault Refusal := .next (s.libWrite w)
/-- INVALIDATE_ALL (R227, R228). -/
def execLibInvalidateAll (w : BusWrite) (s : State) : Host.Outcome State Fault Refusal := .next (s.libWrite w)
/-- LOAD (R230 to R233, R645). -/
def execLibLoad (w : BusWrite) (s : State) : Host.Outcome State Fault Refusal := .next (s.libWrite w)
/-- EVICT (R234, R645). -/
def execLibEvict (w : BusWrite) (s : State) : Host.Outcome State Fault Refusal := .next (s.libWrite w)

/-! ### A LOAD in progress -/

/-- Every part has ended and some failed: PARTIAL, or TIMEOUT where every part made no progress (R232, R233; which of the two
is DEDUCED, notes/assumptions/33.md). -/
def State.loadCheck (s : State) (c : LibCmd) : State :=
  let l := s.lib.load
  if (l.done ||| l.fails) &&& c.tgt = c.tgt ∧ l.fails &&& c.tgt ≠ 0 then
    s.libFinish c (if l.fails &&& c.tgt = c.tgt ∧ l.timeouts = l.fails then 9 else 2) (l.done &&& c.tgt) (l.fails &&& c.tgt)
  else s

def State.onLoad (s : State) (g : LoadSt → LoadSt) : State := s.onLib (fun l => { l with load := g l.load })

/-- A part ends. -/
def State.partEnd (s : State) (c : LibCmd) (part : Nat) (ok timeout : Bool) : State :=
  (s.onLoad (fun l => if ok then { l with done := setBitTo l.done part true }
    else { l with fails := setBitTo l.fails part true, timeouts := if timeout then setBitTo l.timeouts part true else l.timeouts })).loadCheck c

/-- A part still waits. -/
def LoadSt.waits (l : LoadSt) (c : LibCmd) (part : Nat) : Bool :=
  bitAt c.tgt part && !bitAt l.done part && !bitAt l.fails part && l.acks.isNone

/-- The folio's bytes once every stretch has come (R231); none while one is out. -/
def State.loadBytes (s : State) : Option (List Byte × Bool) :=
  let qs := s.lib.reqs.filter (fun q => q.ctx.isNone)
  if qs.all (fun q => q.done) then some (qs.flatMap (fun q => q.bytes), qs.any (fun q => q.bad)) else none

/-- The data bytes of one VC0 frame to a member: split while a group is armed where it leaves on a tree port, so that no frame
exceeds GRP_LINK.VC0_MAX flits (R422); `head`: the flits beside the data. -/
def State.vc0Chunk (s : State) (m most head : Nat) : Nat :=
  match s.routePort m with
  | some p =>
    if decide (2 ≤ s.f F.GRP_STATUS_STATE ∧ s.f F.GRP_STATUS_STATE ≤ 6 ∧ s.f (F.GRP_PORT_ROLE p) ≠ 0) then
      Nat.max 64 (Nat.min most ((s.f F.GRP_LINK_VC0_MAX - head) * 16 / 64 * 64))
    else most
  | none => most

/-- The LIB_WRITE frames of a member's part: each piece of up to 960 bytes for each copy its LOCAL addresses name (R231, Table
14-6). The device's own entry gives those addresses (DEDUCED, notes/assumptions/33.md). -/
def State.sendPieces (s : State) (m part tag la : Nat) : Nat → Nat → List Byte → State
  | 0, _, _ => s
  | _, _, [] => s
  | fuel + 1, off, bs =>
    let most := s.vc0Chunk m 960 3
    let piece := bs.take most
    let s := (s.sendTo m { vc := 0, kind := 3, tag := tag, arg := part, payload := leBytes (la + off) 8 ++ leBytes 0 8 ++ piece }).1
    s.sendPieces m part tag la fuel (off + most) (bs.drop most)

def State.sendPart (s : State) (part : Nat) (bs : List Byte) : State :=
  let e := s.lib.load.entry
  let s := (s.onLoad (fun l => { l with sent := setBitTo l.sent part true, tag := s.newTag })).nextFree
  s.eachOf ((List.range 2).filter (fun st => decide (entryLocal e st ≠ 0)))
    (fun st s => s.sendPieces (part - 2) part s.lib.load.tag (entryLocal e st) (bs.length + 1) 0 bs)

/-- LOAD_PART_DONE (R231): a part is written and checked, or (`ok` false) its writing fails. The first part to be written checks
the header; a member's part ends with its acknowledgement. -/
def execLoadPartDone (part : Nat) (ok : Bool) (s : State) : Host.Outcome State Fault Refusal :=
  .next (
    match s.lib.cur with
    | none => s
    | some c =>
      if !s.lib.load.waits c part then s
      else match s.loadBytes with
        | none => s
        | some (bs, bad) =>
          let e := s.lib.load.entry
          if bad then s.libFinish c 7 0 0
          else if !s.lib.load.checked && !folioHeaderOk (bs.take 64) (entryLength e) then s.libFinish c 8 0 0
          else
            let s := s.onLoad (fun l => { l with checked := true })
            if !ok then s.partEnd c part false false
            else if part < 2 then
              let (fail, s) := s.stkWrite (entryLocal e part) 5 bs (fun _ => false)
              s.partEnd c part fail.isNone false
            else if bitAt s.lib.load.sent part then s
            else s.sendPart part bs)

/-- LOAD_PART_TIMEOUT (R233). -/
def execLoadPartTimeout (part : Nat) (s : State) : Host.Outcome State Fault Refusal :=
  .next (
    match s.lib.cur with
    | none => s
    | some c => if s.lib.load.waits c part then s.partEnd c part false true else s.loadCheck c)

/-- The device's own commit (R232): its RES_MAP bits in both table copies, then as INVALIDATE. -/
def State.ownCommit (s : State) (c : LibCmd) : State :=
  let i := c.cn % 2 ^ s.catK
  let s := match s.readEntry i with
    | some e => s.putEntry i (entryWithRes e (entryRes e ||| (c.tgt % 4)))
    | none => s
  (s.invalidateCn (some c.cn)).libFinish c 1 c.tgt 0

/-- LOAD_COMMIT (R232): every part has succeeded; the members are told first, by LIB_ACK with their part's TAG (DEDUCED,
notes/assumptions/33.md). -/
def execLoadCommit (s : State) : Host.Outcome State Fault Refusal :=
  .next (
    match s.lib.cur with
    | none => s
    | some c =>
      let l := s.lib.load
      if l.acks.isSome ∨ l.done &&& c.tgt ≠ c.tgt then s
      else if c.tgt / 4 = 0 then s.ownCommit c
      else (s.eachOf (bitList (c.tgt / 4) 16) (fun m s => (s.sendTo m { vc := 0, kind := 4, tag := l.tag }).1)).onLoad
        (fun l => { l with acks := some (c.tgt / 4) }))

/-- COMMIT_ACK_TIMEOUT (R232): the member counts as failed and the issuing device does not commit. -/
def execCommitAckTimeout (m : Nat) (s : State) : Host.Outcome State Fault Refusal :=
  .next (
    match s.lib.cur, s.lib.load.acks with
    | some c, some left =>
      if bitAt left m then
        let f := setBitTo 0 (m + 2) true
        s.libFinish c 2 (c.tgt &&& (BitVec.allOnes 18 &&& ~~~(BitVec.ofNat 18 f)).toNat) f
      else s
    | _, _ => s)

/-! ### LIB frames -/

/-- LIB_READ (R393, Table 9-1): the data in ascending offset, up to 1,024 bytes a frame, with the TAG of the request. -/
def State.serveLibRead (s : State) (f : Frame) : State :=
  let a := leAt f.payload 0 8 % 2 ^ 41
  let c := s.vc0Chunk f.src 1024 2
  (List.range (ceilDiv (64 * Nat.min 4096 f.arg) c)).foldl (fun s i =>
    let n := Nat.min c (64 * f.arg - c * i)
    let ((bs, poison, fail), s) := s.stkRead (a + c * i) 3 n
    let resp := match fail with
      | some q => q.2
      | none => if poison = [] then 0 else 1
    (s.sendTo f.src { vc := 0, kind := 2, tag := f.tag, arg := resp * 2 ^ 24 + c / 64 * i,
                      payload := (if resp = 2 ∨ resp = 3 then List.replicate n 0 else bs) ++ List.replicate 12 0 }).1) s

/-- LIB_DATA (R393): the data of a request joins it in ascending offset; a response other than OK spoils it (R216). -/
def State.takeLibData (s : State) (f : Frame) : State :=
  s.onReq f.tag (fun q =>
    if q.done || decide (q.addr / 2 ^ 50 ≠ 1) || decide (q.bytes.length ≠ 64 * bitsAt f.arg 0 24) then q
    else
      let bs := q.bytes ++ f.payload.take (Nat.min 1024 (q.len - q.bytes.length))
      { q with bytes := bs, bad := q.bad || decide (bitsAt f.arg 24 8 ≠ 0), done := decide (q.len ≤ bs.length) })

/-- The folio a member's part brings: the call number its header names at the lowest address written. -/
def State.inPartCn (s : State) (p : InPart) : Nat :=
  let a := p.pieces.foldl (fun m q => Nat.min m q.1) ((p.pieces.headD (0, 0)).1)
  leAt (s.ldBytes a 64) 8 4

/-- Every copy of this device's entry that the part writes is whole (Table 8-4). -/
def State.inPartWhole (s : State) (p : InPart) : Bool :=
  match (s.lookup 5 (s.inPartCn p)).1 with
  | none => false
  | some e =>
    let got := fun (a : Nat) => p.pieces.foldl (fun n q => if a ≤ q.1 ∧ q.1 < a + entryLength e then n + q.2 else n) 0
    (List.range 2).all (fun st => decide (entryLocal e st = 0) || decide (entryLength e ≤ got (entryLocal e st)))

/-- LIB_WRITE (R231): a piece is stored, and the part acknowledged once every copy is whole, or at once where a store fails. -/
def State.takeLibWrite (s : State) (f : Frame) : State :=
  let a := leAt f.payload 0 8 % 2 ^ 41
  let bs := f.payload.drop 16
  let (fail, s) := s.stkWrite a 5 bs (fun _ => !f.fcrcOk)
  let ack := fun (s : State) (resp : Nat) => (s.sendTo f.src { vc := 0, kind := 4, tag := f.tag, arg := resp * 2 ^ 24 }).1
  match fail with
  | some q => ack s q.2
  | none =>
    let is := fun (p : InPart) => decide (p.src = f.src ∧ p.tag = f.tag)
    let p := (s.lib.inParts.find? is).getD { src := f.src, tag := f.tag }
    let p := { p with pieces := p.pieces ++ [(a, bs.length)] }
    let s := s.onLib (fun l => { l with inParts := p :: l.inParts.filter (fun q => !is q) })
    if s.inPartWhole p then ack s 0 else s

/-- A commit reaches a member (R232): its RES_MAP bits, INVALIDATE, and its acknowledgement. -/
def State.takeCommit (s : State) (p : InPart) : State :=
  let cn := s.inPartCn p
  let s := match (s.lookup 5 cn).1 with
    | some e =>
      let res := (List.range 2).foldl (fun r st => if entryLocal e st ≠ 0 then setBitTo r st true else r) (entryRes e)
      s.putEntry (cn % 2 ^ s.catK) (entryWithRes e res)
    | none => s
  let s := (s.invalidateCn (some cn)).onLib (fun l => { l with inParts := l.inParts.filter (fun q => !decide (q.src = p.src ∧ q.tag = p.tag)) })
  (s.sendTo p.src { vc := 0, kind := 4, tag := p.tag }).1

/-- LIB_ACK (R231, R232): of a part or a commit this device issued, or a commit for a part it holds. -/
def State.takeLibAck (s : State) (f : Frame) : State :=
  let ok := decide (bitsAt f.arg 24 8 = 0)
  match s.lib.cur with
  | some c =>
    if f.tag = s.lib.load.tag ∧ bitAt (c.tgt / 4) f.src then
      match s.lib.load.acks with
      | some left =>
        if !bitAt left f.src then s
        else if !ok then s.libFinish c 2 (setBitTo c.tgt (f.src + 2) false) (2 ^ (f.src + 2))
        else if setBitTo left f.src false = 0 then s.ownCommit c
        else s.onLoad (fun l => { l with acks := some (setBitTo left f.src false) })
      | none =>
        if bitAt s.lib.load.sent (f.src + 2) && s.lib.load.waits c (f.src + 2) then s.partEnd c (f.src + 2) ok false else s
    else match s.lib.inParts.find? (fun p => decide (p.src = f.src ∧ p.tag = f.tag)) with
      | some p => s.takeCommit p
      | none => s
  | none =>
    match s.lib.inParts.find? (fun p => decide (p.src = f.src ∧ p.tag = f.tag)) with
    | some p => s.takeCommit p
    | none => s

/-! ### The prefetcher -/

/-- PREFETCH_REQUEST (R220): the prefetcher asks for a part of a streamed folio, 0 its header and k + 1 leaf record k, which lies at
`off` of the folio for `len` bytes. It uses the snapshot of the open folio, else an entry of its own. -/
def execPrefetchRequest (c cn part off len : Nat) (s : State) : Host.Outcome State Fault Refusal :=
  .next (
    let d := s.f (F.LIB_CTX_PF_DEPTH c)
    let open_ := ((s.ctx c).folios.find? (fun f => decide (f.cn = cn))).map (fun f => f.entry)
    let (e, s) := match open_ with
      | some e => (some e, s)
      | none => s.lookup 4 cn
    match e with
    | none => s
    | some e =>
      let ahead := ((s.staging c).filter (fun x => decide (x.leaf ≠ 0))).length
      let have_ := (s.staging c).any (fun x => decide (x.cn = cn ∧ x.leaf = part) && x.fits e)
      if !(s.ctxState c).active || decide (d = 0) || have_ || !entryStream e || (s.copies e).length ≠ 0 ||
          decide (entryLeaves e < part) || decide (d ≤ ahead ∧ part ≠ 0) || decide (entryLength e < off + len) then s
      else
        let s := (s.unstage c cn part).dropReqs (fun q => decide (q.ctx = some c ∧ q.cn = cn ∧ q.part = part))
        let s := s.setStaging c (s.staging c ++ [{ cn := cn, leaf := part, origin := entryOrigin e, len := entryLength e, gen := entryGen e }])
        s.originAsk (entryOrigin e + off) len (some c) cn part)

/-- STAGED_DATA_ARRIVAL (R220, R221, R453): a stretch whose data has all come is staged under its tag, or stays absent where it came
bad. -/
def execStagedDataArrival (c cn part : Nat) (s : State) : Host.Outcome State Fault Refusal :=
  .next (
    let is := fun (q : OriginReq) => q.done && decide (q.ctx = some c ∧ q.cn = cn ∧ q.part = part)
    match s.lib.reqs.find? is with
    | none => s
    | some q =>
      let s := s.dropReqs is
      if q.bad then s.unstage c cn part
      else s.setStaging c ((s.staging c).map (fun x => if x.cn = cn ∧ x.leaf = part then { x with bytes := some q.bytes } else x)))

/-! ### Concordance loads -/

/-- A context that owns a channel of a named bay is armed or beyond (R141). -/
def State.concBusy (s : State) (bays : Nat) : Bool :=
  (List.range 256).any (fun ch => bitAt bays (bayOfCh ch) && (match s.owner ch with
    | some c => (s.ctxState c).active
    | none => false))

/-- A concordance load ends (R141, Table 19-9). -/
def State.concEnd (s : State) (res : Nat) : State :=
  ((s.setFlag F.LIB_CONC_CMD_GO false).setF F.LIB_CONC_STATUS_RESULT res).irq 0xCC

/-- CONC_LOAD (R140, R141): NO_BAYS, BUSY and MODE are reported when GO is written (their order with NO_BAYS is DEDUCED,
notes/assumptions/34.md); a GO write while GO reads 1 is ignored. -/
def execConcLoad (w : BusWrite) (s : State) : Host.Outcome State Fault Refusal :=
  .next (
    if s.flag F.LIB_CONC_CMD_GO then s.onPlain Reg.LIB_CONC_CMD w id
    else s.onWrite Reg.LIB_CONC_CMD w (fun s =>
      if !bitAt w.data.toNat 0 then s
      else
        let bays := s.f F.LIB_CONC_CMD_BAYS
        if bays = 0 then s.concEnd 7
        else if s.concBusy bays then s.concEnd 2
        else if s.mode = .selftest ∨ s.mode = .safe then s.concEnd 3
        else (s.setFlag F.LIB_CONC_CMD_GO true).onLib (fun l => { l with concBays := bays })))

/-- The fixed fields of a concordance image's header (Table 5-5). -/
def concHeaderOk (h : List Byte) : Bool :=
  decide (leAt h 0 4 = 0x4E434B56) && decide (leAt h 4 2 = 1) && decide (leAt h 6 2 = 0) && decide (leAt h 8 4 ≠ 0) &&
  decide (1 ≤ leAt h 0x0C 2 ∧ leAt h 0x0C 2 ≤ 4096) && decide (leAt h 0x0E 2 = 0) && decide (leAt h 0x14 40 = 0) &&
  decide (crc32c (h.take 0x3C) = leAt h 0x3C 4)

/-- CONC_LOAD_DONE (R140, R141): BUSY and MODE again, the image as read, and every named bay switches or none does. -/
def execConcLoadDone (s : State) : Host.Outcome State Fault Refusal :=
  .next (
    let bays := s.lib.concBays
    let a := s.f F.LIB_CONC_ADDR_HI_ADDR * 2 ^ 32 + s.f F.LIB_CONC_ADDR_LO_ADDR * 64
    if !s.flag F.LIB_CONC_CMD_GO then s
    else if s.concBusy bays then s.concEnd 2
    else if s.mode = .selftest ∨ s.mode = .safe then s.concEnd 3
    else if !localOk a 64 || !s.stkUp (stackOf a) then s.concEnd 4
    else
      let ((h, bad, _), s) := s.stkRead a 5 64
      let n := 64 + 16 * leAt h 0x0C 2
      if bad ≠ [] then s.concEnd 6
      else if !concHeaderOk h then s.concEnd 5
      else if !localOk a n then s.concEnd 4
      else
        let ((img, bad, _), s) := s.stkRead a 5 n
        if bad ≠ [] then s.concEnd 6
        else if crc32c (img.drop 64) ≠ leAt h 0x10 4 then s.concEnd 5
        else (s.eachOf (bitList bays 4) (fun b s =>
          (s.setF (F.LIB_CONC_ID b) (leAt h 8 4)).onLib (fun l => { l with concs := SMap.put [] l.concs b img }))).concEnd 1)

end Sys2Proof.Machine
end

