-- ==== Sys2Proof/Machine/Frames.lean ====
section
/-! DEFINITION. Frames received on a fabric port: acknowledgement, replay requests, forwarding along routes and the tree, and the
library frames (14_weafy_lanes.md R389 to R393, 15_lockstep_groups.md R429). -/
namespace Sys2Proof.Machine

/-- The receiver's CREDIT row: acknowledged SEQ and NAK (R391, R393). -/
def State.sendCredit (s : State) (p : Nat) : State :=
  s.emit (.row p 0x55 (b2n (s.port p).nak * 2 ^ 16 + ((s.port p).expect + 65535) % 65536))

/-- A frame received on a port in UP, or of VC3 in KEEPALIVE. In order with both CRCs good it is acknowledged and acted on; a
failure is counted and replayed; at the failure of the third replay it is delivered marked BAD where HCRC is good, or the port
retrains. Frames out of order after a failure are discarded (R391). -/
def State.receive (s : State) (p : Nat) (f : Frame) (act : Frame → State → State) : State :=
  if !(decide (s.portState p = 2) || (decide (s.portState p = 3) && decide (f.vc = 3))) then s
  else
    let x := s.port p
    let take := fun (s : State) => s.onPort p (fun x => { x with expect := (x.expect + 1) % 65536, failures := 0, nak := false,
                                                                 freed := x.freed.set f.vc ((x.freed.getD f.vc 0 + frameLen f) % 65536) })
    if f.hcrcOk ∧ f.fcrcOk then
      if f.seq ≠ x.expect then s
      else act f ((take s).sendCredit p)
    else
      let s := s.satInc (F.LNK_PORT_CRC p)
      if x.failures + 1 < 4 then (s.onPort p (fun x => { x with failures := x.failures + 1, nak := true })).sendCredit p
      else if f.hcrcOk then act f (((take s).satInc (F.LNK_PORT_BAD p)).sendCredit p)
      else (s.onPort p (fun x => { x with failures := 0 })).portRetrainAuto p

/-- Send a frame on along the tree, on every tree port but the one it came on (R406). -/
def State.flood (s : State) (p : Nat) (f : Frame) : State :=
  s.eachOf ((List.range 4).filter (fun q => decide (q ≠ p ∧ s.f (F.GRP_PORT_ROLE q) ≠ 0))) (fun q s => s.sendFrame q f)

/-- A port of the tree, in a device that belongs to a group (R405, R406). -/
def State.onTree (s : State) (p : Nat) : Bool := s.flag F.GRP_CFG_EN && decide (s.f (F.GRP_PORT_ROLE p) ≠ 0)

/-- The answer FENCED to the requester of a VC0 frame that is discarded (R429, Table 9-9). -/
def State.refuseBulk (s : State) (f : Frame) : State :=
  if f.kind = 1 then (s.sendTo f.src { vc := 0, kind := 2, tag := f.tag, arg := 2 * 2 ^ 24, payload := List.replicate 12 0 }).1
  else if f.kind = 3 then (s.sendTo f.src { vc := 0, kind := 4, tag := f.tag, arg := 2 * 2 ^ 24 }).1
  else s

/-- A VC0 frame for this device is acted on; for another it leaves by its route, or is discarded where it came on the PARENT port
and would leave on a PARENT or NONE port (R390, R429). -/
def State.bulk (s : State) (p : Nat) (act : Frame → State → State) (f : Frame) : State :=
  if f.dst = s.f F.GRP_CFG_SELF then act f s
  else match s.routePort f.dst with
    | none => s.refuseBulk f
    | some q =>
      if s.f (F.GRP_PORT_ROLE p) = 1 ∧ s.f (F.GRP_PORT_ROLE q) ≠ 2 then (s.satInc F.GRP_ROUTE_VIOL).refuseBulk f
      else s.sendFrame q f

/-- LIB_READ (R393). -/
def execFrameLibRead (p : Nat) (f : Frame) (s : State) : Host.Outcome State Fault Refusal :=
  .next (s.receive p { f with vc := 0, kind := 1 } (fun f s => s.bulk p (fun f s => if f.fcrcOk then s.serveLibRead f else s) f))

/-- LIB_DATA (R393): a BAD frame is data marked bad (R257, R391). -/
def execFrameLibData (p : Nat) (f : Frame) (s : State) : Host.Outcome State Fault Refusal :=
  .next (s.receive p { f with vc := 0, kind := 2 } (fun f s => s.bulk p (fun f s =>
    s.takeLibData (if f.fcrcOk then f else { f with arg := f.arg % 2 ^ 24 + 2 ^ 24 })) f))

/-- LIB_WRITE (R231): the data of a BAD frame is stored marked bad (R257, R391). -/
def execFrameLibWrite (p : Nat) (f : Frame) (s : State) : Host.Outcome State Fault Refusal :=
  .next (s.receive p { f with vc := 0, kind := 3 } (fun f s => s.bulk p (fun f s => s.takeLibWrite f) f))

/-- LIB_ACK (R231, R232). -/
def execFrameLibAck (p : Nat) (f : Frame) (s : State) : Host.Outcome State Fault Refusal :=
  .next (s.receive p { f with vc := 0, kind := 4 } (fun f s => s.bulk p (fun f s => s.takeLibAck f) f))

/-- KEEPALIVE (R388): acknowledged, with no further effect. -/
def execFrameKeepalive (p : Nat) (f : Frame) (s : State) : Host.Outcome State Fault Refusal :=
  .next (s.receive p { f with vc := 3, kind := 2 } (fun _ s => s))

/-- FRAME_TYPE_UNKNOWN (R393): discarded, acknowledged and counted. -/
def execFrameTypeUnknown (p : Nat) (f : Frame) (s : State) : Host.Outcome State Fault Refusal :=
  .next (s.receive p { f with kind := 0x3F } (fun _ s => s.satInc (F.LNK_PORT_BAD p)))

end Sys2Proof.Machine
end

