-- ==== Sys2Proof/Machine/Tick.lean ====
section
/-! DEFINITION. The local clock, and what passes while no command waits: one cycle of the always-on 100 MHz clock
(02_modes_and_startup.md R51, 18_time_and_metering.md R493; notes/assumptions/4.md). -/
namespace Sys2Proof.Machine

/-- The local clock as one number of 2⁻¹⁶ ns, and back; seconds wrap at 2⁴⁸ (R493). -/
def Clock.total (c : Clock) : Nat := (c.sec * 1000000000 + c.ns) * 65536 + c.sub
def Clock.ofTotal (t : Nat) : Clock :=
  { sec := t / 65536 / 1000000000 % 2 ^ 48, ns := t / 65536 % 1000000000, sub := t % 65536 }
/-- Move the clock by a signed number of 2⁻¹⁶ ns (R496, R504). -/
def Clock.shift (c : Clock) (d : Int) : Clock :=
  { Clock.ofTotal (((c.total : Int) + d) % (2 ^ 48 * 1000000000 * 65536 : Int)).toNat with frac := c.frac }

/-- Advance by n ns of the source at the rate 1 + ADJ · 2⁻⁴⁰ (R493). -/
def Clock.advance (c : Clock) (n : Nat) (adj : Int) : Clock :=
  let f := (c.frac : Int) + (n * 65536 : Int) * (2 ^ 40 + adj)
  { Clock.ofTotal (c.total + (f / 2 ^ 40).toNat) with frac := (f % 2 ^ 40).toNat }

/-- NTM_ADJ as a signed number. -/
def State.ntmAdj (s : State) : Int := signed 32 (s.rd Reg.NTM_ADJ).toNat

/-- SEC has wrapped (R493, R495). -/
def State.clockWrapped (s : State) : State := { s.setFlag F.NTM_STATUS_WRAP true with ntm := { s.ntm with wrapped := true } }

/-- One idle cycle of 10 ns. -/
def State.tick (s : State) : State :=
  let c := s.clk.advance 10 s.ntmAdj
  let s' : State := { s with now := s.now + 1, clk := c }
  if c.sec < s.clk.sec then s'.clockWrapped else s'

/-! ### Network time's state -/

def State.onNtm (s : State) (g : Ntm → Ntm) : State := { s with ntm := g s.ntm }
/-- NTM_STATUS.STATE (R506): 0 FREE, 1 ACQUIRING, 2 LOCKED, 3 HOLDOVER; a change counts on source 0x0C7. -/
def State.ntmState (s : State) : Nat := s.f F.NTM_STATUS_STATE
def State.setNtmState (s : State) (v : Nat) : State := if s.ntmState = v then s else (s.setF F.NTM_STATUS_STATE v).irq 0xC7

/-- HOLDOVER: ADJ stands at the mean of its last 64 values, the corrected crystal drives the clock, a Note (R494, R506). -/
def State.ntmHold (s : State) : State :=
  if s.ntmState = 3 ∨ s.ntmState = 0 then s
  else
    let l := s.ntm.adjs
    let s := if l = [] then s else s.wr Reg.NTM_ADJ (BitVec.ofNat 32 (unsigned 32 (l.foldl (fun a b => a + b) 0 / (l.length : Int))))
    ((s.setFlag F.NTM_STATUS_SOURCE true).setNtmState 3).note 0xE004 0x16

end Sys2Proof.Machine
end

