-- ==== Sys2Proof/Machine/Tim.lean ====
section
/-! DEFINITION. The TIMs and the time base (13_time_interval.md). -/
namespace Sys2Proof.Machine

/-! ### Arm and stop -/

/-- A source code of Table 13-1 with its index. -/
def timCodeOk (src idx : Nat) : Bool :=
  match src with
  | 0 => decide (idx = 0)
  | 1 | 2 | 3 | 4 => true
  | 8 => decide (idx < 16)
  | 9 => decide (idx < 8)
  | 0xA | 0xB => decide (idx = 0)
  | 0xC => decide (idx < 16)
  | _ => false

/-- A channel source and its channel. -/
def timChannel (t src idx : Nat) : Option Nat := if 1 ≤ src ∧ src ≤ 4 then some (64 * t + idx) else none

/-- A channel source needs PATH = PE or PE_MV (R355). -/
def State.timPathBad (s : State) (t src idx : Nat) : Bool :=
  match timChannel t src idx with
  | some ch => !decide (s.f (F.CHN_CTRL_PATH ch) ∈ [1, 3])
  | none => false

/-- The Arm checks of Table 13-4 in order. -/
def State.timArmResult (s : State) (t : Nat) : Nat :=
  let a := s.f (F.TIM_START_SRC_SRC t)
  let ai := s.f (F.TIM_START_SRC_INDEX t)
  let p := s.f (F.TIM_STOP_SRC_SRC t)
  let pi := s.f (F.TIM_STOP_SRC_INDEX t)
  let freq := s.flag (F.TIM_CFG_MODE t)
  let nstop := Nat.max 1 (s.f (F.TIM_CFG_NSTOP t))
  if s.measureModeBad t then 2
  else if !timCodeOk a ai || !timCodeOk p pi || s.timPathBad t a ai || s.timPathBad t p pi || decide (a = 0) || (!freq && decide (p = 0)) then 3
  else if (!freq && decide (s.f (F.TIM_N_N t) = 0)) ||
      (freq && !decide (1 ≤ s.f (F.TIM_GATE_US t) ∧ s.f (F.TIM_GATE_US t) ≤ 1000000)) ||
      decide (nstop < s.f (F.TIM_CFG_STAT_STOP t)) then 4
  else if s.flag (F.TIM_CFG_REC_EN t) && !streamExists (s.f (F.TIM_CFG_SBAY t)) (s.f (F.TIM_CFG_STREAM_T t)) then 5
  else 1

/-- TIM_ARM (R369). -/
def execTimArm (t : Nat) (w : BusWrite) (s : State) : Host.Outcome State Fault Refusal :=
  .next (s.onWrite (Reg.TIM_CTRL t) w (fun s =>
    if w.data.getLsbD 0 && decide (s.f (F.TIM_STATUS_STATE t) ∈ [0, 2]) then
      let r := s.timArmResult t
      let s := s.setF (F.TIM_STATUS_RESULT t) r
      if r ≠ 1 then s
      else
        let s := (s.wr (Reg.TIM_MISSED t) 0).wr (Reg.TIM_RES_SEQ t) 0
        let s := (((s.setF (F.TIM_STATUS_START_OVR t) 0).setF (F.TIM_STATUS_STOPS t) 0).setF (F.TIM_STATUS_CAUSE t) 0).setF (F.TIM_STATUS_STATE t) 1
        s.onTim t (fun x => { x.clear with lastStart := none, lastStop := none, latched := true })
    else s))

/-! ### Measuring -/

/-- Rounding of FU to SU, halves up (R356): 16 FU are one SU. -/
def suOf (fu : Int) : Nat := ((fu + 8) / 16 % 2 ^ 64).toNat

/-- The stamp of an event at the calibration plane, or with DSK at the DUT pin (R356). -/
def State.timStampOf (s : State) (t src idx : Nat) (raw : Int) : Nat :=
  match timChannel t src idx with
  | some ch => suOf (raw - s.fs (F.EDG_CORR_CMP_CORR ch) - (if s.flag (F.TIM_CFG_DSK t) then s.fs (F.EDG_DSK_CMP_DSK ch) else 0))
  | none => suOf raw

/-- The least spacing that is stamped, 800 ps, in FU (R358). -/
def timSpacing : Int := 10486

/-- Integer square root by bits, rounding down (R362). -/
def isqrtFrom : Nat → Nat → Nat → Nat
  | 0, _, r => r
  | k + 1, n, r => isqrtFrom k n (if (r + 2 ^ k) * (r + 2 ^ k) ≤ n then r + 2 ^ k else r)
def isqrt (n : Nat) : Nat := isqrtFrom 80 n 0

/-- Rounding of a quotient, halves up. -/
def roundUpHalf (n d : Nat) : Nat := if d = 0 then 0 else (2 * n + d) / (2 * d)

/-- The statistics of R362. -/
def Tim.intervalResult (x : Tim) : TimResult :=
  if x.m = 0 then { flags := setBitTo x.flags 4 true, ivl := x.ivl }
  else
    { n := x.m, mean := roundUpHalf (256 * x.s1) x.m % 2 ^ 48,
      sdev := if x.m = 1 then 0 else isqrt (65536 * (x.m * x.s2 - x.s1 * x.s1) / (x.m * (x.m - 1))) % 2 ^ 32,
      min := x.min, max := x.max, flags := x.flags, ivl := x.ivl }

/-- The fit of R364. -/
def Tim.freqResult (x : Tim) (p : Nat) : TimResult :=
  let ev := Nat.min 0xFFFFFFFF x.events
  if x.n < 3 then { n := x.n, events := ev, flags := setBitTo x.flags 4 true }
  else
    let per := roundUpHalf (65536 * (x.n * x.skt - x.sk * x.st)) (p * (x.n * x.skk - x.sk * x.sk)) % 2 ^ 48
    { n := x.n, events := ev, flags := x.flags, period := per, freq := roundUpHalf (2 ^ 29 * 10 ^ 11) per % 2 ^ 48 }

/-- A measurement ends: a missing stop sets TIMEOUT; after TIM_N measurements the set is complete (R359, R362, R365). -/
def State.timMeasureEnd (s : State) (t : Nat) : State :=
  let want := s.f (F.TIM_CFG_STAT_STOP t)
  let x := s.tim t
  let miss := if want = 0 then decide (x.ivl = []) else decide (x.ivl.length < want)
  let x := { x with running := false, done := x.done + 1, flags := setBitTo x.flags 3 (bitAt x.flags 3 || miss) }
  let s := s.setF (F.TIM_STATUS_STOPS t) 0
  if x.done < s.f (F.TIM_N_N t) then s.setTim t x
  else s.setTim t { x with ready := some x.intervalResult }

/-- An interval enters the statistics (R362). -/
def Tim.take (x : Tim) (i : Nat) : Tim :=
  { x with m := x.m + 1, s1 := x.s1 + i, s2 := x.s2 + i * i, min := if x.m = 0 then i else Nat.min x.min i,
           max := if x.m = 0 then i else Nat.max x.max i }

/-- The TIM's intervals reach the bay's two engines (R361, R363). -/
def State.timDeliver (s : State) (t i : Nat) : State :=
  s.eachOf [2 * t, 2 * t + 1] (fun e s => if s.f (F.ACQ_SRC_KIND e) = 2 then s.acqArrive e i 0 else s)

/-- A stop stamp of a running measurement (R359, R361). -/
def State.timStop (s : State) (t p : Nat) : State :=
  let x := s.tim t
  let d := (p + 2 ^ 64 - x.start) % 2 ^ 64
  let nstop := Nat.max 1 (s.f (F.TIM_CFG_NSTOP t))
  let tmo := s.f (F.TIM_TIMEOUT_US t)
  if d < s.f (F.TIM_HOLDOFF_SU t) ∨ 2 ^ 63 ≤ d ∨ (tmo ≠ 0 ∧ tmo * 819200 ≤ d) then s
  else
    let i := Nat.min d (2 ^ 31 - 1)
    let k := x.ivl.length + 1
    let want := s.f (F.TIM_CFG_STAT_STOP t)
    let x := { x with ivl := x.ivl ++ [i], flags := setBitTo x.flags 2 (bitAt x.flags 2 || decide (2 ^ 31 - 1 < d)) }
    let x := if want = 0 ∨ want = k then x.take i else x
    let s := ((s.setTim t x).setF (F.TIM_STATUS_STOPS t) k).timDeliver t i
    if k = nstop then s.timMeasureEnd t else s

/-- The gate closes and the fit is made (R363, R364). -/
def State.timGateEnd (s : State) (t : Nat) : State :=
  s.onTim t (fun x => { x with running := false, ready := some (x.freqResult (2 ^ s.f (F.TIM_CFG_PS t))) })

/-- A start-source event inside or opening the gate (R363). -/
def State.timGateEvent (s : State) (t p : Nat) : State :=
  let x := s.tim t
  if !x.running then
    s.setTim t { x with running := true, start := p, prev := p, events := 1, n := 1,
                        flags := setBitTo x.flags 1 (s.flag F.TIM_TB_STATUS_HOLDOVER) }
  else
    let d := (p + 2 ^ 64 - x.start) % 2 ^ 64
    if s.f (F.TIM_GATE_US t) * 819200 ≤ d then s.timGateEnd t
    else
      let idx := x.events
      if idx % 2 ^ s.f (F.TIM_CFG_PS t) ≠ 0 then s.setTim t { x with events := x.events + 1 }
      else if x.n = 65536 then (s.setTim t { x with flags := setBitTo x.flags 5 true }).timGateEnd t
      else
        let k := x.n
        let s := s.setTim t { x with events := x.events + 1, n := k + 1, sk := x.sk + k, skk := x.skk + k * k, st := x.st + d,
                                     skt := x.skt + k * d, prev := p }
        s.timDeliver t (Nat.min ((p + 2 ^ 64 - x.prev) % 2 ^ 64) (2 ^ 31 - 1))

/-- A start event in INTERVAL mode (R359, R360). -/
def State.timStart (s : State) (t p : Nat) : State :=
  let x := s.tim t
  if x.running then s.setF (F.TIM_STATUS_START_OVR t) (satAdd 15 (s.f (F.TIM_STATUS_START_OVR t)) 1)
  else
    (s.setTim t { x with running := true, start := p, ivl := [], flags := setBitTo x.flags 1 (bitAt x.flags 1 ||
      s.flag F.TIM_TB_STATUS_HOLDOVER) }).setF (F.TIM_STATUS_STOPS t) 0

/-- TIM_STAMP (R358): an event at least 800 ps after the previous one of its source is stamped, else it is counted missed. -/
def execTimStamp (t : Nat) (time : Int) (start stop : Bool) (s : State) : Host.Outcome State Fault Refusal :=
  .next (
    if !s.timArmed t then s
    else
      let x := s.tim t
      let close := fun (l : Option Int) => match l with
        | some u => decide (time - u < timSpacing)
        | none => false
      let freq := s.flag (F.TIM_CFG_MODE t)
      let okStart := start && !close x.lastStart
      let okStop := stop && !freq && !close x.lastStop
      let s := if (start && close x.lastStart) || (!start && stop && close x.lastStop) then s.satInc (F.TIM_MISSED t) else s
      let s := s.onTim t (fun y => { y with lastStart := if start then some time else y.lastStart,
                                            lastStop := if stop then some time else y.lastStop })
      let pa := s.timStampOf t (s.f (F.TIM_START_SRC_SRC t)) (s.f (F.TIM_START_SRC_INDEX t)) time
      let pp := s.timStampOf t (s.f (F.TIM_STOP_SRC_SRC t)) (s.f (F.TIM_STOP_SRC_INDEX t)) time
      if x.ready.isSome then s
      else if freq then (if okStart then s.timGateEvent t pa else s)
      else
        let was := x.running
        let s := if okStop && was then s.timStop t pp else s
        if okStart && (s.tim t).ready.isNone && !(okStop && was && !(s.tim t).running) then s.timStart t pa else s)

/-- TIM_MEASURE_TIMEOUT (R359). -/
def execTimMeasureTimeout (t : Nat) (s : State) : Host.Outcome State Fault Refusal :=
  .next (
    if s.timArmed t && (s.tim t).running && !s.flag (F.TIM_CFG_MODE t) && decide (s.f (F.TIM_TIMEOUT_US t) ≠ 0) then s.timMeasureEnd t
    else s)

/-- TIM_GATE_CLOSE (R363). -/
def execTimGateClose (t : Nat) (s : State) : Host.Outcome State Fault Refusal :=
  .next (if s.timArmed t && (s.tim t).running && s.flag (F.TIM_CFG_MODE t) then s.timGateEnd t else s)

/-! ### Results -/

/-- A TIM record (Table 13-3). -/
def State.timRecord (s : State) (t : Nat) (r : TimResult) (flags : Nat) : State :=
  let sb := s.f (F.TIM_CFG_SBAY t)
  let k := s.f (F.TIM_CFG_STREAM_T t)
  let freq := s.flag (F.TIM_CFG_MODE t)
  s.event (streamKey sb k) 0x0F 0 0xFF (streamSite sb k) 32
    (leBytes (if freq then 2 else 1) 1 ++ leBytes t 1 ++ leBytes flags 1 ++ leBytes 0 1 ++ leBytes (s.rd (Reg.TIM_RES_SEQ t)).toNat 4 ++
      leBytes r.n 4 ++ leBytes (if freq then r.events else r.sdev) 4 ++ leBytes (if freq then r.period else r.mean) 8 ++
      leBytes (if freq then r.freq else r.min) 4 ++ leBytes (if freq then r.freq / 2 ^ 32 else r.max) 4)

/-- A completed set is written in one step (R365). -/
def State.timWrite (s : State) (t : Nat) : State :=
  match (s.tim t).ready with
  | none => s
  | some r =>
    let lost := !(s.tim t).latched
    let r := { r with flags := setBitTo r.flags 0 lost }
    let s := s.wr (Reg.TIM_RES_SEQ t) (s.rd (Reg.TIM_RES_SEQ t) + 1)
    let s := s.each 16 (fun c s => s.onCtx c (fun x => { x with tim := setBitTo x.tim t true }))
    let s := if s.flag (F.TIM_CFG_REC_EN t) then s.timRecord t r r.flags else s
    let s := (s.onTim t (fun x => { x.clear with res := r, latched := false })).irq (0x78 + t)
    if s.flag (F.TIM_CFG_REPEAT t) then s else s.setF (F.TIM_STATUS_STATE t) 2

/-- TIM_RESULT_WRITE (R365). -/
def execTimResultWrite (t : Nat) (s : State) : Host.Outcome State Fault Refusal :=
  .next (if s.timArmed t then s.timWrite t else s)

/-- TIM_STOP (R370): a complete set is written first, and the TIM then stops with cause HOST. -/
def execTimStop (t : Nat) (w : BusWrite) (s : State) : Host.Outcome State Fault Refusal :=
  .next (s.onWrite (Reg.TIM_CTRL t) w (fun s =>
    if w.data.getLsbD 1 && s.timArmed t then
      let s := s.timWrite t
      if s.timArmed t then s.timStopped t 1 else s.setF (F.TIM_STATUS_CAUSE t) 1
    else s))

/-- The readout registers take a result set (R366). -/
def State.timLatch (s : State) (t : Nat) : State :=
  let r := (s.tim t).res
  let put := fun (a v : Nat) (s : State) => s.wr a (BitVec.ofNat 32 v)
  let s := put (Reg.TIM_RES_N t) r.n s
  let s := put (Reg.TIM_RES_MEAN_LO t) r.mean s
  let s := put (Reg.TIM_RES_MEAN_HI t) (r.mean / 2 ^ 32) s
  let s := put (Reg.TIM_RES_SDEV t) r.sdev s
  let s := put (Reg.TIM_RES_MIN t) r.min s
  let s := put (Reg.TIM_RES_MAX t) r.max s
  let s := put (Reg.TIM_RES_PERIOD_LO t) r.period s
  let s := put (Reg.TIM_RES_PERIOD_HI t) (r.period / 2 ^ 32) s
  let s := put (Reg.TIM_RES_FREQ_LO t) r.freq s
  let s := put (Reg.TIM_RES_FREQ_HI t) (r.freq / 2 ^ 32) s
  let s := put (Reg.TIM_RES_EVENTS t) r.events s
  let s := put (Reg.TIM_RES_FLAGS t) r.flags s
  let s := (List.range 15).foldl (fun s i => put (Reg.TIM_IVL t (i + 1)) (r.ivl.getD i 0) s) s
  s.onTim t (fun x => { x with latched := true })

/-- TIM_RES_SEQ_READ (R366): a peek returns the count and latches nothing. -/
def execTimResSeqRead (t : Nat) (peek : Bool) (s : State) : Host.Outcome State Fault Refusal :=
  .next ((if peek then s else s.timLatch t).emit (.answer (Reg.TIM_RES_SEQ t) (s.rd (Reg.TIM_RES_SEQ t)).toNat))

/-! ### The time base -/

/-- Results that overlap a change of the time base or holdover carry HOLDOVER (R367). -/
def State.timMarkHoldover (s : State) : State :=
  s.each 4 (fun t s => if (s.tim t).running then s.onTim t (fun x => { x with flags := setBitTo x.flags 1 true }) else s)

/-- TIM_XO_WRITE (R374): the term and its VALID bit; the write is denied in holdover. -/
def execTimXoWrite (age : Bool) (w : BusWrite) (s : State) : Host.Outcome State Fault Refusal :=
  .next (s.onWrite (if age then Reg.TIM_XO_AGE else Reg.TIM_XO_OFF) w (fun s =>
    if age then s.setFlag F.TIM_TB_STATUS_AGE_VALID true else s.setFlag F.TIM_TB_STATUS_XO_VALID true))

/-- XO_UPDATE (R374): outside holdover the terms take their averages each second; XO_VALID after 1,000 s, AGE_VALID after 24 h. -/
def execXoUpdate (off age : Word) (s : State) : Host.Outcome State Fault Refusal :=
  .next (
    if s.flag F.TIM_TB_STATUS_HOLDOVER then s
    else
      let x := Nat.min 1000 (s.tb.xoSecs + 1)
      let g := Nat.min 86400 (s.tb.ageSecs + 1)
      let s : State := { s with tb := { xoSecs := x, ageSecs := g } }
      let s := (s.wr Reg.TIM_XO_OFF off).wr Reg.TIM_XO_AGE age
      let s := if x = 1000 then s.setFlag F.TIM_TB_STATUS_XO_VALID true else s
      if g = 86400 then s.setFlag F.TIM_TB_STATUS_AGE_VALID true else s)

end Sys2Proof.Machine
end

