-- ==== Sys2Proof/Machine/Group.lean ====
section
/-! DEFINITION. The lockstep group: its two-phase Arm, alignment to SYNC_IN, summaries received, commands, fabric triggers,
heartbeats and splits; and the time base's holdover, which stops a group (15_lockstep_groups.md; 13_time_interval.md R372, R373). -/
namespace Sys2Proof.Machine

/-! ### The member's own check -/

/-- Insert into an ascending list. -/
def insertNat (n : Nat) : List Nat → List Nat
  | [] => [n]
  | m :: l => if n ≤ m then n :: m :: l else m :: insertNat n l

/-- The group digest (R407): little-endian registers and words, sequence words in ascending address with their low half first,
and the call numbers in ascending order (the byte layout of the concatenation is DEDUCED, notes/assumptions/39.md). -/
def State.grpDigest (s : State) : Nat :=
  let word := fun a => leBytes (s.rd a).toNat 4
  let part := s.grpCtxs.flatMap (fun c =>
    let w := s.program c s.leavesOf
    word (Reg.RDR_SEQ_ENTRY c) ++ word (Reg.RDR_CFG c) ++ word (Reg.RDR_SITE_INIT_LO c) ++ word (Reg.RDR_SITE_INIT_HI c) ++
      w.sorted.flatMap (fun i => word (Reg.RDR_SEQ c (2 * i)) ++ word (Reg.RDR_SEQ c (2 * i + 1))))
  let pers := s.grpCtxs.flatMap (fun c => (List.range 64).flatMap (fun k => word (Reg.RDR_PER_LO c k) ++ word (Reg.RDR_PER_HI c k)))
  let cns := (s.grpCtxs.flatMap (fun c => (s.callWords c (s.program c s.leavesOf)).map (s.seqY c))).eraseDups.foldr insertNat []
  crc32c (part ++ pers ++ cns.flatMap (fun cn => leBytes cn 4 ++ leBytes ((s.leavesOf cn).getD 0) 4))

/-- R408 for one group context; `per`: the shortest period of the member's group contexts together. -/
def State.grpCtxBad (s : State) (c per : Nat) : Bool :=
  let w := s.program c s.leavesOf
  decide (s.f (F.RDR_CFG_STARVE_END c) = 0) || decide (s.periodMin c ≠ per) ||
    w.sorted.any (fun i => decide (s.seqOp c i = 0x07) || (decide (s.seqOp c i = 0x0A) && !bitAt (s.seqX c i) 23))

/-- What a context plays once its Arm has passed. -/
def State.armLeaves (s : State) (c : Nat) : Walk × List Leaf × List Leaf :=
  let leaves := fun cn => match s.specialFolio c cn with
    | .inl l => l
    | .inr _ => []
  (s.program c s.leavesOf, leaves (s.rd (Reg.RDR_IDLE_CN c)).toNat, leaves (s.rd (Reg.RDR_HOLD_CN c)).toNat)

/-- Load a group context at the commit: ARMED, with its channels parked until the alignment (R410, R416). -/
def State.armParked (s : State) (c : Nat) : State :=
  let (w, idle, hold) := s.armLeaves c
  let s := (((s.armLoad c w idle hold).armRefuse c 0x01 0).setCtxState c .armed).prime c 200
  s.playPark c 0

/-- Steps 1 to 6 of R187 on each group context, each beside those checked before it: the first to fail with its status. -/
def State.grpArmFail (s : State) : List Nat → Option (Nat × Nat × Nat)
  | [] => none
  | c :: cs => match s.armCheck c with
    | .inr (st, detail) => some (c, st, detail)
    | .inl _ => (s.armParked c).grpArmFail cs

/-- The member's verdict on PREPARE: reason and detail of Table 15-2. `h`: the horizon PREPARE carries; `sync`: a SYNC_IN pulse
came within two periods. -/
def State.grpRefusal (s : State) (h : Nat) (sync : Bool) : Option (Nat × Nat) :=
  let cs := s.grpCtxs
  let per := cs.foldl (fun m c => if m = 0 then s.periodMin c else Nat.min m (s.periodMin c)) 0
  let parents := (s.treePorts 1).length
  let vmax := s.f F.GRP_LINK_VC0_MAX
  if cs.any (fun c => decide (s.ctxState c ≠ .idle) && decide (s.ctxState c ≠ .off)) then some (8, 0)
  else match s.grpArmFail cs with
    | some (_, st, _) => some (2, st)
    | none =>
      if !bitAt (s.rd Reg.GRP_MEMBERS).toNat (s.f F.GRP_CFG_SELF) || cs.any (fun c => s.grpCtxBad c per) || decide (h ≠ s.horizon) ||
          decide (h < 8 ∨ 1024 < h) || decide (vmax < 7 ∨ 66 < vmax) then some (8, 0)
      else if parents ≠ (if s.grpRoot then 0 else 1) then some (5, 0)
      else if !sync then some (9, 0)
      else if s.flag F.TIM_TB_STATUS_HOLDOVER then some (0xA, 0)
      else none

/-- Set GRP_ARM_STATUS (Table 15-2). -/
def State.grpArmStatus (s : State) (reason member detail : Nat) : State :=
  ((s.setF F.GRP_ARM_STATUS_REASON reason).setF F.GRP_ARM_STATUS_MEMBER member).setF F.GRP_ARM_STATUS_DETAIL detail

/-- The Arm ends without a commit at this member: a context whose own check failed carries its status, the others GROUP (R416). -/
def State.grpArmEnd (s : State) (own : Option (Nat × Nat × Nat)) : State :=
  let s := s.eachOf s.grpCtxs (fun c s => match own with
    | some (k, st, detail) => if k = c then s.armRefuse c st detail else s.armRefuse c 0x1E 0
    | none => s.armRefuse c 0x1E 0)
  (s.onGrp (fun g => { g with phase := 0 })).setGrpState 0

/-- T_row of a port at its current rate in 10 ps units, rounded up: 131 bits (R421, Table 14-2). -/
def State.rowTime (s : State) (p : Nat) : Nat :=
  match s.f (F.LNK_PORT_STATUS_RATE p) with | 1 => 1310 | 2 => 655 | 3 => 410 | 4 => 328 | _ => 0

/-- The group sites this member maps (R415). -/
def State.siteMap (s : State) : List Byte :=
  let v := (List.range 64).foldl (fun v i => if s.flag (F.GRP_GSITE_VALID i) then setBitTo v (s.f (F.GRP_GSITE_GSITE i)) true else v) 0
  leBytes v 128

/-- This member's own answer to PREPARE. -/
def State.grpAnswer (s : State) (h : Nat) (sync : Bool) : GroupAnswer :=
  let p := (s.treePorts 1).head?
  { member := s.f F.GRP_CFG_SELF, digest := s.grpDigest, lat := (p.map (fun p => s.f (F.LNK_PORT_LAT_LAT p))).getD 0,
    row := (p.map s.rowTime).getD 0, sites := s.siteMap,
    refuse := (s.grpRefusal h sync).map (fun q => (q.1, s.f F.GRP_CFG_SELF, q.2)) }

/-! ### The sync master's decision -/

/-- Tree distance to the sync master along parents, in 10 ps units (R421); `none`: not reachable. -/
def State.treePath (s : State) (parents : List (Nat × Nat)) (m : Nat) : Nat → Option Nat
  | 0 => none
  | fuel + 1 =>
    if m = s.f F.GRP_CFG_SELF then some 0
    else match parents.find? (fun q => decide (q.1 = m)), s.grp.answers.find? (fun a => decide (a.member = m)) with
      | some (_, q), some a => (s.treePath parents q fuel).map (fun d =>
          d + 5 * a.lat + (ceilDiv (s.f F.GRP_LINK_VC0_MAX) 8 + 1) * a.row)
      | _, _ => none

def State.grpMembers (s : State) : List Nat := bitList (s.rd Reg.GRP_MEMBERS).toNat 16

/-- The worst path W in 10 ps units: up from the deepest member and down to it (R421). -/
def State.worstPath (s : State) (parents : List (Nat × Nat)) : Nat :=
  2 * s.grpMembers.foldl (fun w m => Nat.max w ((s.treePath parents m 17).getD 0)) 0

/-- H_min from W (R421): 10 ps are 131.072 FU. -/
def State.hMin (s : State) (w : Nat) : Nat :=
  let per := s.grpCtxs.foldl (fun m c => if m = 0 then s.periodMin c else Nat.min m (s.periodMin c)) 0
  5 + ceilDiv (w * 131072 * 65536) (1000 * 32 * per)

/-- GRP_HMIN shows W in ns, rounded up, and H_min. -/
def State.showHMin (s : State) (w : Nat) : State :=
  (s.setF F.GRP_HMIN_W (Nat.min 0xFFFF (ceilDiv w 100))).setF F.GRP_HMIN_HMIN (Nat.min 0x7FF (s.hMin w))

/-- The decision once every member has answered: the reason, member and detail of an ABORT, or none for COMMIT (R415, Table 15-2). -/
def State.grpVerdict (s : State) (v : GroupView) : Option (Nat × Nat × Nat) :=
  let self := s.f F.GRP_CFG_SELF
  let own := (s.grp.answers.find? (fun a => decide (a.member = self))).map (fun a => a.digest)
  match s.grp.answers.findSome? (fun a => a.refuse) with
  | some r => some r
  | none => match s.grp.answers.find? (fun a => decide (some a.digest ≠ own)) with
    | some a => some (4, a.member, 0)
    | none => match s.grpMembers.find? (fun m => (s.treePath v.parents m 17).isNone) with
      | some m => some (5, m, 0)
      | none => match v.routeFail with
        | some (m, d) => some (6, m, d)
        | none =>
          let w := s.worstPath v.parents
          if s.horizon < s.hMin w then some (7, self, Nat.min 0xFFFF (s.hMin w))
          else if 800 * s.f F.GRP_SYNC_PER ≤ w then some (9, self, 0)
          else none

/-- COMMIT at a member: latencies and reservation, contexts ARMED and parked, the alignment awaited; `late`: pulse p + 1 had come
before the COMMIT reached the member (R410, R416). The PEER reservation has no value of the spec's: it is free. -/
def State.grpCommit (s : State) (lats : List (Nat × Nat)) (late : Bool) : State :=
  let s := s.eachOf lats (fun q s => s.setF (F.LIB_PEER_LAT_LAT (q.1 % 16)) (Nat.min 0xFFFF (ceilDiv (q.2 + 250) 10)))
  let s := s.each 2 (fun st s => (s.setF (F.STK_RSV_PEER_R st) (s.freeBits 16).toNat).nextFree)
  let s := s.onGrp (fun g => { g with phase := 0, left := 0, parts := [], own := [], kids := [], downs := [], withheld := [], frozen := none,
                                      divergent := false, haltReq := false, stopReq := false, startReq := false, resumeReq := false, lost := 0, retrained := false,
                                      align := some (if late then 1 else 2) })
  let s := s.eachOf s.grpCtxs (fun c s => s.armParked c)
  ((s.grpArmStatus 1 0 0).setF F.GRP_STATUS_CAUSE 0).setGrpState 2

/-- The payload of REFUSE and ABORT (Table 15-6). -/
def armReason (r : Nat × Nat × Nat) : List Byte := leBytes r.1 1 ++ leBytes r.2.1 1 ++ leBytes r.2.2 2

/-- ABORT from the sync master, and at itself. -/
def State.grpAbort (s : State) (r : Nat × Nat × Nat) : State :=
  let s := s.grpSend (s.treePorts 2) 4 0 5 0 true (armReason r)
  (s.grpArmStatus r.1 r.2.1 r.2.2).grpArmEnd (if r.1 = 2 ∧ r.2.1 = s.f F.GRP_CFG_SELF then s.grpArmFail s.grpCtxs else none)

/-- Decide once every member named in GRP_MEMBERS has answered (R415). -/
def State.grpDecide (s : State) (v : GroupView) : State :=
  if s.grpMembers.all (fun m => s.grp.answers.any (fun a => decide (a.member = m))) then
    let s := s.onGrp (fun g => { g with parents := v.parents, siteMaps := s.grp.answers.map (fun a => (a.member, a.sites)) })
    let s := if s.grp.answers.all (fun a => a.refuse.isNone) then s.showHMin (s.worstPath v.parents) else s
    match s.grpVerdict v with
    | some r => s.grpAbort r
    | none =>
      let s := s.grpSend (s.treePorts 2) 4 0 4 0 true (leBytes s.horizon 2)
      s.grpCommit v.lats false
  else s

/-! ### GRP_CTRL -/

/-- RESULT of the last sync-master command (Table 15-8): 1 DONE, 2 HORIZON, 3 STATE. -/
def State.grpResult (s : State) (r : Nat) : State := s.setF F.GRP_STATUS_RESULT r

/-- GRP_CTRL.ARM at the sync master (R415). -/
def State.grpArmStart (s : State) (sync : Bool) (v : GroupView) : State :=
  if !s.flag F.GRP_CFG_EN || !s.grpRoot then s
  else if !decide (s.grpState = 0 ∨ s.grpState = 7) then s.grpResult 3
  else
    let s := (s.grpResult 1).setGrpState 1
    let s := s.onGrp (fun g => { g with phase := 1, left := 0, master := s.f F.GRP_CFG_SELF, answers := [] })
    let a := s.grpAnswer s.horizon sync
    let s := (s.setF F.GRP_DIGEST a.digest).grpSend (s.treePorts 2) 4 0 1 0 true (leBytes s.horizon 2)
    (s.onGrp (fun g => { g with answers := [a] })).grpDecide v

/-- GRP_CTRL.START at the sync master (R426). -/
def State.grpStartCmd (s : State) : State :=
  if s.grpState = 2 then (s.onGrp (fun g => { g with startReq := true })).grpResult 1 else s.grpResult 3

/-- GRP_CTRL.RESUME at the sync master (R424); `hops`: latency and row time of each PARENT port that retrained. -/
def State.grpResumeCmd (s : State) (hops : List (Nat × Nat × Nat)) : State :=
  if !decide (s.grpState = 4 ∨ s.grpState = 5) || s.grp.divergent || decide (s.grp.lost ≠ 0) then s.grpResult 3
  else
    let s := s.onGrp (fun g => { g with answers := g.answers.map (fun a => match hops.find? (fun h => decide (h.1 = a.member)) with
      | some (_, lat, row) => { a with lat := lat, row := row }
      | none => a) })
    let w := s.worstPath s.grp.parents
    let s := if hops = [] then s else s.showHMin w
    if hops ≠ [] ∧ s.horizon < s.hMin w then s.grpResult 2
    else
      let s := s.eachOf s.grp.withheld.reverse (fun q s => s.takeDown (s.f F.GRP_CFG_SELF) q.1 q.2)
      (s.onGrp (fun g => { g with withheld := [], resumeReq := true })).grpResult 1

/-- Lost members leave GRP_MEMBERS; the summaries they held back combine (R433). -/
def State.grpConfirmed (s : State) : State :=
  let s := s.setF F.GRP_MEMBERS_M ((BitVec.ofNat 16 (s.rd Reg.GRP_MEMBERS).toNat &&& ~~~(BitVec.ofNat 16 s.grp.lost)).toNat)
  let s := (s.onGrp (fun g => { g with lost := 0 })).setGrpState 4
  s.eachOf (s.grp.own.map (fun q => q.1)) (fun leaf s => s.combine leaf)

/-- The master half stops: GROUP_STOP, and INVALIDATE with that reason at its other sites (R433). -/
def State.grpDeclined (s : State) : State :=
  match s.grpCtxs with
  | [] => s.setGrpState 7
  | c :: _ => s.grpStop c (s.ctx c).lcnt 2

/-- DISARM at a member (R434): ARMED, PAUSED and STOPPED contexts return to IDLE; refused while one still plays. -/
def State.grpDisarmed (s : State) : State :=
  if s.grpCtxs.any (fun c => (s.ctxState c).playing) then s
  else
    let s := s.eachOf ((List.range 16).filter s.grpNamed) (fun c s =>
      match s.ctxState c with
      | .armed | .paused => s.addDue c 2 .disarm
      | .stopped =>
        let s := (s.setF (F.RDR_STATUS_STOP c) 0).setCtxState c .idle
        s.eachOf (s.channelsOf c) (fun ch s => s.static ch)
      | _ => s)
    let s := s.onGrp (fun g => { g with parts := [], own := [], kids := [], downs := [], withheld := [], frozen := none, divergent := false,
                                        haltReq := false, stopReq := false, startReq := false, resumeReq := false, left := 0, phase := 0, align := none, lost := 0 })
    (s.setF F.GRP_STATUS_CAUSE 0).setGrpState 0

/-- GRP_CTRL takes a write: each command written 1; START, RESUME, CONFIRM and DECLINE only at the sync master (R418, R433,
R434). -/
def State.grpCtrl (s : State) (w : BusWrite) (sync : Bool) (v : GroupView) (hops : List (Nat × Nat × Nat)) : State :=
  s.onPlain Reg.GRP_CTRL w (fun s =>
    let b := fun i => w.data.getLsbD i
    let master := s.flag F.GRP_CFG_EN && s.grpRoot
    let s := if (b 1 || b 2 || b 4 || b 5) && !master then s.setFlag F.GRP_STATUS_CMD_ERR true else s
    let s := if b 0 then s.grpArmStart sync v else s
    let s := if b 1 && master then s.grpStartCmd else s
    let s := if b 4 && master then
        if s.grpState = 6 then (s.grpSend (s.treePorts 2) 3 0 1 0 true (List.replicate 12 0)).grpConfirmed.grpResult 1 else s.grpResult 3
      else s
    let s := if b 2 && master then s.grpResumeCmd hops else s
    let s := if b 5 && master then
        if s.grpState = 6 then (s.grpSend (s.treePorts 2) 3 0 2 0 true (List.replicate 12 0)).grpDeclined.grpResult 1 else s.grpResult 3
      else s
    if b 3 then
      (s.grpSend (s.treePorts 1 ++ s.treePorts 2) 3 0 3 0 true (List.replicate 12 0)).grpDisarmed
    else s)

/-- GRP_ARM (R415). -/
def execGrpArm (w : BusWrite) (sync : Bool) (v : GroupView) (s : State) : Host.Outcome State Fault Refusal :=
  .next (s.grpCtrl w sync v [])
/-- GRP_START (R426). -/
def execGrpStart (w : BusWrite) (s : State) : Host.Outcome State Fault Refusal := .next (s.grpCtrl w false {} [])
/-- GRP_RESUME (R424). -/
def execGrpResume (w : BusWrite) (hops : List (Nat × Nat × Nat)) (s : State) : Host.Outcome State Fault Refusal :=
  .next (s.grpCtrl w false {} hops)
/-- GRP_DISARM (R434). -/
def execGrpDisarm (w : BusWrite) (s : State) : Host.Outcome State Fault Refusal := .next (s.grpCtrl w false {} [])
/-- GRP_CONFIRM (R433). -/
def execGrpConfirm (w : BusWrite) (s : State) : Host.Outcome State Fault Refusal := .next (s.grpCtrl w false {} [])
/-- GRP_DECLINE (R433). -/
def execGrpDecline (w : BusWrite) (s : State) : Host.Outcome State Fault Refusal := .next (s.grpCtrl w false {} [])

/-! ### The ARM frames -/

/-- A group frame on a tree port is acted on and, where it is for every member, sent on (R406). A BAD one is not acted on. -/
def State.groupFrame (s : State) (p : Nat) (f : Frame) (act : Frame → State → State) : State :=
  s.receive p { f with vc := 1 } (fun f s => if !s.onTree p || !f.fcrcOk then s else act f (if f.bcast then s.flood p f else s))

/-- PREPARE (R415): the member checks itself and broadcasts READY or REFUSE. -/
def execFramePrepare (p : Nat) (f : Frame) (sync : Bool) (s : State) : Host.Outcome State Fault Refusal :=
  .next (s.groupFrame p { f with kind := 4, arg := 1, bcast := true } (fun f s =>
    if s.grpRoot || !decide (s.grpState = 0 ∨ s.grpState = 7) then s
    else
      let s := s.onGrp (fun g => { g with left := 0, master := f.src, siteMaps := [] })
      let a := s.grpAnswer (leAt f.payload 0 2) sync
      let s := s.setF F.GRP_DIGEST a.digest
      let ports := s.treePorts 1 ++ s.treePorts 2
      match a.refuse with
      | some r =>
        let own := if r.1 = 2 then s.grpArmFail s.grpCtxs else none
        ((s.grpSend ports 4 0 3 0 true (armReason r)).grpArmStatus r.1 r.2.1 r.2.2).grpArmEnd own
      | none =>
        ((s.grpSend ports 4 0 2 0 true (leBytes a.digest 4 ++ leBytes a.lat 2 ++ leBytes a.row 2 ++ leBytes 0 8 ++ a.sites)).onGrp
          (fun g => { g with phase := 2, siteMaps := (a.member, a.sites) :: g.siteMaps })).setGrpState 1))

/-- An answer reaches the sync master, which decides with the last of them (R415). -/
def State.takeAnswer (s : State) (v : GroupView) (a : GroupAnswer) : State :=
  if s.grpRoot && decide (s.grp.phase = 1) && !s.grp.answers.any (fun b => decide (b.member = a.member)) then
    (s.onGrp (fun g => { g with answers := g.answers ++ [a] })).grpDecide v
  else s

/-- READY (R415). Every member keeps the site map (R432). -/
def execFrameReady (p : Nat) (f : Frame) (v : GroupView) (s : State) : Host.Outcome State Fault Refusal :=
  .next (s.groupFrame p { f with kind := 4, arg := 2, bcast := true } (fun f s =>
    let sites := (f.payload.drop 16).take 128
    let s := s.onGrp (fun g => { g with siteMaps := (f.src, sites) :: g.siteMaps.filter (fun q => decide (q.1 ≠ f.src)) })
    s.takeAnswer v { member := f.src, digest := leAt f.payload 0 4, lat := leAt f.payload 4 2, row := leAt f.payload 6 2, sites := sites }))

/-- REFUSE (R416). -/
def execFrameRefuse (p : Nat) (f : Frame) (v : GroupView) (s : State) : Host.Outcome State Fault Refusal :=
  .next (s.groupFrame p { f with kind := 4, arg := 3, bcast := true } (fun f s =>
    s.takeAnswer v { member := f.src, refuse := some (leAt f.payload 0 1, leAt f.payload 1 1, leAt f.payload 2 2) }))

/-- COMMIT (R416). -/
def execFrameCommit (p : Nat) (f : Frame) (late : Bool) (lats : List (Nat × Nat)) (s : State) : Host.Outcome State Fault Refusal :=
  .next (s.groupFrame p { f with kind := 4, arg := 4, bcast := true } (fun _ s => if s.grp.phase = 2 then s.grpCommit lats late else s))

/-- ABORT (R416): every member shows the reason; contexts whose own check failed keep their status. -/
def execFrameAbort (p : Nat) (f : Frame) (s : State) : Host.Outcome State Fault Refusal :=
  .next (s.groupFrame p { f with kind := 4, arg := 5, bcast := true } (fun f s =>
    if s.grpRoot then s
    else
      let s := s.grpArmStatus (leAt f.payload 0 1) (leAt f.payload 1 1) (leAt f.payload 2 2)
      if s.grp.phase = 2 then s.grpArmEnd none else s))

/-- PREPARE_NO_REPLY (R415): a member has not answered within 40 ms. -/
def execPrepareNoReply (s : State) : Host.Outcome State Fault Refusal :=
  .next (
    match s.grpMembers.find? (fun m => !s.grp.answers.any (fun a => decide (a.member = m))) with
    | some m => if s.grpRoot && decide (s.grp.phase = 1) then s.grpAbort (3, m, 0) else s
    | none => s)

/-- NO_COMMIT (R417). -/
def execNoCommit (s : State) : Host.Outcome State Fault Refusal :=
  .next (if s.grp.phase = 2 then (s.grpArmStatus 0xB (s.f F.GRP_CFG_SELF) 0).grpArmEnd none else s)

/-! ### Alignment -/

/-- SYNC_IN_PULSE (R409): stamped with the master-clock count of the REFCLK edge that sampled it. -/
def execSyncInPulse (stamp : Nat) (s : State) : Host.Outcome State Fault Refusal :=
  .next (s.onGrp (fun g => { g with pulses := g.pulses + 1, stamp := stamp, align := g.align.map (fun n => n - 1) }))

/-- SYNC_OUT_PULSE (Table 15-7): driven with OUT_EN = 1. -/
def execSyncOutPulse (s : State) : Host.Outcome State Fault Refusal :=
  .next (if s.flag F.GRP_SYNC_OUT_EN then s.emit .syncOut else s)

/-- GROUP_ALIGN (R410): at T the group contexts restart their counters and play the idle folio. -/
def execGroupAlign (s : State) : Host.Outcome State Fault Refusal :=
  .next (
    if s.grp.align ≠ some 0 then s
    else
      let t : Int := s.grp.stamp * 4096 + 4096 * 64 + s.fs F.GRP_OFFSET_OFF
      let s := s.onGrp (fun g => { g with align := none })
      s.eachOf s.grpCtxs (fun c s =>
        if s.ctxState c = .armed then
          (s.onCtx c (fun x => { x with lcnt := 0, lwrap := false, vcnt := 0, vwrap := false, ord := 0, special := 0,
                                        past := [], results := [], acc := t.toNat * 65536 })).playIdle c 0
        else s))

/-! ### Summaries -/

/-- SUMMARY (R419, R423, R425): from a child it combines; from the parent, marked DOWN, it is taken and sent on. -/
def execFrameSummary (p : Nat) (f : Frame) (s : State) : Host.Outcome State Fault Refusal :=
  .next (s.receive p { f with vc := 1, kind := 1 } (fun f s =>
    if !s.onTree p || !s.grpLive then s
    else if bitAt f.tag 15 then (if s.f (F.GRP_PORT_ROLE p) = 1 then s.takeDown f.src f.arg f.tag else s)
    else if s.f (F.GRP_PORT_ROLE p) = 2 then
      (s.onGrp (fun g => { g with kids := g.kids ++ [(f.arg, p, f.tag)] })).combine f.arg
    else s))

/-! ### Commands by frame -/

/-- CONFIRM (R433). -/
def execFrameConfirm (p : Nat) (f : Frame) (s : State) : Host.Outcome State Fault Refusal :=
  .next (s.groupFrame p { f with kind := 3, arg := 1, bcast := true } (fun _ s => if s.grpState = 6 then s.grpConfirmed else s))
/-- DECLINE (R433). -/
def execFrameDecline (p : Nat) (f : Frame) (s : State) : Host.Outcome State Fault Refusal :=
  .next (s.groupFrame p { f with kind := 3, arg := 2, bcast := true } (fun _ s => if s.grpState = 6 then s.grpDeclined else s))
/-- DISARM (R434). -/
def execFrameDisarm (p : Nat) (f : Frame) (s : State) : Host.Outcome State Fault Refusal :=
  .next (s.groupFrame p { f with kind := 3, arg := 3, bcast := true } (fun _ s => s.grpDisarmed))

/-! ### Fabric triggers -/

/-- FABRIC latch i in every context of the device (R165, R428). -/
def State.fabricLatch (s : State) (i : Nat) : State := s.each 16 (fun c s => s.onCtx c (fun x => { x with fabric := setBitTo x.fabric i true }))

/-- Send a fabric trigger: flooded along the tree, the own latches set as it leaves (R428). The index travels in ARG (DEDUCED,
notes/assumptions/40.md). -/
def State.fabricTrigger (s : State) (i : Nat) : State :=
  let s := if s.flag F.GRP_CFG_EN then
      s.eachOf ((List.range 4).filter (fun q => decide (s.f (F.GRP_PORT_ROLE q) ≠ 0)))
        (fun q s => s.sendFrame q { vc := 2, kind := 1, src := s.f F.GRP_CFG_SELF, bcast := true, arg := i })
    else s
  s.fabricLatch i

/-- TRIGGER (R428). -/
def execFrameTrigger (p : Nat) (f : Frame) (s : State) : Host.Outcome State Fault Refusal :=
  .next (s.receive p { f with vc := 2, kind := 1, bcast := true } (fun f s =>
    if s.onTree p then (s.flood p f).fabricLatch (f.arg % 16) else s))

/-- GRP_FTRIG_SW (R428). -/
def execGrpFtrigSw (w : BusWrite) (s : State) : Host.Outcome State Fault Refusal :=
  .next (s.onPlain Reg.GRP_FTRIG_SW w (fun s => s.eachOf (bitList w.data.toNat 16) (fun i s => s.fabricTrigger i)))

/-- FABRIC_TRIGGER_SOURCE (R428): the source that GRP_FTRIG of index i names has occurred. -/
def execFabricTriggerSource (i : Nat) (s : State) : Host.Outcome State Fault Refusal :=
  .next (if s.flag (F.GRP_FTRIG_EN i) then s.fabricTrigger i else s)

/-! ### Heartbeats and splits -/

/-- HEARTBEAT_SEND (R431). -/
def execHeartbeatSend (s : State) : Host.Outcome State Fault Refusal :=
  .next (
    if s.flag F.GRP_CFG_EN then
      let s := s.onGrp (fun g => { g with beats := (g.beats + 1) % 2 ^ 32 })
      s.grpSend (s.treePorts 1 ++ s.treePorts 2) 2 0 s.grp.beats 0 true []
    else s)

/-- HEARTBEAT (R431): sent on; a member that no group run counts as lost is heard again. -/
def execFrameHeartbeat (p : Nat) (f : Frame) (s : State) : Host.Outcome State Fault Refusal :=
  .next (s.groupFrame p { f with kind := 2, bcast := true } (fun f s =>
    if s.grpLive then s else s.onGrp (fun g => { g with lost := setBitTo g.lost f.src false })))

/-- The local sites whose group site spans the split: a lost member maps the same one (R432). -/
def State.spanning (s : State) (site : Nat) : Bool :=
  s.flag (F.GRP_GSITE_VALID site) && s.grp.siteMaps.any (fun q => bitAt s.grp.lost q.1 &&
    bitAt (ofLe q.2) (s.f (F.GRP_GSITE_GSITE site)))

/-- MEMBER_LOST (R431, R432, Table 15-5): no frame that originated at m has arrived for LIMIT × PER. -/
def execMemberLost (m : Nat) (s : State) : Host.Outcome State Fault Refusal :=
  .next (
    if !s.flag F.GRP_CFG_EN || !decide (m ∈ s.grpMembers) || decide (m = s.f F.GRP_CFG_SELF) || bitAt s.grp.lost m then s
    else
      let s := (s.onGrp (fun g => { g with lost := setBitTo g.lost m true })).irq 0xC1
      if !s.grpCtxs.any (fun c => (s.ctxState c).active) || !s.grpLive then s
      else
        let heard := fun (s : State) (c : Nat) => decide ((s.ctxState c).playing ∨ s.ctxState c = .paused)
        let s := s.setF F.GRP_STATUS_CAUSE 2
        if bitAt s.grp.lost s.grp.master then
          let s := s.eachOf s.grpCtxs (fun c s => if heard s c then s.invalidate c 3 else s)
          (s.eachOf s.grpCtxs (fun c s => if (s.ctxState c).active then s.addDue c 1 (.stop 0x27) else s)).ntmHold.setGrpState 7
        else
          let s := s.eachOf s.grpCtxs (fun c s =>
            let spans := (s.activeSites c).filter s.spanning
            let s := if heard s c then
                s.eachOf spans (fun site s => s.event (strOfSite site) 0x09 (s.ctx c).lcnt c site 8 (leBytes 3 1)) else s
            let keep := spans.foldl (fun v i => setBitTo v i false) (s.siteAct c)
            let s := (s.applyMask c 0 (keep % 2 ^ 32) true).applyMask c 1 (keep / 2 ^ 32) true
            if (s.ctxState c).active ∧ s.ctxState c ≠ .paused then s.addDue c 2 .halt else s)
          s.setGrpState 6)

/-- SPLIT_TIMEOUT (R433): GRP_SPLIT_TMO passes with no CONFIRM. -/
def execSplitTimeout (s : State) : Host.Outcome State Fault Refusal :=
  .next (
    if s.grpState = 6 then
      (if s.grpRoot then s.grpSend (s.treePorts 2) 3 0 2 0 true (List.replicate 12 0) else s).grpDeclined
    else s)

/-! ### Holdover -/

/-- Holdover begins (R36, R372, R373). -/
def State.holdover (s : State) : State :=
  if s.flag F.TIM_TB_STATUS_HOLDOVER then s
  else
    let s := ((s.setFlag F.TIM_TB_STATUS_HOLDOVER true).setF F.TIM_TB_STATUS_HOLD_CNT ((s.f F.TIM_TB_STATUS_HOLD_CNT + 1) % 65536)).timMarkHoldover
    let s := (s.enter 0xE003 0x16 0 0 .held false).irq 0xC6
    if s.grpLive && s.grpCtxs.any (fun c => (s.ctxState c).active) then
      (s.onGrp (fun g => { g with stopReq := true })).setF F.GRP_STATUS_CAUSE 4
    else s

/-- HOLDOVER_ENTRY (R372, R373): a group whose contexts are active here requests a stop. -/
def execHoldoverEntry (s : State) : Host.Outcome State Fault Refusal := .next s.holdover

/-- HOLDOVER_EXIT (R373). -/
def execHoldoverExit (s : State) : Host.Outcome State Fault Refusal :=
  .next (
    if s.flag F.TIM_TB_STATUS_HOLDOVER then
      (((s.setFlag F.TIM_TB_STATUS_HOLDOVER false).timMarkHoldover).endCond 0xE003 0x16).irq 0xC6
    else s)

end Sys2Proof.Machine
end

