-- ==== Sys2Proof/Machine/Faults.lean ====
section
/-! DEFINITION. Faults as they are detected, host fences, the active table and the log, input levels and interrupt sources
(19_faults_and_interrupts.md). -/
namespace Sys2Proof.Machine

/-! ### Detection -/

/-- A code of Table 19-3 that names a unit. -/
def unitExists (u : Nat) : Bool :=
  let n := match unitKind u with
    | 1 => 256 | 2 => 32 | 3 => 4 | 4 => 4 | 5 => 4 | 6 => 4 | 7 => 4 | 8 => 8 | 9 => 2 | 0xA => 4 | 0xB => 2 | 0xC => 16 | 0xD => 64
    | 0xE => 11 | _ => 0
  decide (unitIndex u < n ∧ u < 0x10000)

/-- Causes whose CONDITION follows a signalled state (R537). -/
def causeHeld (c : Nat) : Bool := decide (c ∈ [0x01, 0x08, 0x09, 0x0B, 0x0D, 0x13, 0x14, 0x16, 0x1B])

/-- FAULT_DETECTED (R518, R522): an error pair shows ERROR, and the collector takes the report. -/
def execFaultDetected (r : FaultReport) (s : State) : Host.Outcome State Fault Refusal :=
  .next (if s.mode = .cold || !unitExists r.unit then s else s.raise { r with held := r.held && causeHeld r.cause })

/-- WIRE_FAULT (R519): a pair that stays INVALID. -/
def execWireFault (u : Nat) (s : State) : Host.Outcome State Fault Refusal :=
  .next (if s.mode = .cold || !unitExists u then s else s.raise { unit := u, cause := 0x01, cls := 2, held := true })

/-- A unit is OFF: its domain, its bank or its cluster (R520). -/
def State.unitOff (s : State) (u : Nat) : Bool :=
  let i := unitIndex u
  match unitKind u with
  | 1 => !s.domOn (i / 8)
  | 2 => !s.domOn i
  | 3 => !s.domOn (domPin i)
  | 4 => decide (s.f (F.UCS_STATUS_STATE i) = 0)
  | 6 => !s.domOn (domPmu i)
  | 7 => !s.domOn 48
  | 9 => !s.domOn (40 + i)
  | 0xA => !s.domOn (42 + i)
  | 0xB => !s.domOn (46 + i)
  | 0xC => !s.domOn 49
  | 0xD => decide (s.bankState i = 0)
  | _ => false

/-- WIRE_TEST (R520, R530, R537): the inputs that do not answer have a wire fault, in ascending unit code; no fenced or OFF unit is
tested. -/
def execWireTest (silent : List Nat) (s : State) : Host.Outcome State Fault Refusal :=
  .next (
    if s.mode = .cold then s
    else s.eachOf ((silent.foldl (fun m u => SMap.insert m u ()) ([] : SMap Unit)).map (fun p => p.1)) (fun u s =>
      if s.fenced u || s.unitOff u || !unitExists u then s else s.raise { unit := u, cause := 0x01, cls := 2 }))

/-- COLLECTOR (R521). -/
def execCollectorMismatch (s : State) : Host.Outcome State Fault Refusal :=
  .next (if s.mode = .cold then s else s.raise { unit := 0xE009, cause := 0x1A, cls := 3 })

/-- RECOVERY_WINDOW_CLOSE (R527). -/
def execRecoveryWindowClose (u : Nat) (s : State) : Host.Outcome State Fault Refusal :=
  .next { s with fcl := { s.fcl with windows := s.fcl.windows.filter (fun w => decide (w.unit ≠ u)) } }

/-! ### Emergency stop and input levels -/

/-- The active emergency-stop inputs (R532). -/
def State.estopInputs (s : State) : Nat :=
  (List.range 16).foldl (fun m i =>
    if bitAt (s.f F.FCL_ESTOP_EN) i && (bitAt (s.f F.IRQ_EVT_LEVEL_LEVEL) i != bitAt (s.f F.FCL_ESTOP_POL) i) then setBitTo m i true else m) 0

/-- An active input raises the Chip-fatal fault; its condition ends with the last (R532, R537). -/
def State.estop (s : State) : State :=
  if s.mode = .cold then s
  else if s.estopInputs = 0 then s.endCond 0xE009 0x0D
  else s.raise { unit := 0xE009, cause := 0x0D, cls := 3, detail := s.estopInputs, held := true }

/-- ESTOP (R532). -/
def execEstopActive (s : State) : Host.Outcome State Fault Refusal := .next s.estop

/-- EVT_FILTERED_CHANGE (R543): the filtered level, and every use of it but the emergency stop and the wake, which are commands of their
own: the sources, the waits, the EXT latches and the group start (R426). -/
def execEvtFilteredChange (i : Nat) (high : Bool) (s : State) : Host.Outcome State Fault Refusal :=
  .next (
    if s.flag ⟨Reg.IRQ_EVT_LEVEL, i % 16, 1⟩ = high then s
    else
      let i := i % 16
      let s := s.setFlag ⟨Reg.IRQ_EVT_LEVEL, i, 1⟩ high
      if s.mode = .cold then s
      else
        let s := s.irq (if high then i else 0x10 + i)
        let s := s.waitEdge 0 i high
        let s := if high then s.acqExt i else s
        let s := if s.estopInputs = 0 then s.endCond 0xE009 0x0D else s
        if high && s.flag F.GRP_CFG_EN && s.flag F.GRP_CFG_START_EVT_EN && decide (s.f F.GRP_CFG_START_EVT = i) && s.grpRoot &&
            decide (s.grpState = 2) then s.onGrp (fun g => { g with startReq := true })
        else s)

/-- TRIG_EDGE (R165, R188, R336): an edge at a TRIG ball. -/
def execTrigEdge (i : Nat) (rise : Bool) (s : State) : Host.Outcome State Fault Refusal :=
  .next (
    let i := i % 8
    let s : State := { s with fcl := { s.fcl with trig := setBitTo s.fcl.trig i rise } }
    if s.mode = .cold then s
    else
      let s := if rise then s.irq (0x20 + i) else s
      let s := s.waitEdge 1 i rise
      if rise then s.acqExt (0x10 + i) else s)

/-! ### Clearing -/

/-- FCL_CLEAR (R536, R537): the signalled states that have ended, then every named entry whose condition does not hold. -/
def execFclClear (w : BusWrite) (gone : List (Nat × Nat)) (s : State) : Host.Outcome State Fault Refusal :=
  .next (s.onWrite Reg.FCL_CLEAR w (fun s =>
    let s := s.setFlag F.FCL_CLEAR_GO false
    if !w.data.getLsbD 31 then s
    else
      let s := gone.foldl (fun s g => if g = (0xE009, 0x0D) ∧ s.estopInputs ≠ 0 then s else s.endCond g.1 g.2) s
      let named := (List.range 256).filter (fun k =>
        let e := s.entry k
        e.uncleared && (s.flag F.FCL_CLEAR_ALL || decide (e.unit = s.f F.FCL_CLEAR_UNIT)))
      let keep := named.filter (fun k => s.condHolds (s.entry k).cond)
      let out := (named.filter (fun k => !s.condHolds (s.entry k).cond)).foldl
        (fun s k => s.setEntry k { s.entry k with uncleared := false, cond := .ended }) s
      out.setF F.FCL_CLEAR_RESULT (if named = [] then 3 else if keep = [] then 1 else 2)))

/-! ### Host fences -/

/-- The kinds FCL_FENCE_CMD acts on (R538). -/
def fenceKind (u : Nat) : Bool := decide (unitKind u ∈ [2, 3, 4, 5, 6, 7, 8, 0xB, 0xC, 0xD]) && unitExists u

/-- What the end of a fence does to its unit (R207, R299, R315, R348, R370, R403, R481, R492, R602; a cluster's and a bank's state after it
are DEDUCED, notes/assumptions/58.md). -/
def State.unfenceUnit (s : State) (u : Nat) : State :=
  let i := unitIndex u
  if unitKind u = 2 ∨ unitKind u = 3 then s.unfenceArea u
  else
    let s1 := s.setFence u none
    let s1 := match unitKind u with
      | 4 =>
        if s1.flag (F.UCS_STATUS_INTEGRITY i) then s1.setF (F.UCS_STATUS_STATE i) 0
        else (s1.setF (F.UCS_STATUS_STATE i) 2).each 4 (fun k s => s.setCtxState (4 * i + k) .idle)
      | 5 => s1.each 21 (fun t s => s.setStream (21 * i + t) { s.stream (21 * i + t) with lossy := true })
      | 6 => s1.each 64 (fun k s => s.fltRestart (64 * i + k))
      | 7 => s1.setF (F.TIM_STATUS_STATE i) 0
      | 8 => s1.setF (F.ACQ_STATUS_STATE i) 0
      | 0xB => s1.dlResume i
      | 0xC => s1.clerkHalts
      | 0xD =>
        let t := bankTarget (s1.f (F.SPD_BANK_REQ i))
        (if t = 0 then s1.zeroBank i else s1).setF (F.SPD_BANK_STATE i) t
      | _ => s1
    s1.degradedIrq s

/-- An uncleared Unit-fatal entry of a unit remains (R538). -/
def State.fatalOf (s : State) (u : Nat) : Bool := s.fcl.active.any (fun p => p.2.uncleared && decide (p.2.unit = u ∧ p.2.cls = 2))

/-- FCL_FENCE_CMD.SET (R525, R538). -/
def State.hostFence (s : State) (u : Nat) : State :=
  let k := unitKind u
  if decide (k ∈ [3, 0xB, 0xC, 0xD]) && !s.fenced u && decide (budgetOf k < s.fenceCount k + 1) then s.setF F.FCL_FENCE_CMD_RESULT 5
  else (s.fenceUnit u 0 true).setF F.FCL_FENCE_CMD_RESULT 1

/-- FCL_FENCE_CMD.CLEAR (R538). -/
def State.hostUnfence (s : State) (u : Nat) : State :=
  match s.fence u with
  | none => s.setF F.FCL_FENCE_CMD_RESULT 1
  | some f =>
    if s.fatalOf u then s.setF F.FCL_FENCE_CMD_RESULT 4
    else if unitKind u = 2 ∨ unitKind u = 3 then
      ((s.setF F.FCL_FENCE_CMD_RESULT 2).setFence u (some { f with pendingClear := true })).areaClear u
    else (s.unfenceUnit u).setF F.FCL_FENCE_CMD_RESULT 1

/-- A write of FCL_FENCE_CMD (R538). -/
def State.fenceCommand (s : State) (w : BusWrite) : State :=
  s.onWrite Reg.FCL_FENCE_CMD w (fun s =>
    let s := s.setFlag F.FCL_FENCE_CMD_GO false
    let op := s.f F.FCL_FENCE_CMD_OP
    let u := s.f F.FCL_FENCE_CMD_UNIT
    if !w.data.getLsbD 31 || !decide (op = 1 ∨ op = 2) then s
    else if !fenceKind u then s.setF F.FCL_FENCE_CMD_RESULT 3
    else if op = 1 then s.hostFence u
    else s.hostUnfence u)

/-- FENCE_SET (R538). -/
def execFenceSet (w : BusWrite) (s : State) : Host.Outcome State Fault Refusal := .next (s.fenceCommand w)
/-- FENCE_CLEAR (R538). -/
def execFenceClear (w : BusWrite) (s : State) : Host.Outcome State Fault Refusal := .next (s.fenceCommand w)

/-! ### The log -/

/-- A log record is valid: MAGIC, CRC and COMMIT (R540). -/
def logValid (r : List Byte) : Bool :=
  decide (leAt r 0 4 = 0x4C464B56) && decide (leAt r 0x3C 4 = 0x6C674631) && decide (crc32c (r.take 0x38) = leAt r 0x38 4)

/-- FCL_LOG_READ (R541): the record whose RSEQ is FCL_LOG_IDX. One that carries it and fails its check is DATA_ERROR (DEDUCED,
notes/assumptions/45.md). -/
def execFclLogRead (w : BusWrite) (s : State) : Host.Outcome State Fault Refusal :=
  .next (s.onWrite Reg.FCL_LOG_CTRL w (fun s =>
    let s := s.setFlag F.FCL_LOG_CTRL_GO false
    if !w.data.getLsbD 31 then s
    else
      let idx := (s.rd Reg.FCL_LOG_IDX).toNat
      let r := s.arch.bytes (0x1C0000 + 64 * (idx % 8192)) 64
      if leAt r 0 4 ≠ 0x4C464B56 ∨ leAt r 8 4 ≠ idx then s.setF F.FCL_LOG_CTRL_RESULT 2
      else if logValid r then
        (s.each 16 (fun i s => s.wr (Reg.FCL_LOG_DATA i) (BitVec.ofNat 32 (leAt r (4 * i) 4)))).setF F.FCL_LOG_CTRL_RESULT 1
      else s.setF F.FCL_LOG_CTRL_RESULT 3))

/-! ### Interrupt sources -/

/-- An enabled source with a count above 0 signals its vector (R545). -/
def State.irqAgain (s : State) (i : Nat) : State :=
  if s.flag (F.IRQ_SRC_CFG_EN i) && decide (s.f (F.IRQ_SRC_CNT_COUNT i) ≠ 0) then s.signal (s.f (F.IRQ_SRC_CFG_VECTOR i)) else s

/-- IRQ_SRC_CNT_WRITE (R544, R545): the written value is subtracted. -/
def execIrqSrcCntWrite (i : Nat) (w : BusWrite) (s : State) : Host.Outcome State Fault Refusal :=
  .next (s.onPlain (Reg.IRQ_SRC_CNT (i % 1024)) w (fun s =>
    let i := i % 1024
    (s.setF (F.IRQ_SRC_CNT_COUNT i) (s.f (F.IRQ_SRC_CNT_COUNT i) - w.data.toNat % 256)).irqAgain i))

/-- IRQ_SRC_CFG_WRITE (R545): EN set on a source whose count is above 0 signals. -/
def execIrqSrcCfgWrite (i : Nat) (w : BusWrite) (s : State) : Host.Outcome State Fault Refusal :=
  .next (
    let i := i % 1024
    let was := s.flag (F.IRQ_SRC_CFG_EN i)
    s.onWrite (Reg.IRQ_SRC_CFG i) w (fun s => if was then s else s.irqAgain i))

end Sys2Proof.Machine
end

