-- ==== Sys2Proof/Machine/Time.lean ====
section
/-! DEFINITION. Network time: the local clock's commands, PTP on the fabric, the servo; and the circulation meter with its journal
(18_time_and_metering.md). -/
namespace Sys2Proof.Machine

def State.onMeter (s : State) (g : Meter → Meter) : State := { s with meter := g s.meter }

/-! ### The meter observes the clock -/

/-- The local time in ns. -/
def State.localNs (s : State) : Nat := s.clk.sec * 1000000000 + s.clk.ns

/-- The meter sees the local time: below G it is a regression, of which the period's first is noted (R513). G itself moves in a
tick. -/
def State.meterSees (s : State) : State :=
  if s.flag F.MTR_CFG_EN && decide (s.localNs < s.meter.g) && s.meter.regress.isNone then
    s.onMeter (fun m => { m with regress := some (m.g / 1000000000, s.clk.sec) })
  else s

/-- The clock is moved to a value: G holds the greatest time before it, and the meter sees the new one (R512, R513). -/
def State.moveClock (s : State) (c : Clock) : State :=
  let s := if s.flag F.MTR_CFG_EN then s.onMeter (fun m => { m with g := Nat.max m.g s.localNs }) else s
  ({ s with clk := c } : State).meterSees

/-! ### The clock -/

/-- A write of NTM_SET_CTRL: SET, then STEP (R496). -/
def State.setCtrl (s : State) (w : BusWrite) : State :=
  s.onPlain Reg.NTM_SET_CTRL w (fun s =>
    let s := if !w.data.getLsbD 0 then s
      else if 1000000000 ≤ s.f F.NTM_SET_NS_NS then s.setFlag F.NTM_STATUS_SET_ERR true
      else (s.moveClock { sec := s.f F.NTM_SET_SEC_HI_SEC * 2 ^ 32 + (s.rd Reg.NTM_SET_SEC_LO).toNat, ns := s.f F.NTM_SET_NS_NS }).setFlag
        F.NTM_STATUS_STEPPED true
    if w.data.getLsbD 1 then
      (s.moveClock (s.clk.shift (signed 32 (s.rd Reg.NTM_STEP).toNat * 65536))).setFlag F.NTM_STATUS_STEPPED true
    else s)

/-- SET (R496). -/
def execNtmSet (w : BusWrite) (s : State) : Host.Outcome State Fault Refusal := .next (s.setCtrl w)
/-- STEP (R496). -/
def execNtmStep (w : BusWrite) (s : State) : Host.Outcome State Fault Refusal := .next (s.setCtrl w)

/-- NTM_TIME_READ (R495): NS is answered; a consuming read latches the rest. -/
def execNtmTimeRead (peek : Bool) (s : State) : Host.Outcome State Fault Refusal :=
  .next (
    let t := s.emit (.answer Reg.NTM_TIME_NS s.clk.ns)
    if peek then t
    else
      let t := (((t.setF F.NTM_TIME_SUB_SUB s.clk.sub).wr Reg.NTM_TIME_SEC_LO (BitVec.ofNat 32 s.clk.sec)).setF
        F.NTM_TIME_SEC_HI_SEC (s.clk.sec / 2 ^ 32)).setFlag F.NTM_STATUS_SNAP_WRAP s.ntm.wrapped
      t.onNtm (fun n => { n with wrapped := false }))

/-- CLOCK_WRAP (R493): SEC passes 2⁴⁸ − 1. -/
def execClockWrap (s : State) : Host.Outcome State Fault Refusal :=
  .next (if s.clk.sec = 2 ^ 48 - 1 then { s.clockWrapped with clk := {} } else s)

/-! ### Roles and state -/

/-- Network time is disciplined: by Sync, or as a grandmaster by PPS_IN (Table 18-1, R506). -/
def State.ntmDisciplined (s : State) : Bool :=
  s.flag F.NTM_CFG_EN && (match s.f F.NTM_CFG_ROLE with
    | 0 => false
    | 1 => s.flag F.NTM_CFG_PPS_IN_EN
    | _ => true)

/-- NTM_CFG has been written: STATE follows the role (R506). -/
def State.ntmConfigured (s : State) : State :=
  if !s.ntmDisciplined then ((s.setNtmState 0).setFlag F.NTM_STATUS_SOURCE false).onNtm (fun n => { n with good := 0 })
  else if s.ntmState = 0 then s.setNtmState 1 else s

/-! ### The servo -/

/-- f · 2⁴⁰ rounded, limited to ±500 ppm (R504): θ and Σ in 2⁻¹⁶ ns, τ = 2⁻ⁿ s. -/
def servoAdj (kp ki : Nat) (theta sigma : Int) (n : Nat) : Int :=
  let num := -(16 * kp * theta + ki * sigma) * 2 ^ n * 2 ^ 40
  let den : Int := 256 * 65536 * 1000000000
  let r := (2 * num + den) / (2 * den)
  if 549755814 < r then 549755814 else if r < -549755814 then -549755814 else r

/-- R504 and R506 for one offset: a step, or a new rate, and the state. `grand`: a grandmaster's step moves NS and SUB only
(R505). -/
def State.servo (s : State) (theta : Int) (n : Nat) (grand : Bool) : State :=
  let ns := (2 * theta + 65536) / (2 * 65536)
  let s := s.wr Reg.NTM_OFFSET (BitVec.ofNat 32 (unsigned 32 ns))
  let was := s.ntmState
  let s := if was = 3 then ((s.setFlag F.NTM_STATUS_SOURCE false).setNtmState 1).onNtm (fun x => { x with good := 0 }) else s
  let s :=
    if (s.f F.NTM_SERVO_STEP_THR * 1000 * 65536 : Nat) < theta.natAbs then
      let c := s.clk.shift (-theta)
      ((s.moveClock (if grand then { c with sec := s.clk.sec } else c)).setFlag F.NTM_STATUS_STEPPED true).onNtm (fun x => { x with sigma := 0 })
    else
      let sigma := s.ntm.sigma + theta
      let adj := servoAdj (s.f F.NTM_SERVO_KP) (s.f F.NTM_SERVO_KI) theta sigma n
      (s.wr Reg.NTM_ADJ (BitVec.ofNat 32 (unsigned 32 adj))).onNtm (fun x => { x with sigma := sigma, adjs := (x.adjs ++ [adj]).drop (x.adjs.length - 63) })
  let s := s.onNtm (fun x => { x with good := if theta.natAbs < 50 * 65536 then x.good + 1 else 0 })
  if 200 * 65536 ≤ theta.natAbs then s.setNtmState 1
  else if 16 ≤ s.ntm.good ∧ was ≠ 3 then s.setNtmState 2 else s

/-! ### PTP frames -/

/-- A time-stamp field (R394), and the octets of one. -/
def stampOf (b : List Byte) : Nat := (leAt b 0 6 * 1000000000 + leAt b 6 4 % 2 ^ 30) * 65536 + leAt b 10 2
def stampBytes (t : Nat) : List Byte := leBytes (t / 65536 / 1000000000) 6 ++ leBytes (t / 65536 % 1000000000) 4 ++ leBytes (t % 65536) 2
/-- A big-endian field of a message. -/
def beAt (b : List Byte) (off n : Nat) : Nat := ((b.drop off).take n).foldl (fun v x => v * 256 + x.toNat) 0

/-- Send a PTP frame (R499): the time-stamp field, then the message from 0x20. -/
def State.sendPtp (s : State) (p kind : Nat) (stamp : Nat) (request : List Byte) : State :=
  s.sendFrame p { vc := 3, kind := 1, src := s.f F.GRP_CFG_SELF, arg := kind,
                  payload := stampBytes stamp ++ leBytes 0 4 ++ Config.ptpMessage kind (s.f F.NTM_CFG_DOMAIN) request }

/-- A PTP frame received: consumed, and discarded and counted under R500; one of another message type than the row's is not this
row's. -/
def State.ptp (s : State) (p : Nat) (f : Frame) (kind : Nat) (act : Frame → State → State) : State :=
  s.receive p { f with vc := 3, kind := 1 } (fun f s =>
    let m := f.payload.drop 16
    if !s.flag F.NTM_CFG_EN || !f.fcrcOk then s
    else if decide (leAt m 1 1 % 16 ≠ 2) || decide (leAt m 4 1 ≠ s.f F.NTM_CFG_DOMAIN) || !decide (f.arg % 16 ∈ [0, 2, 3, 0xB]) || bitAt f.arg 31 then
      s.satInc (F.NTM_PORT_STATUS_DISCARD p)
    else if f.arg % 16 = kind then act f s else s)

/-- State of a port: 0 DISABLED, 1 MASTER, 2 SLAVE, 3 PASSIVE. -/
def State.ntmPort (s : State) (p : Nat) : Nat := s.f (F.NTM_PORT_CTRL_STATE p)

/-- SYNC_MSG (R504): received at `rx`, in 2⁻¹⁶ ns of the local clock. -/
def execSyncMsg (p : Nat) (f : Frame) (rx : Nat) (s : State) : Host.Outcome State Fault Refusal :=
  .next (s.ptp p f 0 (fun f s =>
    if s.ntmPort p ≠ 2 then s
    else
      let c := signed 64 (beAt (f.payload.drop 16) 8 8)
      s.servo ((rx : Int) - (stampOf f.payload : Int) - (s.f (F.NTM_PORT_PATH p) : Int) - c) (s.f F.NTM_CFG_SYNC_LOG) false))

/-- PDELAY_REQ (R499, R502): answered with the turnaround, t3′ − t2′ in 2⁻¹⁶ ns. -/
def execPdelayReq (p : Nat) (f : Frame) (turn : Nat) (s : State) : Host.Outcome State Fault Refusal :=
  .next (s.ptp p f 2 (fun f s => if s.ntmPort p = 0 then s else s.sendPtp p 3 turn (f.payload.drop 16)))

/-- PDELAY_RESP (R503): received at `rx`. Division by 16 rounds down (DEDUCED, notes/assumptions/44.md). -/
def execPdelayResp (p : Nat) (f : Frame) (rx : Nat) (s : State) : Host.Outcome State Fault Refusal :=
  .next (s.ptp p f 3 (fun f s =>
    match SMap.get none s.ntm.asked p with
    | none => s
    | some t1 =>
      let d : Int := ((rx : Int) - (t1 : Int) - (stampOf f.payload : Int)) / 2
      let old : Int := s.f (F.NTM_PORT_PATH p)
      let v := if SMap.get false s.ntm.loaded p then old + (d - old) / 16 else d
      (s.setF (F.NTM_PORT_PATH p) (unsigned 32 v)).onNtm (fun n => { n with asked := SMap.put none n.asked p none, loaded := SMap.put false n.loaded p true })))

/-- ANNOUNCE (R498, R500): the grandmasterIdentity is stored, on any port but a PASSIVE one. It is octets 53 to 60 of the message
(IEEE 1588-2019; PRESUMED, notes/assumptions/43.md). -/
def execAnnounce (p : Nat) (f : Frame) (s : State) : Host.Outcome State Fault Refusal :=
  .next (s.ptp p f 0xB (fun f s =>
    if s.ntmPort p = 3 then s
    else
      let g := beAt (f.payload.drop 16) 53 8
      (s.wr Reg.NTM_GM_ID_LO (BitVec.ofNat 32 g)).wr Reg.NTM_GM_ID_HI (BitVec.ofNat 32 (g / 2 ^ 32))))

/-- SYNC_SEND (R499): Sync with its egress stamp t1, and Announce, on a MASTER port. -/
def execSyncSend (p t1 : Nat) (s : State) : Host.Outcome State Fault Refusal :=
  .next (if s.flag F.NTM_CFG_EN && decide (s.ntmPort p = 1) then (s.sendPtp p 0 t1 []).sendPtp p 0xB 0 [] else s)

/-- PDELAY_SEND (R499, R503): Pdelay_Req with its egress stamp t1′. -/
def execPdelaySend (p t1 : Nat) (s : State) : Host.Outcome State Fault Refusal :=
  .next (
    if s.flag F.NTM_CFG_EN && decide (s.ntmPort p ≠ 0) then
      (s.sendPtp p 2 t1 []).onNtm (fun n => { n with asked := SMap.put none n.asked p (some t1) })
    else s)

/-- PPS_IN_EDGE (R505, Table 19-9): `t`, NS and SUB of the edge's stamp in 2⁻¹⁶ ns. -/
def execPpsInEdge (t : Nat) (s : State) : Host.Outcome State Fault Refusal :=
  .next (
    let s := if s.mode = .cold then s else s.irq 0x28
    if s.flag F.NTM_CFG_EN && decide (s.f F.NTM_CFG_ROLE = 1) && s.flag F.NTM_CFG_PPS_IN_EN then
      s.servo (if t < 500000000 * 65536 then (t : Int) else (t : Int) - 1000000000 * 65536) 0 true
    else s)

/-- PTP_HOLDOVER (R506): the SLAVE port has left UP, or LOSS × τ has passed with no Sync. -/
def execPtpHoldover (s : State) : Host.Outcome State Fault Refusal :=
  .next (if s.flag F.NTM_CFG_EN && (List.range 4).any (fun p => decide (s.ntmPort p = 2)) then s.ntmHold else s)

/-- PPS_OUT (R508): the output rises as NS passes to 0, and falls 1 ms later; it stays low while not enabled and in Cold. -/
def execPpsOut (high : Bool) (s : State) : Host.Outcome State Fault Refusal :=
  .next (
    let v := high && s.flag F.NTM_CFG_PPS_OUT_EN && decide (s.mode ≠ .cold)
    if v = s.ntm.pps then s else (s.onNtm (fun n => { n with pps := v })).emit (.ppsOut v))

/-! ### The journal -/

/-- Where the two areas lie in the Archive (Table 21-4, R515). -/
def journalBase : Nat := 0x240000
def recAddr (sealed : Bool) (pos : Nat) : Nat := journalBase + (if sealed then 0x80000 else 0) + 256 * (pos % 2048)

/-- A journal record up to its CRC (Table 18-4). -/
def State.journalBody (s : State) (sealed : Bool) (endAt skipped rseq : Nat) : List Byte :=
  let m := s.meter
  let b := leBytes 0x4A4D4B56 4 ++ leBytes (if sealed then 2 else 1) 1 ++
    leBytes (b2n m.regress.isSome + 2 * b2n m.torn + 4 * b2n (decide (skipped ≠ 0))) 1 ++ leBytes m.sat 2 ++ leBytes rseq 4 ++
    leBytes m.period 4 ++ leBytes m.start 8 ++ leBytes endAt 8 ++ leBytes (m.g / 1000000000) 8 ++ leBytes skipped 4 ++ leBytes 0 4 ++
    leBytes ((m.regress.map (fun q => q.1)).getD 0) 8 ++ leBytes ((m.regress.map (fun q => q.2)).getD 0) 8 ++
    (List.range 16).flatMap (fun i => leBytes (SMap.get 0 m.counts i) 8) ++ leBytes s.clk.sec 8 ++ List.replicate 44 0
  b ++ leBytes (crc32c b) 4

/-- MTR_STATUS.QUEUED (R589). -/
def State.showJournal (s : State) : State :=
  s.setFlag F.MTR_STATUS_QUEUED (s.arch.inhibit && decide (s.arch.waiting .journal ≠ 0))

/-- Write a record into its area (R515): its sector is erased before the sector's first record; COMMIT follows as a second
program. Under the inhibit one CHECKPOINT, the newest, and four SEALs wait (R589). -/
def State.journal (s : State) (sealed : Bool) (endAt skipped : Nat) : State :=
  let rseq := s.arch.jrnSeq
  let waits := s.arch.queue.filter (fun q => decide (q.writer = .journal) && decide (q.data ≠ []) && decide (decide (journalBase + 0x80000 ≤ q.addr) = sealed))
  let held := s.arch.inhibit && !s.arch.busy
  if held && sealed && decide (4 ≤ waits.length) then s
  else
    let old := if held && !sealed then waits.head? else none
    let pos := if sealed then s.meter.sealPos else s.meter.ckPos
    let a := match old with
      | some q => q.addr
      | none => recAddr sealed pos
    let w : OwnWrite := { writer := .journal, erase := if a % 0x10000 = 0 then [a] else [], addr := a,
                          data := s.journalBody sealed endAt skipped rseq, commitAddr := a + 0xF8,
                          commit := leBytes rseq 4 ++ leBytes 0x6D747231 4, tag := rseq }
    let s := s.onArch (fun x => ({ x with jrnSeq := rseq + 1, queue := match old with
      | some q => x.queue.erase q
      | none => x.queue } : Archive).enqueue w)
    let s := s.onMeter (fun m => { m with torn := false, ckPos := if sealed ∨ old.isSome then m.ckPos else (m.ckPos + 1) % 2048,
                                          sealPos := if sealed then (m.sealPos + 1) % 2048 else m.sealPos })
    s.showJournal

/-- CHECKPOINT (R515): every 60 s of elapsed time. -/
def execCheckpoint (s : State) : Host.Outcome State Fault Refusal :=
  .next (if s.flag F.MTR_CFG_EN then s.journal false 0 0 else s)

/-! ### Accrual -/

/-- Units that qualify for an option in this tick (Table 18-3). -/
def State.qualifies (s : State) (i : Nat) : Nat :=
  let kind := s.f (F.MTR_OPT_KIND i)
  let bays := s.f (F.MTR_OPT_BAYS i)
  let run := fun (ch : Nat) => decide (s.chanState ch = 4) && (match s.owner ch with
    | some c => (s.ctxState c).playing
    | none => false)
  let chans := fun (test : Nat → Bool) => ((List.range 256).filter (fun ch => bitAt bays (bayOfCh ch) && test ch)).length
  if !s.flag (F.MTR_OPT_EN i) || decide (s.mode ∈ [.standby, .cold]) then 0
  else match kind with
    | 1 => chans run
    | 2 => chans (fun ch => run ch && !s.wide ch && (match s.owner ch with
        | some c => decide (s.period c ((s.ctx c).cur.tsets.getD 31 0) < 858993460)
        | none => false))
    | 3 => chans (fun ch => run ch && s.wide ch)
    | 4 => chans (fun ch => decide (s.pmuState ch = 1 ∨ s.pmuState ch = 2))
    | 5 => chans (fun ch => run ch && (match s.owner ch with
        | some c => s.inGroup c
        | none => false))
    | 6 => ((List.range 16).filter (fun j => decide (s.f (F.LNK_DL_CFG_TX_MODE j) ≠ 0 ∨ s.f (F.LNK_DL_CFG_RX_MODE j) ≠ 0))).length
    | _ => 0

def State.mtrEpoch (s : State) : Nat := (s.rd Reg.MTR_EPOCH_HI).toNat * 2 ^ 32 + (s.rd Reg.MTR_EPOCH_LO).toNat
/-- The largest boundary at or below a time in seconds, and the smallest above a time in ns (R512). -/
def State.boundaryBelow (s : State) (t : Nat) : Nat :=
  let len := s.f F.MTR_LEN_LEN
  if t < s.mtrEpoch ∨ len = 0 then s.mtrEpoch else s.mtrEpoch + (t - s.mtrEpoch) / len * len
def State.boundaryAbove (s : State) (g : Nat) : Nat :=
  if g < s.mtrEpoch * 1000000000 then s.mtrEpoch else s.boundaryBelow (g / 1000000000) + s.f F.MTR_LEN_LEN

/-- The open period seals and the next opens (R512, R514). -/
def State.sealPeriod (s : State) (endAt : Nat) : State :=
  let start := s.boundaryBelow s.clk.sec
  let skipped := (start - endAt) / s.f F.MTR_LEN_LEN
  let s := s.journal true endAt skipped
  (s.onMeter (fun m => { m with period := m.period + 1, start := start, counts := [], sat := 0, regress := none })).irq 0xC8

/-- METER_TICK (R510, R512, R513): 1 µs of elapsed time. -/
def execMeterTick (s : State) : Host.Outcome State Fault Refusal :=
  .next (
    if !s.flag F.MTR_CFG_EN then s
    else
      let next := s.boundaryAbove s.meter.g
      let passed := decide (next ≤ s.clk.sec) && decide (s.f F.MTR_LEN_LEN ≠ 0)
      let s := s.meterSees.onMeter (fun m => { m with g := Nat.max m.g s.localNs })
      let s := if passed then s.sealPeriod next else s
      s.each 16 (fun i s =>
        let n := s.qualifies i
        let v := SMap.get 0 s.meter.counts i + n
        s.onMeter (fun m => { m with counts := SMap.put 0 m.counts i (Nat.min v (2 ^ 64 - 1)),
                                     sat := if 2 ^ 64 - 1 < v then setBitTo m.sat i true else m.sat })))

/-- MTR_OPEN_IDX_READ (R511): the open period's index; a consuming read latches its snapshot. -/
def execMtrOpenIdxRead (peek : Bool) (s : State) : Host.Outcome State Fault Refusal :=
  .next (
    let m := s.meter
    let s := s.emit (.answer Reg.MTR_OPEN_IDX m.period)
    if peek then s
    else
      let s := ((s.setF F.MTR_SNAP_FLAGS_SAT m.sat).setFlag F.MTR_SNAP_FLAGS_TORN m.torn).setFlag F.MTR_SNAP_FLAGS_REGRESSION m.regress.isSome
      let s := (s.wr Reg.MTR_SNAP_START_LO (BitVec.ofNat 32 m.start)).wr Reg.MTR_SNAP_START_HI (BitVec.ofNat 32 (m.start / 2 ^ 32))
      let g := m.g / 1000000000
      let s := (s.wr Reg.MTR_SNAP_G_LO (BitVec.ofNat 32 g)).wr Reg.MTR_SNAP_G_HI (BitVec.ofNat 32 (g / 2 ^ 32))
      s.each 16 (fun i s =>
        let v := SMap.get 0 m.counts i
        (s.wr (Reg.MTR_SNAP_CNT_LO i) (BitVec.ofNat 32 v)).wr (Reg.MTR_SNAP_CNT_HI i) (BitVec.ofNat 32 (v / 2 ^ 32))))

/-! ### Reading the journal -/

/-- A record is valid: MAGIC, CRC and COMMIT (R516). -/
def recValid (r : List Byte) : Bool :=
  decide (leAt r 0 4 = 0x4A4D4B56) && decide (leAt r 0xFC 4 = 0x6D747231) && decide (leAt r 0xF8 4 = leAt r 8 4) &&
    decide (crc32c (r.take 0xF4) = leAt r 0xF4 4)

/-- MTR_RD (R517): the SEAL record of period MTR_RD_IDX; a record found whose check fails is DATA_ERROR. The lookup, at most 10 ms
long, ends with the command (DEDUCED, notes/assumptions/45.md). -/
def execMtrRd (w : BusWrite) (s : State) : Host.Outcome State Fault Refusal :=
  .next (s.onWrite Reg.MTR_RD_CTRL w (fun s =>
    if !w.data.getLsbD 31 then s
    else
      let idx := (s.rd Reg.MTR_RD_IDX).toNat
      let is := fun (k : Nat) =>
        let h := s.arch.bytes (recAddr true k) 16
        decide (leAt h 0 4 = 0x4A4D4B56) && decide (leAt h 4 1 = 2) && decide (leAt h 0x0C 4 = idx)
      match (List.range 2048).find? is with
      | none => s.setF F.MTR_RD_CTRL_RESULT 2
      | some k =>
        let r := s.arch.bytes (recAddr true k) 256
        if recValid r then
          ((List.range 64).foldl (fun s i => s.wr (Reg.MTR_RD_DATA i) (BitVec.ofNat 32 (leAt r (4 * i) 4))) s).setF F.MTR_RD_CTRL_RESULT 1
        else s.setF F.MTR_RD_CTRL_RESULT 3))

/-- The meter restores itself during Boot from the newest valid record (R516). -/
def State.meterRestore (s : State) : State :=
  let recs := fun (sealed : Bool) => (List.range 2048).filterMap (fun k =>
    let r := s.arch.bytes (recAddr sealed k) 256
    if recValid r then some (k, r) else none)
  let newest := fun (l : List (Nat × List Byte)) => l.foldl (fun m q => match m with
    | none => some q
    | some p => if leAt p.2 8 4 < leAt q.2 8 4 then some q else some p) (none : Option (Nat × List Byte))
  let torn := fun (sealed : Bool) (k : Nat) => ((List.range 2048).map (fun i => (k + 1 + i) % 2048)).takeWhile (fun k =>
    let r := s.arch.bytes (recAddr sealed k) 256
    !recValid r && r.any (fun b => decide (b ≠ 0xFF)))
  let ck := newest (recs false)
  let se := newest (recs true)
  let start := fun (sealed : Bool) (q : Option (Nat × List Byte)) => match q with
    | some (k, _) => (torn sealed k, k)
    | none => (torn sealed 2047, 2047)
  let (ct, ck0) := start false ck
  let (st, se0) := start true se
  let n := ct.length + st.length
  let best := newest (ck.toList ++ se.toList)
  let s := s.onMeter (fun m => { m with torn := decide (n ≠ 0), ckPos := (ck0 + 1 + ct.length) % 2048, sealPos := (se0 + 1 + st.length) % 2048 })
  let s := match best with
    | none => s.onMeter (fun m => { m with period := 0, start := 0, g := 0, counts := [], sat := 0, regress := none })
    | some (_, r) =>
      let s := s.onArch (fun a => { a with jrnSeq := leAt r 8 4 + 1 })
      if leAt r 4 1 = 1 then
        s.onMeter (fun m => { m with
          period := leAt r 0x0C 4, start := leAt r 0x10 8, g := leAt r 0x20 8 * 1000000000, sat := leAt r 6 2,
          regress := if bitAt (leAt r 5 1) 0 then some (leAt r 0x30 8, leAt r 0x38 8) else none,
          counts := (List.range 16).foldl (fun c i => SMap.put 0 c i (leAt r (0x40 + 8 * i) 8)) [] })
      else
        s.onMeter (fun m => { m with period := leAt r 0x0C 4 + 1, start := leAt r 0x18 8, g := leAt r 0x20 8 * 1000000000, counts := [], sat := 0, regress := none })
  if n = 0 then s else (s.setF F.MTR_STATUS_TORN (satAdd 0xFFFF (s.f F.MTR_STATUS_TORN) n)).note 0xE006 0x15

end Sys2Proof.Machine
end

