-- ==== Sys2Proof/Machine/Power.lean ====
section
/-! DEFINITION. The switched power domains, their requests and ramps, and the rails of group 6
(02_modes_and_startup.md R53, R64 to R66, R642). -/
namespace Sys2Proof.Machine

/-- The registers of an address range read their reset values (R12, R66). -/
def State.resetRange (s : State) (lo hi : Nat) : State := { s with regs := s.regs.filter (fun p => !decide (lo ≤ p.1 ∧ p.1 < hi)) }

/-! ### Table 2-14 -/

/-- The domain whose ON a domain needs. -/
def domNeeds (d : Nat) : Option Nat := if d < 32 then some (32 + d / 8) else if 36 ≤ d ∧ d < 40 then some (d - 4) else none
/-- The domains that need a domain. -/
def domDeps (d : Nat) : List Nat := (List.range 50).filter (fun k => decide (domNeeds k = some d))
def State.domState (s : State) (d : Nat) : Nat := s.f (F.PWR_DOM_STATUS_STATE d)
def State.setDomState (s : State) (d v : Nat) : State := s.setF (F.PWR_DOM_STATUS_STATE d) v
/-- RAMP, ON, ISO or LOW. -/
def State.domLive (s : State) (d : Nat) : Bool := decide (s.domState d ≠ 0)
/-- The rails a pin-die analogue domain needs. -/
def State.domRails (s : State) (d : Nat) : Bool :=
  !decide (32 ≤ d ∧ d < 36) || (s.flag (F.PWR_DOM_STATUS_VDH_GOOD d) && s.flag (F.PWR_DOM_STATUS_VDL_GOOD d))

/-- A shelf's edge generators, formatters and channel registers (R66, R69); the record of its channels' fences stays with the
collector. -/
def State.loseChannel (s : State) (ch : Nat) : State :=
  let fence := s.rd (Reg.CHN_FENCE ch)
  let s := (s.istAbandonCh ch).disconnect ch
  let base := Reg.CHN_CTRL ch
  let s := (s.resetRange base (base + 0x1000)).wr (Reg.CHN_FENCE ch) fence
  { s with chans := SMap.erase s.chans ch }

/-- A domain that turns OFF loses all state (R66). -/
def State.loseDomain (s : State) (d : Nat) : State :=
  if d < 32 then s.each 8 (fun i s => s.loseChannel (8 * d + i))
  else if d < 36 then s.each 64 (fun i s => (s.istAbandonCh (64 * (d - 32) + i)).disconnect (64 * (d - 32) + i))
  else if d < 40 then
    let b := d - 36
    let s := s.resetRange (0x170000 + 0x100000 * b) (0x180000 + 0x100000 * b)
    { s with pmus := s.pmus.filter (fun p => decide (p.1 / 64 ≠ b)) }
  else if d < 42 then
    if s.fenced (unitCode 9 (d - 40)) then s.stkLose (d - 40)
    else s.raise { unit := unitCode 9 (d - 40), cause := 0x08, cls := 2 }
  else if d < 46 then
    let p := d - 42
    if s.portState p = 4 then s
    else (((if s.portState p = 0 then s else s.portDiscard p).setPortState p 0).portLadder p 0)
  else if d < 48 then
    let s := s.dlStop (d - 46)
    { s with dlanes := s.dlanes.map (fun q => if q.1 / 8 = d - 46 then (q.1, ({ stopped := true } : DutLane)) else q) }
  else if d = 48 then { s.resetRange 0xD0000 0xD4000 with tims := [] }
  else s.poolLose.resetRange 0x80000 0x80800

/-- A domain reaches ON: a stack trains, a port climbs its ladder, the lanes and the pool run again (R642, R384, R403, R481). -/
def State.domainUp (s : State) (d : Nat) : State :=
  if d < 40 then s.syncAll
  else if d < 42 then
    let st := d - 40
    if s.stkState st = 5 ∧ s.f (F.STK_STATE_CAUSE st) = 5 then (s.setFence (unitCode 9 st) none).setStkState st 1 else s
  else if d < 46 then
    if s.flag (F.LNK_PORT_CTRL_EN (d - 42)) ∧ s.portState (d - 42) = 0 then s.portLadder (d - 42) 1 else s
  else if d < 48 then s.dlResume (d - 46)
  else if d = 48 then s
  else s.setF F.WKS_STATUS_STATE (if s.flag F.WKS_CTRL_EN then 1 else 3)

/-- A domain takes a state that is reached at once or at the end of a ramp. -/
def State.domEnter (s : State) (d v : Nat) : State :=
  let was := s.domState d
  let s : State := { s with sys := { s.sys with ramp := SMap.erase s.sys.ramp d } }
  let s := s.setDomState d v
  if v = 0 then (if was = 0 then s else (s.loseDomain d).syncAll)
  else if v = 2 then s.domainUp d
  else if d < 40 then s.syncAll
  else if 46 ≤ d ∧ d < 48 then s.dlStop (d - 46)
  else s

/-! ### Requests -/

/-- An active context owns a channel that satisfies a test. -/
def State.playsOn (s : State) (p : Nat → Bool) : Bool :=
  (List.range 256).any (fun ch => p ch && (match s.owner ch with
    | some c => (s.ctxState c).active
    | none => false))

/-- An armed acquisition engine of a bay takes its stream from a source that a domain holds (Table 12-1). -/
def State.acqOn (s : State) (b : Nat) (kinds : List Nat) (p : Nat → Bool) : Bool :=
  [2 * b, 2 * b + 1].any (fun e => s.acqArmed e && decide (s.f (F.ACQ_SRC_KIND e) ∈ kinds) &&
    (p (64 * b + s.f (F.ACQ_SRC_CH_A e)) || (s.flag (F.ACQ_SRC_B_EN e) && p (64 * b + s.f (F.ACQ_SRC_CH_B e)))))

/-- An armed TIM of a bay takes a channel of it as a source (Table 13-1). -/
def State.timOn (s : State) (b : Nat) (p : Nat → Bool) : Bool :=
  s.timArmed b &&
    ((decide (1 ≤ s.f (F.TIM_START_SRC_SRC b) ∧ s.f (F.TIM_START_SRC_SRC b) ≤ 4) && p (64 * b + s.f (F.TIM_START_SRC_INDEX b))) ||
     (decide (1 ≤ s.f (F.TIM_STOP_SRC_SRC b) ∧ s.f (F.TIM_STOP_SRC_SRC b) ≤ 4) && p (64 * b + s.f (F.TIM_STOP_SRC_INDEX b))))

/-- A domain is used by an active context, acquisition engine, TIM measurement or calibration (R65). -/
def State.domOwned (s : State) (d : Nat) : Bool :=
  let shelf := fun ch => decide (ch / 8 = d)
  if d < 32 then s.playsOn shelf || s.acqOn (d / 8) [0, 1] shelf || s.timOn (d / 8) shelf || (s.cal (d / 8)).run.isSome
  else if d < 36 then
    let b := d - 32
    s.playsOn (fun ch => decide (ch / 64 = b)) || s.acqOn b [0, 1] (fun _ => true) || s.timOn b (fun _ => true) || (s.cal b).run.isSome
  else if d < 40 then
    let b := d - 36
    s.playsOn (fun ch => decide (ch / 64 = b)) || s.acqOn b [0] (fun _ => true) || (s.cal b).run.isSome
  else if d < 42 then
    (List.range 16).any (fun c => (s.ctxState c).active && decide (((s.ctx c).rdrTerm.getD (d - 40) (0, 1)).1 ≠ 0))
  else if d < 46 then s.grpLive && decide (s.f (F.GRP_PORT_ROLE (d - 42)) ≠ 0)
  else if d < 48 then
    (List.range 8).any (fun i =>
      let j := 8 * (d - 46) + i
      (decide (s.f (F.LNK_DL_CFG_TX_MODE j) = 6) || decide (s.f (F.LNK_DL_CFG_RX_MODE j) = 6)) && (s.ctxState (s.f (F.LNK_DL_CFG_CTX j))).active)
  else if d = 48 then (List.range 4).any (fun t => s.timArmed t || s.acqOn t [2] (fun _ => true) || (s.cal t).run.isSome)
  else (List.range 4).any (fun b => decide (s.f (F.CAL_BAY_STATUS_STATE b) = 4))

/-- The refusal of a request (R65), 0 for none: 1 DEPENDENCY, 2 OWNED, 3 RAIL, 4 UNSUPPORTED; `req` as PWR_DOM_CTRL.REQ. -/
def State.domRefusal (s : State) (d req : Nat) : Nat :=
  let up := decide (req = 1 ∨ req = 2)
  if (req = 2 ∧ 48 ≤ d) ∨ (req = 3 ∧ d ≠ 42) then 4
  else if up && (match domNeeds d with
      | some k => !s.domOn k
      | none => false) then 1
  else if req = 0 ∧ (domDeps d).any s.domLive then 1
  else if (req = 0 ∨ req = 2) ∧ s.domOwned d then 2
  else if up && !s.domRails d then 3
  else 0

/-- PWR_DOM_STATUS.STATE of a REQ value. -/
def domTarget (req : Nat) : Nat := match req with | 0 => 0 | 1 => 2 | 2 => 3 | _ => 4

/-- The move to a requested state needs a ramp (R642): a powered state from OFF, and all lanes from LOW; LOW from OFF ramps as ON does
(DEDUCED, notes/assumptions/61.md). -/
def needsRamp (from_ goal : Nat) : Bool := decide (goal ≠ 0) && (decide (from_ = 0) || (decide (from_ = 4) && decide (goal ≠ 4)))

/-- A write of PWR_DOM_CTRL (R65, R642): refused with ERR, or the domain moves. A request for the state in force, or the one a ramp
leads to, changes nothing; one for another powered state during a ramp changes where it leads (DEDUCED,
notes/assumptions/61.md). -/
def State.domRequest (s : State) (d : Nat) (w : BusWrite) : State :=
  s.onWrite (Reg.PWR_DOM_CTRL d) w (fun s =>
    let req := s.f (F.PWR_DOM_CTRL_REQ d)
    let t := domTarget req
    let now := s.domState d
    if now = t ∨ (now = 1 ∧ SMap.get 2 s.sys.ramp d = t) then s
    else
      let r := s.domRefusal d req
      if r ≠ 0 then s.setF (F.PWR_DOM_STATUS_ERR d) r
      else if needsRamp now t || (decide (now = 1) && decide (t ≠ 0)) then
        ({ s with sys := { s.sys with ramp := SMap.insert s.sys.ramp d t } } : State).setDomState d 1
      else s.domEnter d t)

/-- DOM_REQ_ON (R65). -/
def execDomReqOn (d : Nat) (w : BusWrite) (s : State) : Host.Outcome State Fault Refusal := .next (s.domRequest d w)
/-- DOM_REQ_OFF (R65, R66). -/
def execDomReqOff (d : Nat) (w : BusWrite) (s : State) : Host.Outcome State Fault Refusal := .next (s.domRequest d w)
/-- DOM_REQ_ISO (R65). -/
def execDomReqIso (d : Nat) (w : BusWrite) (s : State) : Host.Outcome State Fault Refusal := .next (s.domRequest d w)
/-- DOM_REQ_LOW (R65): domain 42 alone. -/
def execDomReqLow (d : Nat) (w : BusWrite) (s : State) : Host.Outcome State Fault Refusal := .next (s.domRequest d w)

/-- DOM_RAMP_DONE (R642): the domain reaches the state its request named. -/
def execDomRampDone (d : Nat) (s : State) : Host.Outcome State Fault Refusal :=
  .next (if s.domState d ≠ 1 then s else s.domEnter d (SMap.get 2 s.sys.ramp d))

/-! ### Group-6 rails -/

/-- PWR_SUPPLY_STATUS bits 12 and 13 read 1 only when all four bays are good (Table 2-8). -/
def State.showRails (s : State) : State :=
  let all := fun (g : Nat → RF) => (List.range 4).all (fun b => s.flag (g (32 + b)))
  (s.setFlag ⟨Reg.PWR_SUPPLY_STATUS, 12, 1⟩ (all F.PWR_DOM_STATUS_VDH_GOOD)).setFlag ⟨Reg.PWR_SUPPLY_STATUS, 13, 1⟩
    (all F.PWR_DOM_STATUS_VDL_GOOD)

/-- One rail of a bay reads good or not. -/
def State.setBayRail (s : State) (b : Nat) (vdh good : Bool) : State :=
  (s.setFlag (if vdh then F.PWR_DOM_STATUS_VDH_GOOD (32 + b) else F.PWR_DOM_STATUS_VDL_GOOD (32 + b)) good).showRails

/-- BAY_RAIL_LOSS (R53): the pin-die domain of the bay, its eight shelves and its PMU/ADC domain go OFF, and the bay has a Unit-fatal
fault while a rail is out; its second rail adds none. PWR_DOM_CTRL keeps its requests (DEDUCED, notes/assumptions/62.md). -/
def execBayRailLoss (b : Nat) (vdh : Bool) (s : State) : Host.Outcome State Fault Refusal :=
  .next (
    if s.mode = .cold then s
    else
      let good := s.domRails (32 + b)
      let s := s.setBayRail b vdh false
      if s.mode = .boot ∨ s.mode = .standby ∨ !good then s
      else
        let s := s.eachOf (domDeps (32 + b)) (fun d s => s.domEnter d 0)
        let s := s.domEnter (32 + b) 0
        s.raise { unit := unitCode 3 b, cause := 0x08, cls := 2, held := true })

/-- BAY_RAIL_GOOD (R53, R537): the domains stay OFF until requested; with both rails good the fault's condition ends. -/
def execBayRailGood (b : Nat) (vdh : Bool) (s : State) : Host.Outcome State Fault Refusal :=
  .next (
    if s.mode = .cold then s
    else
      let s := s.setBayRail b vdh true
      if s.domRails (32 + b) then s.endCond (unitCode 3 b) 0x08 else s)

end Sys2Proof.Machine
end

