-- ==== Sys2Proof/Machine/Rings.lean ====
section
/-! DEFINITION. Rings, descriptors, the DMA engine and the PCIe endpoint (16_host_rings_and_dma.md). -/
namespace Sys2Proof.Machine

/-! ### Descriptors -/

/-- Fields of a descriptor (Table 16-2). -/
def Desc.op (d : Desc) : Nat := leAt d.bytes 0 1
def Desc.flags (d : Desc) : Nat := leAt d.bytes 1 1
def Desc.swap (d : Desc) : Nat := bitsAt (leAt d.bytes 2 1) 0 2
def Desc.tag (d : Desc) : Nat := leAt d.bytes 4 4
def Desc.len (d : Desc) : Nat := leAt d.bytes 8 8
def Desc.src (d : Desc) : Nat := leAt d.bytes 0x10 8
def Desc.dst (d : Desc) : Nat := leAt d.bytes 0x18 8
def Desc.srcLib (d : Desc) : Bool := decide (bitsAt (leAt d.bytes 0x20 1) 0 2 = 1)
def Desc.dstLib (d : Desc) : Bool := decide (bitsAt (leAt d.bytes 0x20 1) 4 2 = 1)
def Desc.fill (d : Desc) : List Byte := (d.bytes.drop 0x28).take 8

/-- The operations that run on a DMA channel. -/
def isDma (op : Nat) : Bool := decide (op = 1 ∨ op = 2 ∨ op = 3)

/-- A ring that an enabled origin names as its response ring (R452). -/
def State.responseOf (s : State) (r : Nat) : Option Nat :=
  (List.range 16).find? (fun h => s.flag (F.HST_ORIGIN_EN h) && decide (s.f (F.HST_ORIGIN_RESPONSE h) = r))

/-- A field that must be zero is not: the fixed zeros, and the fields its OP does not use (R442, R443). -/
def Desc.zeroBad (d : Desc) : Bool :=
  let b := d.bytes
  let nz := fun (o n : Nat) => decide (leAt b o n ≠ 0)
  let space := leAt b 0x20 1
  decide (bitsAt d.flags 3 5 ≠ 0) || decide (8 ≤ leAt b 2 1 * 2) || nz 3 1 || nz 0x21 7 || nz 0x30 16 ||
  (match d.op with
    | 0 => nz 2 1 || nz 8 8 || nz 0x10 8 || nz 0x18 8 || nz 0x20 1 || nz 0x28 8
    | 1 | 3 => nz 0x28 8 || decide (bitsAt space 2 2 ≠ 0 ∨ bitsAt space 6 2 ≠ 0 ∨ 2 ≤ bitsAt space 0 2 ∨ 2 ≤ bitsAt space 4 2)
    | 2 => decide (bitsAt space 2 2 ≠ 0 ∨ bitsAt space 6 2 ≠ 0 ∨ 2 ≤ bitsAt space 4 2)
    | 0x10 => nz 2 1 || nz 8 8 || nz 0x11 3 || decide (2 ^ 18 ≤ d.dst) || nz 0x20 1 || nz 0x28 8
    | _ => nz 2 1 || nz 0x18 8 || decide (2 ≤ space) || nz 0x28 8)

/-- INVALID (R443); a LENGTH above 2^36 is outside its field's range (Table 16-2). -/
def State.descInvalid (s : State) (r : Nat) (d : Desc) : Bool :=
  !decide (d.op ∈ [0, 1, 2, 3, 0x10, 0x20]) || d.zeroBad ||
  (isDma d.op && (decide (d.len = 0 ∨ 2 ^ 36 < d.len) ||
    (decide (d.swap ≠ 0) && decide (d.len % 4 ≠ 0 ∨ (d.op ≠ 2 ∧ d.src % 4 ≠ 0) ∨ d.dst % 4 ≠ 0)))) ||
  ((isDma d.op || decide (d.op = 0x10)) && (s.responseOf r).isSome) ||
  (decide (d.op = 0x20) && (s.responseOf r).isNone)

/-- A LIBRARY range: a LOCAL address within one stack (R461). -/
def State.rangeFail (s : State) (d : Desc) : Nat :=
  let ends : List (Nat × Bool) := (if d.op = 2 then [] else [(d.src, d.srcLib)]) ++ [(d.dst, d.dstLib)]
  if ends.any (fun e => e.2 && !localOk e.1 d.len) then 8
  else if ends.any (fun e => !e.2 && s.ownBar e.1 d.len) then 9
  else if ends.any (fun e => e.2 && decide (s.sys.testNow = some (3 + stackOf e.1)) && decide (s.mode = .selftest)) then 0x0C
  else 0

/-! ### Completion -/

/-- A completion entry of Table 16-3, its PHASE to come. -/
def completion (status ring : Nat) (d : Desc) (done detail : Nat) : List Byte :=
  leBytes status 1 ++ leBytes 0 1 ++ leBytes ring 1 ++ leBytes d.op 1 ++ leBytes d.tag 4 ++ leBytes done 8 ++ leBytes detail 8 ++
  leBytes d.seq 2 ++ leBytes 0 6

/-- The descriptor of a ring ends (R446, R447, R451). -/
def State.descEnd (s : State) (r : Nat) (d : Desc) (status done detail : Nat) : State :=
  let k := s.f (F.HST_RING_CFG_CHAN r)
  let s := if isDma d.op then s.satInc (if status = 0 then F.DMA_CH_DONE k else F.DMA_CH_FAIL k) else s
  let s := if d.running then s.setFlag (F.DMA_CH_STATUS_BUSY k) false else s
  let s := s.onRing r (fun x => { x with desc := none })
  let s := if s.f (F.HST_RING_STATUS_STATE r) = 2 then s.setF (F.HST_RING_STATUS_STATE r) 3 else s
  if d.op ≠ 0x20 ∧ (status ≠ 0 ∨ bitAt d.flags 1) then
    s.ringComplete (s.f (F.HST_RING_CFG_CRING r)) (completion status r d done detail) (decide (status ≠ 0) || bitAt d.flags 2)
  else s

/-! ### Service of the channels -/

/-- Rings with a descriptor in progress. -/
def State.descs (s : State) : List (Nat × Desc) := s.hp.rings.filterMap (fun p => p.2.desc.map (fun d => (p.1, d)))

/-- Concurrent service (Table 16-7). -/
def State.dmaConc (s : State) : Bool := decide (s.mode ∈ [.boot, .load, .selftest, .safe])

/-- The descriptor that starts next, if one may (R455 to R457): serially one in all, by wait of 1 ms, then PRIO, then round-robin;
concurrently one a channel; in a channel its rings round-robin. -/
def State.dmaNext (s : State) : Option Nat :=
  let all := s.descs
  let chan := fun (r : Nat) => s.f (F.HST_RING_CFG_CHAN r)
  let running := all.filter (fun p => p.2.running)
  let waits := all.filter (fun p => isDma p.2.op && !p.2.running && !running.any (fun q => decide (chan q.1 = chan p.1)))
  let ring := fun (k : Nat) =>
    let mine := (waits.filter (fun p => decide (chan p.1 = k))).map (fun p => p.1)
    let last := SMap.get 255 s.hp.lastRing k
    (mine.find? (fun r => decide (last < r))).or mine.head?
  if s.dmaConc then (waits.head?).bind (fun p => ring (chan p.1))
  else if running ≠ [] then none
  else
    let late := waits.filter (fun p => decide (p.2.since + 100000 ≤ s.now))
    match late with
    | p :: ps =>
      let oldest := ps.foldl (fun (m : Nat × Desc) q => if q.2.since < m.2.since then q else m) p
      ring (chan oldest.1)
    | [] =>
      let prio := waits.foldl (fun m p => Nat.max m (s.f (F.DMA_CH_CFG_PRIO (chan p.1)))) 0
      let ks := ((List.range 8).map (fun i => (s.hp.lastCh + 1 + i) % 8)).filter (fun k =>
        decide (s.f (F.DMA_CH_CFG_PRIO k) = prio) && waits.any (fun p => decide (chan p.1 = k)))
      ks.head?.bind ring

/-- Start descriptors while the service admits them. -/
def State.dmaPick (s : State) : Nat → State
  | 0 => s
  | fuel + 1 =>
    match s.dmaNext with
    | none => s
    | some r =>
      let k := s.f (F.HST_RING_CFG_CHAN r)
      let seq := ((s.ring r).desc.map (fun d => d.seq)).getD 0
      let s := s.onRing r (fun x => { x with desc := x.desc.map (fun d => { d with running := true }) })
      let s : State := { s with hp := { s.hp with lastCh := k, lastRing := SMap.put 255 s.hp.lastRing k r } }
      let s := s.setF F.DMA_MODE_CONC (b2n s.dmaConc)
      (((s.setFlag (F.DMA_CH_STATUS_BUSY k) true).setF (F.DMA_CH_STATUS_RING k) r).setF (F.DMA_CH_STATUS_SEQ k) seq).dmaPick fuel

/-! ### Starting a descriptor -/

/-- A completion entry can be reserved for the ring (R448). -/
def State.roomFor (s : State) (r : Nat) : Bool :=
  let cr := s.f (F.HST_RING_CFG_CRING r)
  let held := (s.descs.filter (fun p => decide (s.f (F.HST_RING_CFG_CRING p.1) = cr) && decide (p.2.op ≠ 0x20))).length
  decide (held + (s.ring cr).backlog.length < s.ringFree cr + 64)

/-- A SUBMIT ring has a descriptor to read (R441, R447). -/
def State.descDue (s : State) (r : Nat) : Bool :=
  s.ringRuns r && decide (s.ringKind r = 0) && decide (s.ringCount r ≠ (s.ring r).host) && (s.ring r).desc.isNone

/-- The descriptor at the Burcel's count is read with the right PHASE: counted and started (R440, R443, R447, R461). `act` is what
its operation does once it has passed the checks. -/
def State.descStart (s : State) (r : Nat) (bytes : List Byte) (mine : Nat → Bool) (act : Desc → State → State) : State :=
  let c := s.ringCount r
  let d : Desc := { bytes := bytes, seq := c, since := s.now }
  if !s.descDue r || decide (bytes.length ≠ 64) || !mine d.op || decide (d.flags % 2 ≠ s.phaseOf r c) ||
      !(decide (d.op = 0x20) || s.roomFor r) then s
  else
    let s := ((s.setF (F.HST_RING_PTR_PTR r) ((c + 1) % 65536)).onRing r (fun x => { x with desc := some d, rereads := 0 })).ringShow r
    if s.descInvalid r d then s.descEnd r d 0x0A 0 0 else act d s

/-- A DMA descriptor waits for its channel, or ends with the status of R458 or R461. -/
def State.dmaStart (s : State) (r : Nat) (d : Desc) : State :=
  let st := s.rangeFail d
  if st ≠ 0 then s.descEnd r d st 0 0 else s.dmaPick 8

/-- NOP (R443): completes OK; an undefined OP completes INVALID. -/
def execDescNop (r : Nat) (bytes : List Byte) (s : State) : Host.Outcome State Fault Refusal :=
  .next (s.descStart r bytes (fun op => !decide (op ∈ [1, 2, 3, 0x10, 0x20])) (fun d s => s.descEnd r d 0 0 0))
/-- COPY (R459): starts on its channel, or ends at once. -/
def execDescCopy (r : Nat) (bytes : List Byte) (s : State) : Host.Outcome State Fault Refusal :=
  .next (s.descStart r bytes (fun op => decide (op = 1)) (fun d s => s.dmaStart r d))
/-- FILL (R459). -/
def execDescFill (r : Nat) (bytes : List Byte) (s : State) : Host.Outcome State Fault Refusal :=
  .next (s.descStart r bytes (fun op => decide (op = 2)) (fun d s => s.dmaStart r d))
/-- COMPARE (R459). -/
def execDescCompare (r : Nat) (bytes : List Byte) (s : State) : Host.Outcome State Fault Refusal :=
  .next (s.descStart r bytes (fun op => decide (op = 3)) (fun d s => s.dmaStart r d))
/-- LIBCMD (R447): passed to the library command engine. -/
def execDescLibcmd (r : Nat) (bytes : List Byte) (s : State) : Host.Outcome State Fault Refusal :=
  .next (s.descStart r bytes (fun op => decide (op = 0x10)) (fun d s =>
    s.libTake { op := leAt d.bytes 0x10 1, cn := leAt d.bytes 0x14 4, tgt := bitsAt d.dst 0 18, desc := some r }))

/-- ORIGIN_DATA (R453): the answer of the pattern server, `data` what the Burcel reads at SRC and `readOk` whether the read
succeeds. A discarded answer counts in BAD of the origin that names the ring. -/
def execDescOriginData (r : Nat) (bytes data : List Byte) (readOk : Bool) (s : State) : Host.Outcome State Fault Refusal :=
  .next (s.descStart r bytes (fun op => decide (op = 0x20)) (fun d s =>
    let is := fun (q : OriginReq) => decide (q.tag = d.tag) && decide (q.addr / 2 ^ 50 = 2) && !q.done && !q.waiting &&
      s.flag (F.HST_ORIGIN_EN (bitsAt q.addr 46 4)) && decide (s.f (F.HST_ORIGIN_RESPONSE (bitsAt q.addr 46 4)) = r)
    let bad := fun (s : State) (h : Nat) => s.satInc (F.HST_ORIGIN_STATUS_BAD h)
    let s := match s.lib.reqs.find? is with
      | none => bad s ((s.responseOf r).getD 0)
      | some q =>
        let h := bitsAt q.addr 46 4
        let good := decide (d.len = q.len) && decide (leAt d.bytes 0x20 1 % 2 = 0) && readOk
        let s := if good then s.hostFetch d.len d.src d.len else bad s h
        let s := s.onReq q.tag (fun q => { q with bytes := (data ++ List.replicate q.len 0).take q.len, bad := !good, done := true })
        s.showOrigin h
    s.descEnd r d 0 0 0))

/-- STALE_REREAD (R445): the entry at the Burcel's count still has the wrong PHASE; the third re-read stops the ring with a
completion entry STALE and a Note (its unit and cause are DEDUCED, notes/assumptions/36.md). -/
def execStaleReread (r : Nat) (s : State) : Host.Outcome State Fault Refusal :=
  .next (
    if !s.descDue r then s
    else if (s.ring r).rereads < 2 then s.onRing r (fun x => { x with rereads := x.rereads + 1 })
    else
      let d : Desc := { bytes := [], seq := s.ringCount r }
      let s := (s.onRing r (fun x => { x with rereads := 0 })).ringStop r 1
      (s.ringComplete (s.f (F.HST_RING_CFG_CRING r)) (completion 0x0B r d 0 0) true).note 0xE000 0x0C)

/-! ### The end of a transfer -/

/-- What the host side of a transfer showed: the bytes read at SRC and at DST, the offsets of the 64-byte blocks that came poisoned,
and a host read that failed with its status (R463, R464). -/
structure Transfer where
  src : List Byte := []
  dst : List Byte := []
  poison : List Nat := []
  fail : Option (Nat × Nat) := none
  deriving DecidableEq, Repr

/-- SWAP of Table 16-4, word by word; a tail shorter than a word stays. -/
def swapBytes (v : Nat) : List Byte → List Byte
  | a :: b :: c :: d :: l => (match v with
      | 0 => [a, b, c, d]
      | 1 => [b, a, d, c]
      | 2 => [c, d, a, b]
      | _ => [d, c, b, a]) ++ swapBytes v l
  | l => l

/-- A side's data: bytes, the offsets of blocks that came bad, and the lowest failure. -/
abbrev Side := List Byte × List Nat × Option (Nat × Nat)

/-- Read one side of a transfer: from a stack, or what the host returned. -/
def State.readSide (s : State) (lib : Bool) (a n : Nat) (host : List Byte) (t : Transfer) : Side × State :=
  if lib then
    let ((bs, poison, fail), s) := s.stkRead a 5 n
    (((bs ++ List.replicate n 0).take n, poison, fail.map (fun q => (q.1, 6))), s)
  else (((host ++ List.replicate n 0).take n, t.poison, t.fail), s.hostFetch n a n)

/-- The block of an offset, as the bad blocks of a side name it. -/
def blockAt (a off : Nat) : Nat := (a + off) / 64 * 64 - a

/-- Write the destination: the lowest offset that could not be stored, with its status. -/
def State.writeSide' (s : State) (d : Desc) (bs : List Byte) (bad : Nat → Bool) : Option (Nat × Nat) × State :=
  if d.dstLib then
    let (fail, s) := s.stkWrite d.dst 5 bs bad
    (fail.map (fun q => (q.1, if q.2 = 4 then 7 else 6)), s)
  else (none, s.hostStore d.dst bad bs.length d.dst bs)

/-- End a transfer that moves data: what failed first, else what came poisoned, else OK (R463, R464). -/
def State.moveEnd (s : State) (r : Nat) (d : Desc) (side : Side) (poisonStatus : Nat) : State :=
  let (bs, poison, fail) := side
  let bs := match fail with
    | some q => bs.take q.1
    | none => bs
  let bad := fun (off : Nat) => decide (blockAt d.src off ∈ poison) && decide (d.op = 1)
  let (wfail, s) := s.writeSide' d bs bad
  let worst := match wfail, fail with
    | some x, some y => some (if x.1 ≤ y.1 then x else y)
    | some x, none => some x
    | none, y => y
  match worst with
  | some q => s.descEnd r d q.2 q.1 q.1
  | none => match poison with
    | p :: ps => s.descEnd r d poisonStatus d.len (ps.foldl Nat.min p)
    | [] => s.descEnd r d 0 d.len 0

/-- Carry out a running DMA descriptor (R459 to R465). -/
def State.dmaFinish (s : State) (r : Nat) (d : Desc) (t : Transfer) : State :=
  let n := d.len
  match d.op with
  | 1 =>
    let ((bs, poison, fail), s) := s.readSide d.srcLib d.src n t.src t
    if d.srcLib = d.dstLib ∧ d.src < d.dst + n ∧ d.dst < d.src + n then
      (s.moveEnd r d (leBytes (s.freeBits (8 * n)).toNat n, poison, fail) (if d.srcLib then 5 else 4)).nextFree
    else s.moveEnd r d (swapBytes d.swap bs, poison, fail) (if d.srcLib then 5 else 4)
  | 2 =>
    let pat := swapBytes d.swap d.fill
    s.moveEnd r d ((List.range n).map (fun i => pat.getD ((d.dst + i) % 8) 0), [], none) 0
  | _ =>
    let ((bs, p1, f1), s) := s.readSide d.srcLib d.src n t.src t
    let ((cs, p2, f2), s) := s.readSide d.dstLib d.dst n t.dst t
    let fail := match f1, f2 with
      | some x, some y => some (if x.1 ≤ y.1 then x else y)
      | some x, none => some x
      | none, y => y
    match fail with
    | some q => s.descEnd r d q.2 q.1 q.1
    | none =>
      let xs := swapBytes d.swap bs
      let differs := fun (i : Nat) => decide (xs.getD i 0 ≠ cs.getD i 0) || decide (blockAt d.src i ∈ p1) || decide (blockAt d.dst i ∈ p2)
      match (List.range n).find? differs with
      | some i => s.descEnd r d 1 n i
      | none => s.descEnd r d 0 n 0

/-- DESCRIPTOR_COMPLETE (R447, R459 to R465): the descriptor in progress of a ring ends. A LIBCMD ends once its command has. -/
def execDescriptorComplete (r : Nat) (src dst : List Byte) (poison : List Nat) (fail : Option (Nat × Nat)) (s : State) :
    Host.Outcome State Fault Refusal :=
  .next (
    match (s.ring r).desc with
    | none => s
    | some d =>
      if d.op = 0x10 then
        match s.lib.ended.find? (fun e => decide (e.1 = r)) with
        | none => s
        | some e =>
          let s := s.onLib (fun l => { l with ended := l.ended.filter (fun x => decide (x.1 ≠ r)) })
          s.descEnd r d 0x0E (e.2.1 + e.2.2.1 * 2 ^ 32) e.2.2.2
      else if d.running then (s.dmaFinish r d { src := src, dst := dst, poison := poison, fail := fail }).dmaPick 8
      else s)

/-- HOST_READ_TIMEOUT (R463): a running descriptor that reads the host ends at the offset whose read met the timeout. -/
def execHostReadTimeout (r off : Nat) (src : List Byte) (s : State) : Host.Outcome State Fault Refusal :=
  .next (
    match (s.ring r).desc with
    | none => s
    | some d =>
      let reads := (decide (d.op = 1 ∨ d.op = 3) && !d.srcLib) || (decide (d.op = 3) && !d.dstLib)
      if d.running && reads && decide (off < d.len) then (s.dmaFinish r d { src := src, fail := some (off, 3) }).dmaPick 8 else s)

/-! ### Ring commands -/

/-- DOORBELL (R441). -/
def execDoorbell (r v : Nat) (s : State) : Host.Outcome State Fault Refusal :=
  .next (
    let t := v % 65536
    if s.mode = .cold ∨ s.mode = .standby ∨ s.ringRuns r = false then s
    else
      let s := s.setF (F.HST_RING_DB_DB r) t
      let c := s.ringCount r
      let n := s.ringEntries r
      if s.ringKind r = 0 then
        if n < (t + 65536 - c) % 65536 then s.ringStop r 2 else s.onRing r (fun x => { x with host := t, rereads := 0 })
      else if n < (c + 65536 - t) % 65536 then s.ringStop r 2
      else
        let s := s.onRing r (fun x => { x with host := t })
        (s.ringFlush r (s.ring r).backlog.length).originRetry r)

/-- RING_ENABLE (R439, R440, R446): a write to HST_RING_CFG; setting EN starts the ring at HST_RING_PTR, clearing it stops it. -/
def execRingEnable (r : Nat) (w : BusWrite) (s : State) : Host.Outcome State Fault Refusal :=
  .next (
    let was := s.ringRuns r
    s.onWrite (Reg.HST_RING_CFG r) w (fun s =>
      match was, s.ringRuns r with
      | false, true =>
        let s := s.onRing r (fun x => { x with host := s.ringCount r, rereads := 0, unsig := 0 })
        let s := ((s.setF (F.HST_RING_STATUS_STOP r) 0).setF (F.HST_RING_STATUS_STATE r) 1).ringShow r
        if s.ringKind r = 0 then s else s.ringFlush r (s.ring r).backlog.length
      | true, false => s.ringStop r 4
      | _, _ => s))

/-- RING_IRQ_TIME (R451). -/
def execRingIrqTime (r : Nat) (s : State) : Host.Outcome State Fault Refusal :=
  .next (if s.f (F.HST_RING_IRQ_TIME r) ≠ 0 ∧ (s.ring r).unsig ≠ 0 then s.ringSignal r else s)

/-! ### The link -/

/-- Registers that lie in the HST and DMA blocks and return to their reset values: all but PTR, the loaded HST_CFG, the link's own
state, and the ring status that shows why the ring stopped (R466; the exceptions but PTR are DEDUCED, notes/assumptions/36.md). -/
def hostReg (a : Nat) : Bool :=
  decide (0x10000 ≤ a ∧ a < 0x30000) && !decide (a = Reg.HST_CFG ∨ a = Reg.HST_LINK) &&
  !(decide (0x14000 ≤ a ∧ a < 0x18000) && decide ((a - 0x14000) % 0x40 = 0x10 ∨ (a - 0x14000) % 0x40 = 0x0C))

/-- The link goes down, or a reset of R466 comes. -/
def State.linkLost (s : State) : State :=
  let s := s.eachOf s.descs (fun p s => s.onRing p.1 (fun x => { x with desc := x.desc.map (fun d => { d with running := false }) }))
  let s := s.eachOf s.descs (fun p s =>
    let cr := s.f (F.HST_RING_CFG_CRING p.1)
    let s := s.onRing p.1 (fun x => { x with desc := none })
    if p.2.op = 0x20 then s else s.onRing cr (fun x => { x with backlog := x.backlog ++ [(completion 0x0D p.1 p.2 0 0, true)] }))
  let s := s.each 256 (fun r s => if s.ringRuns r then s.ringStop r 3 else s)
  let s := s.onLib (fun l => { l with queue := l.queue.filter (fun c => decide (c.desc = none)), ended := [],
                                      cur := l.cur.map (fun c => { c with desc := if c.desc.isSome then some 256 else none }) })
  let s := s.onLib (fun l => { l with reqs := l.reqs.map (fun q => if q.addr / 2 ^ 50 = 2 ∧ q.done = false then { q with bad := true, done := true } else q) })
  let s : State := { s with regs := s.regs.filter (fun p => !hostReg p.1), hp := { s.hp with cfg := [] } }
  s.each 256 (fun r s => if (s.ring r).backlog = [] then s else s.ringShow r)

/-- LINK_DOWN (R466): with the Correctable fault of a lost link, whose condition holds until it is up (R537). -/
def execLinkDown (s : State) : Host.Outcome State Fault Refusal :=
  .next (if !s.flag F.HST_LINK_DL_UP then s
    else ((s.linkLost).wr Reg.HST_LINK 0).raise { unit := 0xE000, cause := 0x0B, cls := 1, held := true })
/-- HOT_RESET (R466). -/
def execHotReset (s : State) : Host.Outcome State Fault Refusal :=
  .next (if s.mode = .cold then s else s.linkLost)
/-- FUNCTION_LEVEL_RESET (R466). -/
def execFunctionLevelReset (s : State) : Host.Outcome State Fault Refusal :=
  .next (if s.mode = .cold then s else s.linkLost)

/-- HOST_LINK_UP (R60, R466, R223): DL_UP with the negotiated width and rate; the condition of the link fault ends; in Boot, step 2
completes. -/
def execHostLinkUp (width rate : Nat) (s : State) : Host.Outcome State Fault Refusal :=
  .next (if s.mode = .cold then s
    else
      let s := ((s.setFlag F.HST_LINK_DL_UP true).setF F.HST_LINK_WIDTH width).setF F.HST_LINK_RATE rate
      let s := s.endCond 0xE000 0x0B
      let s := if s.mode = .boot ∧ s.f F.SYS_BOOT_STATUS_STEP < 2 then s.setF F.SYS_BOOT_STATUS_STEP 2 else s
      s.rsvOver (s.armedCtxs.foldl (fun n c => n + s.f (F.LIB_CTX_RSV_HOST c)) 0) s.hostBandwidth 0xE000)

/-! ### BAR4 and configuration space -/

/-- BAR4_ACCESS (R438, R256, R257): `write` are the bytes of a write, marked bad by EP, which has no completion and is dropped where
the stack is fenced or the address beyond it; else `n` bytes are read. -/
def execBar4Access (off n : Nat) (write : Option (List Byte)) (ep : Bool) (s : State) : Host.Outcome State Fault Refusal :=
  .next (
    if s.mode = .cold ∨ s.mode = .standby ∨ s.flag F.HST_CFG_BAR4 = false ∨ 0x1000000000 ≤ off then s
    else
      let a := localAddr (s.f F.HST_BAR4_WIN_STACK) (s.f F.HST_BAR4_WIN_BASE * 0x40000000 + off)
      match write with
      | some bs =>
        match s.stkWrite a 5 bs (fun _ => ep) with
        | (_, s) => s
      | none =>
        let ((bs, poison, fail), s) := s.stkRead a 5 n
        if fail.isSome then s.emit (.tlp 2 [])
        else if poison = [] then s.emit (.tlp 0 bs)
        else (s.emit (.tlp 1 (leBytes (s.freeBits (8 * n)).toNat n))).nextFree)

/-- Configuration space by dword: bits that read as fixed and bits that a write changes (R435, R436; PCI Express 5.0 gives the
header, the places of the capabilities are PRESUMED, notes/assumptions/32.md). -/
def State.cfgShape (s : State) (d : Nat) : Nat × Nat :=
  match d with
  | 0 => (0xB2561F3C, 0)
  | 1 => (0x00100000, 0x0546)
  | 2 => (0x118000A1, 0)
  | 3 => (0, 0xFF)
  | 4 => (4, 0xFC000000)
  | 5 => (0, 0xFFFFFFFF)
  | 6 => (4, 0xFFF00000)
  | 7 => (0, 0xFFFFFFFF)
  | 8 => (if s.flag F.HST_CFG_BAR4 then 0xC else 0, 0)
  | 9 => (0, if s.flag F.HST_CFG_BAR4 then 0xFFFFFFF0 else 0)
  | 11 => (s.hp.subsys % 2 ^ 32, 0)
  | 13 => (0x40, 0)
  | 15 => (0, 0xFF)
  | 16 => (0x00028010, 0)
  | 18 => (0, 0x7FFF)
  | 26 => (0, 0xFFFF)
  | 32 => (0x003F0011, 0xC0000000)
  | 33 => (0x00018000, 0)
  | 34 => (0x00018800, 0)
  | _ => (0, 0)

/-- CONFIGURATION_REQUEST (R60, R435): Retry Status until Boot step 2 completes, then a read or a write of a dword. -/
def execConfigurationRequest (d : Nat) (wr : Option Word) (s : State) : Host.Outcome State Fault Refusal :=
  .next (
    if s.mode = .cold then s
    else if s.mode = .boot ∧ s.f F.SYS_BOOT_STATUS_STEP < 2 then s.emit .crs
    else
      let (fixed, rw) := s.cfgShape d
      match wr with
      | none => s.emit (.tlp 0 (leBytes (fixed ||| (s.cfgDword d &&& rw)) 4))
      | some v =>
        let s : State := { s with hp := { s.hp with cfg := SMap.put 0 s.hp.cfg d (v &&& BitVec.ofNat 32 rw) } }
        if d = 32 then s.each 64 (fun v s => s.release v) else s)

end Sys2Proof.Machine
end

