-- ==== Sys2Proof/Machine/Modes.lean ====
section
/-! DEFINITION. Cold, what each start of Boot resets, mode requests, the transitions of Table 2-6, Self-test and the wake from Standby
(02_modes_and_startup.md R39 to R63, R643, R644). -/
namespace Sys2Proof.Machine

/-! ### What a reset keeps -/

/-- Registers of the always-on domain that Cold keeps with VDD_AON: the reset causes, network time, the meter and the time base's
corrections (R55, R374, R494). -/
def coldKeeps (a : Nat) : Bool :=
  decide (a = Reg.SYS_RESET_CAUSE) || decide (0x48000 ≤ a ∧ a < 0x60000) || decide (a = Reg.TIM_XO_OFF ∨ a = Reg.TIM_XO_OFF + 4)

/-- Entry to Cold (R12, R53, R57): every register and unit takes its reset value but those of the always-on domain, which lose theirs
below 0.72 V (`aon`); the Archive keeps its bytes, and its queue as long as the domain holds (R546, R589). What lives outside
the chip's supply, the test access port and the fuses, stays. `before`: the mode the always-on domain holds for R539. -/
def State.coldEntry (s : State) (aon : Bool) (before : Nat) : State :=
  let lost := s.sys.aonLost || aon
  { State.reset with
    regs := if lost then [] else s.regs.filter (fun p => coldKeeps p.1)
    pending := s.pending, fresh := s.fresh, now := s.now, out := s.out
    arch := if lost then { cells := s.arch.cells, logSeq := s.arch.logSeq, jrnSeq := s.arch.jrnSeq } else { s.arch with hostOp := none }
    sec := { fuses := s.sec.fuses }
    clk := if lost then {} else s.clk
    ntm := if lost then {} else s.ntm
    meter := if lost then {} else s.meter
    tb := if lost then {} else s.tb
    fcl := { torn := s.fcl.torn, trig := s.fcl.trig }
    tap := s.tap
    ist := { began := s.now }
    sys := { railsWrong := s.sys.railsWrong, modeBeforeCold := before, aonLost := lost } }

/-- Registers that a warm reboot, Standby and the wake keep: the SYS, FCL, IRQ, MTR, NTM, DBG and time-base blocks, the lock, what
PWR holds of Standby and the rails, the banks' settings and the channels' fences; the host port's and port 0's too where they stay
powered (R62, R490, R546, R582, R595, R618). -/
def bootKeeps (host : Bool) (a : Nat) : Bool :=
  (decide (a < 0x8000) && decide (a ≠ Reg.SYS_BOOT_STATUS ∧ a ≠ Reg.SYS_BOOT_VER)) || decide (a = Reg.PWR_STBY_CFG ∨ a = Reg.PWR_SUPPLY_STATUS) ||
  decide (32 * 4 + 0x8100 ≤ a ∧ a < 36 * 4 + 0x8100) || (host && decide (0x10000 ≤ a ∧ a < 0x20000)) || decide (0x30000 ≤ a ∧ a < 0x40000) ||
  decide (a = Reg.SEC_LOCK) || decide (0x48000 ≤ a ∧ a < 0x60000) || decide (0x70000 ≤ a ∧ a < 0x80000) ||
  (host && decide (0x90000 ≤ a ∧ a < 0x90400)) || decide (0x88100 ≤ a ∧ a < 0x88200) || decide (0xD8000 ≤ a ∧ a < 0xE0000) ||
  (List.range 256).any (fun ch => decide (a = Reg.CHN_FENCE ch))

/-- What the start of Boot and Standby reset (R62, R66, R613): everything but the registers above, the always-on domain, the Archive,
the fuses and the banks' contents. A stack trains next at its recorded target or at its set (R253). The scope of a warm reboot is
DEDUCED (notes/assumptions/59.md). -/
def State.bootReset (s : State) (host : Bool) : State :=
  let s := { State.reset with
    regs := s.regs.filter (fun p => bootKeeps host p.1)
    pending := s.pending, fresh := s.fresh, now := s.now, out := s.out
    stks := s.stks.map (fun p => (p.1, ({ target := some (p.2.target.getD (s.f (F.STK_FREQ_ACTIVE p.1))) } : Stack)))
    hp := if host then s.hp else {}
    ports := if host then s.ports.filter (fun p => decide (p.1 = 0)) else []
    wks := { nextId := s.wks.nextId, spd := s.wks.spd }
    wo1 := s.wo1.filter (fun a => decide (a = Reg.SEC_LOCK))
    fcl := s.fcl, arch := { s.arch with hostOp := none }, sec := { fuses := s.sec.fuses, image := s.sec.image, imageVer := s.sec.imageVer }
    clk := s.clk, ntm := s.ntm, meter := s.meter, tb := s.tb, tap := s.tap, ist := s.ist
    sys := { s.sys with target := none, ramp := [], testNow := none, testsLeft := [], recovery := false, msixOn := false } }
  [32, 33, 34, 35].foldl (fun s d => (s.setDomState d 0).setF (F.PWR_DOM_STATUS_ERR d) 0) s

/-- Boot begins (R55, R63, Table 2-6). -/
def State.enterBoot (s : State) (wake : Bool) : State :=
  let s0 := s
  let s := s.bootReset wake
  let s : State := { s with sys := { s.sys with woke := wake } }
  (s.setF F.SYS_MODE_MODE Mode.boot.code).modeIrq s0

/-! ### Cold -/

/-- FIRST_RAIL_RAMP (R48, R54): from no supply into Cold; `inOrder`: the groups rise in the order of R52. -/
def execFirstRailRamp (inOrder : Bool) (s : State) : Host.Outcome State Fault Refusal :=
  .next (
    if !s.sys.unpowered ∧ s.mode ≠ .cold then s
    else
      let s := s.coldEntry true 0
      let s : State := { s with sys := { s.sys with railsWrong := !inOrder } }
      s.setFlag F.SYS_RESET_CAUSE_POR true)

/-- RAIL_LOSS (R53): a rail of groups 1 to 5 is lost; `aon`: VDD_AON below 0.72 V, with which the reset causes go too. -/
def execRailLoss (aon : Bool) (s : State) : Host.Outcome State Fault Refusal :=
  .next (
    if s.sys.unpowered then s
    else if s.mode = .cold then (if aon then s.coldEntry true 0 else s)
    else
      let s := s.coldEntry aon 0
      if aon then s else s.setFlag F.SYS_RESET_CAUSE_RAIL true)

/-- PERST_N_LOW (R57). -/
def execPerstNLow (s : State) : Host.Outcome State Fault Refusal :=
  .next (
    if s.sys.unpowered ∨ s.mode = .cold then s
    else (s.coldEntry false s.mode.code).setFlag F.SYS_RESET_CAUSE_PERST true)

/-- COLD_EXIT (R54, R55): Boot begins; the rails of groups 1 to 5 are good, those of group 6 as `vdh` and `vdl` say. -/
def execColdExit (vdh vdl : Nat) (s : State) : Host.Outcome State Fault Refusal :=
  .next (
    if s.sys.unpowered ∨ s.mode ≠ .cold then s
    else
      let wrong := s.sys.railsWrong
      let s : State := { s with sys := { s.sys with cold := false, railsWrong := false, woke := false } }
      let s := s.setF ⟨Reg.PWR_SUPPLY_STATUS, 0, 12⟩ 0xFFF
      let s := s.each 4 (fun b s => (s.setFlag (F.PWR_DOM_STATUS_VDH_GOOD (32 + b)) (bitAt vdh b)).setFlag (F.PWR_DOM_STATUS_VDL_GOOD (32 + b)) (bitAt vdl b))
      let s := s.showRails
      (s.setF F.SYS_MODE_MODE Mode.boot.code).when wrong (fun s => s.setFlag F.SYS_RESET_CAUSE_SEQ true))

/-! ### Mode requests -/

/-- Work that keeps the device from Standby (Table 2-6). -/
def State.standbyWork (s : State) : Bool :=
  (List.range 84).any (fun k => decide (s.strLevel k ≠ 0) || decide ((s.stream k).buf ≠ [])) || decide (s.descs ≠ []) ||
    decide (s.arch.queue ≠ []) || decide (s.arch.calFlags ≠ [])

/-- The result of a request for a transition of Table 2-6 from the mode in force; 1 where it may start. -/
def State.transitionCheck (s : State) (t : Mode) : Nat :=
  match s.mode, t with
  | .idle, .standby => if s.standbyWork then 6 else 1
  | .idle, .calibrate | .idle, .load | .idle, .characterise => 1
  | .calibrate, .idle | .load, .idle => 1
  | .characterise, .idle => if s.anyCtx CtxState.active then 6 else 1
  | .idle, .selftest => if s.anyCtx CtxState.active then 6 else 1
  | .selftest, .idle => 1
  | .safe, .idle => if s.pendClass 3 then 7 else 1
  | .idle, .boot | .safe, .boot => 1
  | _, _ => 2

/-- A request for Idle ends a self-test that runs (R644). -/
def State.abandonTests (s : State) : State :=
  if s.mode = .selftest ∧ s.sys.testNow.isSome then
    ({ s with sys := { s.sys with testNow := none, testsLeft := [] } } : State).setFlag F.SYS_SELFTEST_STATUS_ABANDONED true
  else s

/-- A write of SYS_MODE_REQ (R45, R46, R643, Table 2-5): BUSY; DONE for the mode in force; Safe from any mode after Boot; a transition
starts; or the request is refused. -/
def State.modeRequest (s : State) (w : BusWrite) : State :=
  s.onWrite Reg.SYS_MODE_REQ w (fun s =>
    if !w.data.getLsbD 4 then s
    else
      let s := s.setFlag F.SYS_MODE_REQ_GO false
      let seq := s.f F.SYS_MODE_REQ_SEQ
      let code := s.f F.SYS_MODE_REQ_MODE
      if s.flag F.SYS_MODE_BUSY then s.modeResult seq 3
      else if code = s.mode.code then s.modeResult seq 1
      else if code = Mode.safe.code ∧ s.mode ≠ .boot then (s.modeResult seq 1).enterSafe
      else
        let t := Mode.ofCode code
        let r := if code = t.code then s.transitionCheck t else 2
        if r ≠ 1 then s.modeResult seq r
        else
          let s : State := { s with sys := { s.sys with target := some t, source := s.mode, reqSeq := seq } }
          ((s.setF F.SYS_MODE_LAST_SEQ seq).setFlag F.SYS_MODE_BUSY true).abandonTests)

/-- MODE_REQ_IDLE (R48). -/
def execModeReqIdle (w : BusWrite) (s : State) : Host.Outcome State Fault Refusal := .next (s.modeRequest w)
/-- MODE_REQ_STANDBY (R62). -/
def execModeReqStandby (w : BusWrite) (s : State) : Host.Outcome State Fault Refusal := .next (s.modeRequest w)
/-- MODE_REQ_CALIBRATE (R48). -/
def execModeReqCalibrate (w : BusWrite) (s : State) : Host.Outcome State Fault Refusal := .next (s.modeRequest w)
/-- MODE_REQ_LOAD (R48). -/
def execModeReqLoad (w : BusWrite) (s : State) : Host.Outcome State Fault Refusal := .next (s.modeRequest w)
/-- MODE_REQ_CHARACTERISE (R48). -/
def execModeReqCharacterise (w : BusWrite) (s : State) : Host.Outcome State Fault Refusal := .next (s.modeRequest w)
/-- MODE_REQ_SELFTEST (R644). -/
def execModeReqSelftest (w : BusWrite) (s : State) : Host.Outcome State Fault Refusal := .next (s.modeRequest w)
/-- MODE_REQ_SAFE (R50). -/
def execModeReqSafe (w : BusWrite) (s : State) : Host.Outcome State Fault Refusal := .next (s.modeRequest w)
/-- MODE_REQ_WARM_REBOOT (R48). -/
def execModeReqWarmReboot (w : BusWrite) (s : State) : Host.Outcome State Fault Refusal := .next (s.modeRequest w)
/-- MODE_REQ_ILLEGAL (R46). -/
def execModeReqIllegal (w : BusWrite) (s : State) : Host.Outcome State Fault Refusal := .next (s.modeRequest w)

/-! ### Self-test -/

/-- A unit that a test may cover: neither fenced nor in a domain that is OFF (R644). -/
def State.testable (s : State) (u : Nat) : Bool := !s.fenced u && !s.unitOff u
def State.testBanks (s : State) : List Nat := (List.range 64).filter (fun k => decide (s.bankState k = 2) && !s.fenced (unitCode 0xD k))

/-- A test finds some of its units (Table 2-19). -/
def State.testFinds (s : State) (k : Nat) : Bool :=
  let some' := fun (kind n : Nat) => (List.range n).any (fun i => s.testable (unitCode kind i))
  match k with
  | 0 => some' 1 256 || some' 2 32
  | 1 | 5 => some' 4 4
  | 2 => decide (s.testBanks ≠ [])
  | 3 => s.testable (unitCode 9 0)
  | 4 => s.testable (unitCode 9 1)
  | 6 => some' 0xA 4 || some' 0xB 2
  | _ => true

/-- What a test does to its stores and ports as it starts, and whether it overwrites a store (Table 2-19, R229). A store that it
overwrites reads zero from then on (DEDUCED, notes/assumptions/63.md). -/
def State.testBegin (s : State) (k : Nat) : State × Bool :=
  match k with
  | 2 =>
    let l := s.testBanks.filter (fun k => !s.flag (F.SPD_BANK_USE k))
    (s.eachOf l (fun k s => s.zeroBank k), decide (l ≠ []))
  | 3 => ((s.stkErase 0).resMapClear 0, true)
  | 4 => ((s.stkErase 1).resMapClear 1, true)
  | 5 =>
    let l := (List.range 4).filter (fun b => s.testable (unitCode 4 b))
    (s.eachOf l (fun b s => (s.setF (F.LIB_CONC_ID b) 0).onLib (fun x => { x with concs := SMap.erase x.concs b })), true)
  | 6 => (s.each 4 (fun p s =>
      if s.testable (unitCode 0xA p) && decide (s.portState p = 1 ∨ s.portState p = 2) then ((s.portDiscard p).setPortState p 0).portLadder p 0
      else s), false)
  | _ => (s, false)

/-- The next selected test that finds a unit starts; with none left, DONE sets (R644). -/
def State.nextTest (s : State) : List Nat → State
  | [] => ((({ s with sys := { s.sys with testNow := none, testsLeft := [] } } : State).setFlag F.SYS_SELFTEST_STATUS_DONE true)).irq 0xD6
  | k :: ks =>
    if s.testFinds k then
      let (s, ended) := s.testBegin k
      let s := s.setFlag ⟨Reg.SYS_SELFTEST_STATUS, k, 1⟩ true
      let s := s.when ended (fun s => s.setFlag ⟨Reg.SYS_SELFTEST_STATUS, 16 + k, 1⟩ true)
      { s with sys := { s.sys with testNow := some k, testsLeft := ks } }
    else s.nextTest ks

/-- Entry to Self-test (R86, R99, R314, R346, R370, R403, R644). -/
def State.enterSelftest (s : State) : State :=
  let s := s.each 256 (fun ch s =>
    let was := s.f (F.CHN_CTRL_PATH ch)
    let s := (s.setF (F.CHN_CTRL_PATH ch) 0).disconnect ch
    (if was = 0 then s else s.fltRestart ch).pmuStop ch)
  let s := s.each 4 (fun b s => (s.acqStopBay b).timStopped b 4)
  let s := (s.dlStop 0).dlStop 1
  (s.wr Reg.SYS_SELFTEST_STATUS 0).nextTest (bitList (s.f F.SYS_SELFTEST_CFG_TESTS) 8)

/-- The fault of a unit that a test found (Table 2-19); `x` is the cause of test 0 and the DETAIL of test 7. -/
def State.testFault (s : State) (k u x : Nat) : State :=
  match k with
  | 0 => s.raise { unit := u, cause := if x ∈ [0x10, 0x11, 0x12] then x else 0x12, cls := 2 }
  | 1 => (s.setFlag (F.UCS_STATUS_INTEGRITY (unitIndex u)) true).raise { unit := u, cause := 0x15, cls := 2 }
  | 6 => s.raise { unit := u, cause := 0x1D, cls := 2 }
  | 7 => s.note 0xE006 0x15 x
  | _ => s.raise { unit := u, cause := 0x18, cls := 2 }

/-- SELFTEST_TEST_END (R644). -/
def execSelftestTestEnd (bad : List (Nat × Nat)) (s : State) : Host.Outcome State Fault Refusal :=
  .next (
    match s.sys.testNow with
    | none => s
    | some k =>
      let left := s.sys.testsLeft
      let s := s.when (bad ≠ []) (fun s => s.setFlag ⟨Reg.SYS_SELFTEST_STATUS, 8 + k, 1⟩ true)
      let s := s.eachOf bad (fun q s => s.testFault k q.1 q.2)
      if s.mode = .selftest then s.nextTest left else s)

/-! ### Transitions -/

/-- Entry to Standby (R62, R490, R515, R388): the meter's checkpoint, the saved domains, the banks' Standby states, and everything but
the always-on domain, the host port and port 0 loses its state. -/
def State.enterStandby (s : State) : State :=
  let s := if s.flag F.MTR_CFG_EN then s.journal false 0 0 else s
  let doms := (List.range 50).map (fun d => (d, s.f (F.PWR_DOM_CTRL_REQ d)))
  let s := s.each 64 (fun k s =>
    if s.bankState k = 4 then s
    else if s.flag (F.SPD_BANK_STBY k) then (s.zeroBank k).setF (F.SPD_BANK_STATE k) 0
    else s.setF (F.SPD_BANK_STATE k) 3)
  let keep := s.flag F.PWR_STBY_CFG_WAKE_FABRIC || s.flag (F.LNK_PORT_CFG_KA_EN 0)
  let s := if s.portState 0 = 1 ∨ s.portState 0 = 2 then s.portDiscard 0 else s
  let s := s.bootReset true
  let s : State := { s with sys := { s.sys with savedDoms := doms } }
  let s := s.setDomState 42 4
  if s.fenced (unitCode 0xA 0) then s else (s.setPortState 0 (if keep then 3 else 0)).portLadder 0 0

/-- The units that a mode change touches: connections, lanes and ports (R86, R384, R403). -/
def State.afterMode (s : State) (from_ : Mode) : State :=
  let s := s.syncAll
  if from_ = .safe ∨ from_ = .selftest then
    let s := (s.dlResume 0).dlResume 1
    let s := s.each 256 (fun ch s => match s.owner ch with
      | some c => if s.ctxState c = .stopped then s else s.static ch
      | none => s.static ch)
    s.each 4 (fun p s =>
      if s.flag (F.LNK_PORT_CTRL_EN p) && decide (s.portState p = 0 ∧ (s.port p).step = 0) && s.domOn (42 + p) then s.portLadder p 1 else s)
  else s

/-- The modes in which the inventory runs (R603). -/
def istMode (m : Mode) : Bool := decide (m ∈ [.idle, .calibrate, .load, .armed, .run, .paused, .characterise])

/-- What a transition still waits for: in-flight descriptors, or in-flight work items before Standby (Table 2-6, R62). -/
def State.transitionWaits (s : State) : Bool :=
  match s.sys.source, s.sys.target with
  | .calibrate, _ | .load, _ | .characterise, _ => s.descs.any (fun p => p.2.running)
  | _, some .standby => s.wks.items.any (fun x => decide (x.place = 2))
  | _, _ => false

/-- MODE_TRANSITION_DONE (R48). -/
def execModeTransitionDone (s : State) : Host.Outcome State Fault Refusal :=
  .next (
    match s.sys.target with
    | none => s
    | some t =>
      if !s.flag F.SYS_MODE_BUSY || s.transitionWaits then s
      else
        let s0 := s
        let seq := s.sys.reqSeq
        let from_ := s.sys.source
        let s : State := { s with sys := { s.sys with target := none } }
        let s := if istMode t then s else s.istAbandon
        let s := (s.setFlag F.SYS_MODE_BUSY false).setF F.SYS_MODE_MODE t.code
        let s := match t with
          | .standby => s.enterStandby
          | .boot => (((s.setFlag F.SYS_RESET_CAUSE_WARM true).linkLost).wr Reg.HST_LINK 0).enterBoot false
          | .selftest => s.enterSelftest
          | _ => s.afterMode from_
        (if t = .boot then s else s.modeIrq s0).modeResult seq 1)

/-! ### Wake -/

/-- A wake source: a wake out of Standby, or one that ends Standby entry (R63, R388). -/
def State.wake (s : State) : State :=
  if s.mode = .standby then
    let s := (s.setFlag F.SYS_RESET_CAUSE_WAKE true).enterBoot true
    if s.portState 0 = 3 then (s.setPortState 0 1).portLadder 0 2 else s
  else if s.flag F.SYS_MODE_BUSY && decide (s.sys.target = some .standby) then
    let s : State := { s with sys := { s.sys with target := none } }
    (s.setFlag F.SYS_MODE_BUSY false).modeResult s.sys.reqSeq 5
  else s

/-- WAKE_SOURCE (R63). -/
def execWakeSource (src : Nat) (s : State) : Host.Outcome State Fault Refusal :=
  .next (
    match src with
    | 0 => s.wake
    | 1 => if s.flag F.PWR_STBY_CFG_WAKE_FABRIC then s.wake else s
    | i + 2 => if bitAt (s.f F.PWR_STBY_CFG_WAKE_EVT) (i % 16) then s.wake else s)

/-- WAKE row (R388): received in KEEPALIVE it is a fabric wake message. -/
def execRowWake (p : Nat) (s : State) : Host.Outcome State Fault Refusal :=
  .next (if p = 0 ∧ s.portState 0 = 3 ∧ s.flag F.PWR_STBY_CFG_WAKE_FABRIC then s.wake else s)

end Sys2Proof.Machine
end

