-- ==== Sys2Proof/Machine/Microcode.lean ====
section
/-! DEFINITION. Micro-traps and errata bundles of the Reader clusters (07_reader_microcode.md). -/
namespace Sys2Proof.Machine

/-! ### Micro-traps -/

/-- UCS_TRAP_LAST records a trap (R195). -/
def State.trapLast (s : State) (c code : Nat) : State :=
  (s.setF (F.UCS_TRAP_LAST_CTX (c / 4)) (c % 4)).setF (F.UCS_TRAP_LAST_CODE (c / 4)) code

/-- The trap frame of a context (R196, Table 7-3); MPC, the folio-cache pointer and the thread registers are free values. -/
def State.trapFrame (s : State) (c code : Nat) : State :=
  let b := c / 4
  let k := 16 * (c % 4)
  let x := s.ctx c
  let s := s.wr (Reg.UCS_FRAME b k) (BitVec.ofNat 32 (code * 2 ^ 20 + (s.freeBits 14).toNat))
  let s := s.nextFree
  let s := s.wr (Reg.UCS_FRAME b (k + 1)) (BitVec.ofNat 32 (x.loops.length * 2 ^ 28 + x.calls.length * 2 ^ 16 + x.pos % 4096))
  let s := s.wr (Reg.UCS_FRAME b (k + 2)) (BitVec.ofNat 32 (Nat.min 0xFFFF x.ahead * 2 ^ 16 + (s.freeBits 16).toNat))
  (List.range 13).foldl (fun s i => s.wr (Reg.UCS_FRAME b (k + 3 + i)) (s.freeBits 32) |>.nextFree) s.nextFree

/-- A trap that ends the thread's service fences the cluster (Table 7-2). -/
def State.trapFatal (s : State) (c code cause detail : Nat) : State :=
  (s.trapLast c code).raise { unit := unitCode 4 (c / 4), cause := cause, cls := 2, detail := detail }

/-- Take a BREAK or ASSIST: frame, handler, and for BREAK the halt by debug (R195, R196). -/
def State.trapTake (s : State) (c code : Nat) : State :=
  let s := ((s.trapFrame c code).trapLast c code).onCtx c (fun x => { x with trap := some code })
  if code = 5 then s.requestHalt c else s

/-- A BREAK or ASSIST arises: taken, held behind a running handler, or with two held already as CS_UNCORR (R198). -/
def State.trapArise (s : State) (c code : Nat) : State :=
  let x := s.ctx c
  if x.trap.isNone then s.trapTake c code
  else if x.trapsHeld.length < 2 then s.onCtx c (fun x => { x with trapsHeld := x.trapsHeld ++ [code] })
  else s.trapFatal c 2 0x03 0

/-- CS_CORR (R195, R196, R198): counted, recorded, and saved in the frame unless a handler runs; `mpc` is the failing word. -/
def execCsCorr (c mpc : Nat) (s : State) : Host.Outcome State Fault Refusal :=
  .next (if s.ctxState c = .off then s
    else
      let s := ((s.satInc (F.UCS_CORR_CNT (c / 4))).trapLast c 1).raise { unit := unitCode 4 (c / 4), cause := 0x04, cls := 1, detail := mpc }
      if (s.ctx c).trap.isSome then s else s.trapFrame c 1)

/-- CS_UNCORR (R195): the cluster is fenced. -/
def execCsUncorr (c mpc : Nat) (s : State) : Host.Outcome State Fault Refusal :=
  .next (if s.ctxState c = .off then s else s.trapFatal c 2 0x03 mpc)

/-- STATE_PARITY (R195). -/
def execStateParity (c : Nat) (s : State) : Host.Outcome State Fault Refusal :=
  .next (if s.ctxState c = .off then s else s.trapFatal c 3 0x02 0)

/-- WATCHDOG (R195): only in ARMED, PLAY, WAIT and HOLD. -/
def execMicroWatchdog (c : Nat) (s : State) : Host.Outcome State Fault Refusal :=
  .next (if (s.ctxState c).playing ∨ s.ctxState c = .armed then s.trapFatal c 4 0x05 0 else s)

/-- BREAK (R195): a playing context reaches the word its enabled UCS_BRK names. -/
def execMicroBreak (c : Nat) (s : State) : Host.Outcome State Fault Refusal :=
  .next (if (s.ctxState c).playing && s.flag (F.UCS_BRK_EN (c / 4) (c % 4)) &&
      decide (s.f (F.RDR_POS_WORD c) = s.f (F.UCS_BRK_WORD (c / 4) (c % 4))) then s.trapArise c 5 else s)

/-- ASSIST (R195). -/
def execMicroAssist (c : Nat) (s : State) : Host.Outcome State Fault Refusal :=
  .next (if s.ctxState c = .off then s else s.trapArise c 6)

/-- TRAP_HANDLER_END (R196 to R198): the thread goes on as it was; held traps are taken in order. -/
def execTrapHandlerEnd (c : Nat) (s : State) : Host.Outcome State Fault Refusal :=
  .next (
    let x := s.ctx c
    if x.trap.isNone then s
    else match x.trapsHeld with
      | [] => s.onCtx c (fun x => { x with trap := none })
      | t :: ts => (s.onCtx c (fun x => { x with trap := none, trapsHeld := ts })).trapTake c t)

/-! ### Errata bundles -/

/-- BODY_BYTES is that of some counts (R200). -/
def bodyBytesOk (n : Nat) : Bool := (List.range 2049).any (fun p =>
  decide (64 + 24 * p ≤ n) && decide ((n - 64 - 24 * p) % 8 = 0) && decide ((n - 64 - 24 * p) / 8 ≤ 64))

/-- Fixed fields of a bundle header for bay b (Table 7-4; R199). -/
def State.bundleHeaderOk (s : State) (b : Nat) (h : List Byte) : Bool :=
  decide (leAt h 0 4 = 0x52454B56) && decide (leAt h 4 2 = 1) && decide (leAt h 6 2 = 0xA1) &&
  decide (leAt h 8 4 = (s.rd (Reg.UCS_ID b)).toNat / 65536) && decide (leAt h 0x0C 4 ≠ 0) && bitAt (leAt h 0x14 1) b &&
  decide (leAt h 0x17 1 = 0) && bodyBytesOk (leAt h 0x18 4) && decide (leAt h 0x28 88 = 0)

/-- Whole length of a bundle (R199). -/
def bundleLen (h : List Byte) : Nat := 128 + leAt h 0x18 4 + 16 + 96

/-- The checks of Table 7-5 on a bundle's bytes, in table order: the result, 1 for none. -/
def State.bundleResult (s : State) (b : Nat) (h : List Byte) (v : BundleCheck) (bad : Bool) : Nat :=
  if !s.bundleHeaderOk b h then 5
  else if leAt h 0x10 4 < s.sec.fuses.errataMin then 6
  else if bad then 0x0C
  else if !v.sig ∨ 4 ≤ leAt h 0x16 1 ∨ bitAt s.sec.fuses.revoke (leAt h 0x16 1) then 7
  else if !v.tag then 8
  else if !v.body then 9
  else if 8 < leAt h 0x15 1 then 0x0A
  else if !v.readBack then 0x0B
  else 1

/-- The bytes of a reload's source: a LOCAL address of a stack in service, or the active Archive slot; none is SOURCE. -/
def State.bundleSource (s : State) (b : Nat) : Option (List Byte × Bool × Bool) × State :=
  if s.flag (F.UCS_CMD_SOURCE b) then
    let a := s.f (F.UCS_SRC_HI_ADDR b) * 2 ^ 32 + s.f (F.UCS_SRC_LO_ADDR b) * 64
    if !localOk a 128 || !s.stkUp (stackOf a) then (none, s)
    else
      let ((h, hbad, _), s) := s.stkRead a 5 128
      let n := bundleLen h
      if !bodyBytesOk (leAt h 0x18 4) || !localOk a n then (some (h, hbad ≠ [], false), s)
      else
        let ((bs, bad, _), s) := s.stkRead a 5 n
        (some (bs, hbad ≠ [], bad ≠ []), s)
  else match s.arch.activeSlot errataBase with
    | some p => (some (s.arch.bytes p.1 (Nat.min 0xFFF8 (bundleLen (s.arch.bytes p.1 128))), false, false), s)
    | none => (none, s)

/-- A cluster takes a bundle (R202): its version, generation and digest are in force. -/
def State.bundleTake (s : State) (b : Nat) (h : List Byte) (digest : Nat) : State :=
  let s := ((s.wr (Reg.UCS_BUNDLE_VER b) (BitVec.ofNat 32 (leAt h 0x0C 4))).wr (Reg.UCS_GEN b) (BitVec.ofNat 32 (leAt h 0x10 4))).wr
    (Reg.UCS_CORR_CNT b) 0
  (List.range 12).foldl (fun s i => s.wr (Reg.UCS_DIGEST b i) (BitVec.ofNat 32 (digest / 2 ^ (32 * i)))) s

/-- The cluster runs ROM only (R201, R202): no patch in force. -/
def State.bundleNone (s : State) (b : Nat) : State :=
  let s := ((s.wr (Reg.UCS_BUNDLE_VER b) 0).wr (Reg.UCS_GEN b) 0).wr (Reg.UCS_CORR_CNT b) 0
  (List.range 12).foldl (fun s i => s.wr (Reg.UCS_DIGEST b i) 0) s

/-- A reload ends: RESULT, source 0x0CD + b, and READY with the contexts IDLE; a fence set meanwhile keeps them OFF. -/
def State.reloadEnd (s : State) (b res : Nat) : State :=
  let s := ((s.setFlag (F.UCS_CMD_RELOAD b) false).setF (F.UCS_STATUS_RESULT b) res).irq (0xCD + b)
  if s.fenced (unitCode 4 b) then s.setF (F.UCS_STATUS_STATE b) 3
  else (s.setF (F.UCS_STATUS_STATE b) 2).each 4 (fun i s => s.setCtxState (4 * b + i) .idle)

/-- UCS_RELOAD (R203, R204, Table 2-17): BUSY or MODE, else the four contexts go OFF and the load starts. A RELOAD while one runs
changes nothing (DEDUCED, notes/assumptions/38.md). -/
def execUcsReload (b : Nat) (w : BusWrite) (s : State) : Host.Outcome State Fault Refusal :=
  .next (s.onWrite (Reg.UCS_CMD b) w (fun s =>
    if !bitAt w.data.toNat 0 ∨ s.flag (F.UCS_CMD_RELOAD b) then s
    else if (List.range 4).any (fun i => (s.ctxState (4 * b + i)).active) then (s.setF (F.UCS_STATUS_RESULT b) 2).irq (0xCD + b)
    else if !decide (s.mode ∈ [.idle, .armed, .run, .paused, .characterise]) then (s.setF (F.UCS_STATUS_RESULT b) 3).irq (0xCD + b)
    else
      let s := ((s.setFlag (F.UCS_CMD_RELOAD b) true).setF (F.UCS_STATUS_STATE b) 1).istAbandonCluster b
      s.each 4 (fun i s => (s.offCtx (4 * b + i) false).onCtx (4 * b + i) (fun x => { x with trap := none, trapsHeld := [] }))))

/-- UCS_RELOAD_DONE (R202, R203, R205): the load ends DONE, and persists where asked; or it is refused and the active Archive slot
is loaded, and where that is refused too the cluster is fenced (its cause is DEDUCED, notes/assumptions/38.md). `v` and `v2` are
what the keyed checks of the two bundles find. -/
def execUcsReloadDone (b : Nat) (v v2 : BundleCheck) (s : State) : Host.Outcome State Fault Refusal :=
  .next (
    if !s.flag (F.UCS_CMD_RELOAD b) ∨ s.f (F.UCS_STATUS_STATE b) ≠ 1 then s
    else
      let lib := s.flag (F.UCS_CMD_SOURCE b)
      let (src, s) := s.bundleSource b
      let res := match src with
        | some (bs, hbad, bad) => if hbad then 0x0C else s.bundleResult b bs v bad
        | none => 4
      match src, res with
      | some (bs, _, _), 1 =>
        let s := ((s.bundleTake b bs v.digest).setFlag (F.UCS_STATUS_INTEGRITY b) false).reloadEnd b 1
        if lib && s.flag (F.UCS_CMD_PERSIST b) then s.writeSlot .errata errataBase b bs else s
      | _, _ =>
        let s := s.bundleNone b
        match s.arch.activeSlot errataBase with
        | none => ((s.setFlag (F.UCS_CMD_RELOAD b) false).setF (F.UCS_STATUS_RESULT b) res).irq (0xCD + b) |>.raise
            { unit := unitCode 4 b, cause := 0x15, cls := 2 }
        | some p =>
          let h := s.arch.bytes p.1 128
          if !bitAt (leAt h 0x14 1) b then s.reloadEnd b res
          else if s.bundleResult b h v2 false = 1 then (s.bundleTake b h v2.digest).reloadEnd b res
          else (((s.setFlag (F.UCS_CMD_RELOAD b) false).setF (F.UCS_STATUS_RESULT b) res).irq (0xCD + b)).raise
            { unit := unitCode 4 b, cause := 0x15, cls := 2 })

end Sys2Proof.Machine
end

