-- ==== Sys2Proof/Machine/Security.lean ====
section
/-! DEFINITION. Fuses, the licence, the write-once lock, the host's commands to the Archive, the Archive's own writes as they
complete, the supply sag and the SMBus target (21_security_and_archive.md). -/
namespace Sys2Proof.Machine

/-! ### Fuses -/

/-- SEC_MIN shows the fuses (Table 21-2). -/
def State.showFuses (s : State) : State :=
  let f := s.sec.fuses
  ((s.setF F.SEC_MIN_REVOKE f.revoke).setF F.SEC_MIN_ERRATA_MIN f.errataMin).setF F.SEC_MIN_BOOT_MIN f.bootMin

/-- The refusal of a fuse command, by Table 21-6; 0 for none (R571). A REVOKE names a slot by its number (DEDUCED,
notes/assumptions/49.md). -/
def State.fuseRefusal (s : State) (op v : Nat) : Nat :=
  if s.mode ≠ .idle then 4
  else if s.arch.inhibit then 5
  else match op with
    | 1 => if s.sec.imageVer < Nat.max s.sec.fuses.bootMin (Nat.min v 64) then 2 else 0
    | 2 => if (List.range 4).any (fun b => decide (s.f (F.UCS_STATUS_STATE b) ≠ 0) &&
        decide ((s.rd (Reg.UCS_GEN b)).toNat < Nat.max s.sec.fuses.errataMin (Nat.min v 64))) then 2 else 0
    | _ => if 15 ≤ setBits s.sec.fuses.revoke v 1 1 ∧ v < 4 then 3 else 0

/-- A write of SEC_FUSE_CMD: GO starts a command, or refuses it (R571). -/
def State.fuseCommand (s : State) (w : BusWrite) : State :=
  if s.sec.fuseCmd.isSome then s.onPlain Reg.SEC_FUSE_CMD w id
  else s.onWrite Reg.SEC_FUSE_CMD w (fun s =>
    let op := s.f F.SEC_FUSE_CMD_OP
    let v := s.f F.SEC_FUSE_CMD_VALUE
    if !w.data.getLsbD 31 || decide (op = 0) then s
    else
      let r := s.fuseRefusal op v
      if r ≠ 0 then s.setF F.SEC_FUSE_CMD_RESULT r
      else
        let s := (s.setFlag F.SEC_FUSE_CMD_GO true).setF F.SEC_FUSE_CMD_RESULT 0
        { s with sec := { s.sec with fuseCmd := some (op, v) } })

/-- RAISE_BOOT (R571). -/
def execFuseRaiseBoot (w : BusWrite) (s : State) : Host.Outcome State Fault Refusal := .next (s.fuseCommand w)
/-- RAISE_ERRATA (R571). -/
def execFuseRaiseErrata (w : BusWrite) (s : State) : Host.Outcome State Fault Refusal := .next (s.fuseCommand w)
/-- REVOKE (R571). -/
def execFuseRevoke (w : BusWrite) (s : State) : Host.Outcome State Fault Refusal := .next (s.fuseCommand w)

/-- Program a fuse field: bits only go from 0 to 1 (R570). -/
def Fuses.program (f : Fuses) (op v : Nat) : Fuses :=
  match op with
  | 1 => { f with bootMin := Nat.max f.bootMin (Nat.min v 64) }
  | 2 => { f with errataMin := Nat.max f.errataMin (Nat.min v 64) }
  | _ => if v < 4 then { f with revoke := setBits f.revoke v 1 1 } else f

/-- FUSE_PROGRAM_DONE (R570, R571): an accepted command ends DONE and the new value reads back. -/
def execFuseProgramDone (s : State) : Host.Outcome State Fault Refusal :=
  .next (
    match s.sec.fuseCmd with
    | none => s
    | some (op, v) =>
      let s : State := { s with sec := { s.sec with fuses := s.sec.fuses.program op v, fuseCmd := none } }
      ((s.setFlag F.SEC_FUSE_CMD_GO false).setF F.SEC_FUSE_CMD_RESULT 1).showFuses)

/-! ### The licence -/

/-- A licence body of valid content (R575); the keyed checks are the operand `ok` of the command. -/
def State.licenceBodyOk (s : State) (body : List Byte) : Bool :=
  s.sec.fuses.provisioned && decide (s.sec.fuses.licHash ≠ 0) && decide (leAt body 0 8 = s.sec.fuses.serial) &&
    decide (3600 ≤ leAt body 0x18 4 ∧ leAt body 0x18 4 ≤ 2678400) && decide (144 ≤ body.length)

/-- A licence comes into force: MTR_CFG, MTR_LEN, MTR_EPOCH and MTR_OPT take its values (R576). -/
def State.licenceLoad (s : State) (body : List Byte) : State :=
  let e := leAt body 0x10 6
  let s := ((s.setF F.MTR_LEN_LEN (leAt body 0x18 4)).setF F.MTR_EPOCH_LO (e % 2 ^ 32)).setF F.MTR_EPOCH_HI (e / 2 ^ 32)
  let s := s.each 16 (fun i s =>
    let v := leAt body (0x20 + 4 * i) 4
    ((s.setFlag (F.MTR_OPT_EN i) (bitAt v 31)).setF (F.MTR_OPT_KIND i) (v / 2 ^ 24)).setF (F.MTR_OPT_BAYS i) v)
  let s := s.setFlag F.MTR_CFG_EN true
  { s with sec := { s.sec with licence := some (leAt body 8 4, leAt body 0x0C 4) } }

/-- The blob at a LOCAL address: header, ciphertext, tag and signature (R575, R199), where it reads. -/
def State.licenceBlob (s : State) (a : Nat) : Option (List Byte) × State :=
  if !localOk a 128 || !s.stkUp (stackOf a) then (none, s)
  else
    let ((h, hbad, _), s) := s.stkRead a 5 128
    let n := bundleLen h
    if hbad ≠ [] ∨ leAt h 0 4 ≠ 0x434C4B56 ∨ leAt h 4 2 ≠ 1 ∨ 0xFFF8 < n ∨ !localOk a n then (none, s)
    else
      let ((bs, bad, _), s) := s.stkRead a 5 n
      (if bad = [] then some bs else none, s)

/-- LICENCE_INSTALL (R577): Idle only; the same LIC_ID with a higher LIC_SEQ seals the open period, another LIC_ID erases the
metering partition and starts at period 0; the blob goes into the inactive slot. A blob that does not read is INVALID (DEDUCED,
notes/assumptions/50.md). -/
def execLicenceInstall (w : BusWrite) (ok : Bool) (body : List Byte) (s : State) : Host.Outcome State Fault Refusal :=
  .next (s.onWrite Reg.SEC_LIC_CMD w (fun s =>
    if !w.data.getLsbD 0 then s
    else if s.mode ≠ .idle then s.setF F.SEC_LIC_STATUS_RESULT 4
    else
      let (blob, s) := s.licenceBlob (s.f F.SEC_LIC_SRC_HI_ADDR * 2 ^ 32 + s.f F.SEC_LIC_SRC_LO_ADDR * 64)
      match blob with
      | none => s.setF F.SEC_LIC_STATUS_RESULT 2
      | some bs =>
        if !ok || !s.licenceBodyOk body then s.setF F.SEC_LIC_STATUS_RESULT 2
        else
          let same := match s.sec.licence with
            | some l => decide (l.1 = leAt body 8 4)
            | none => false
          let older := match s.sec.licence with
            | some l => decide (leAt body 0x0C 4 ≤ l.2)
            | none => false
          if same && older then s.setF F.SEC_LIC_STATUS_RESULT 3
          else
            let s :=
              if same then (s.sealPeriod (s.boundaryAbove s.meter.g)).licenceLoad body
              else
                let s := s.onArch (fun a => a.enqueue { writer := .journal, addr := 0, data := [],
                                                        erase := (List.range 16).map (fun k => journalBase + 0x10000 * k) })
                let s := s.licenceLoad body
                s.onMeter (fun _ => { start := s.boundaryBelow s.clk.sec })
            (s.writeSlot .licence licenceBase (leAt body 0x0C 4) bs).setF F.SEC_LIC_STATUS_RESULT 1))

/-- SEC_LOCK_WRITE (R582, R613): the register takes one write until Cold; what its bits stop stands where they are read. -/
def execSecLockWrite (w : BusWrite) (s : State) : Host.Outcome State Fault Refusal := .next (s.onWrite Reg.SEC_LOCK w id)

/-! ### The host's Archive commands -/

/-- The partitions READ admits: every one but PTABLE and the reserved ranges (Table 21-4, Table 21-5). -/
def partitions : List (Nat × Nat) :=
  [(0x10000, 0x10000), (0x20000, 0x10000), (0x30000, 0x20000), (0x50000, 0x20000), (0x80000, 0x80000), (0x100000, 0xC0000),
   (0x1C0000, 0x80000), (0x240000, 0x100000), (0x400000, 0x800000), (0xC00000, 0x800000), (0x1400000, 0x2C00000)]

/-- A range lies within one partition. -/
def within (p : Nat × Nat) (a n : Nat) : Bool := decide (p.1 ≤ a ∧ a + n ≤ p.1 + p.2 ∧ a < p.1 + p.2)

/-- The boot partition not in use (R585); with none in use, that of image A (DEDUCED, notes/assumptions/51.md). -/
def State.spareImage (s : State) : Nat := if s.sec.image = 1 then 0xC00000 else 0x400000

/-- The refusal of a host command (R574, R582, R585, R587, Table 21-5), 0 for none; their order is DEDUCED
(notes/assumptions/51.md). -/
def State.nvsRefusal (s : State) (op a n : Nat) : Nat :=
  if s.sys.recovery ∧ op ≠ 1 ∧ op ≠ 4 then 6
  else if s.arch.inhibit then 4
  else if s.flag F.SEC_LOCK_ARCH ∧ op ≠ 1 then 3
  else match op with
    | 1 => if partitions.any (fun p => within p a n) then 0 else 2
    | 2 => if within (0x1400000, 0x2C00000) a n then 0 else 2
    | 3 => if within (0x1400000, 0x2C00000) a 1 then 0 else 2
    | _ => if 0x800000 < n then 2 else 0

/-- A write of NVS_CMD: GO starts a command, or refuses it (R585). A write while one runs changes nothing, and an OP outside
Table 21-5 starts nothing (DEDUCED, notes/assumptions/51.md). -/
def State.nvsCommand (s : State) (w : BusWrite) : State :=
  if s.arch.hostOp.isSome then s.onPlain Reg.NVS_CMD w id
  else s.onWrite Reg.NVS_CMD w (fun s =>
    let op := s.f F.NVS_CMD_OP
    let a := s.f F.NVS_ADDR_ADDR
    let n := s.f F.NVS_LEN_LEN
    if !w.data.getLsbD 31 || !decide (1 ≤ op ∧ op ≤ 4) then s
    else
      let r := s.nvsRefusal op a n
      if r ≠ 0 then s.setF F.NVS_STATUS_RESULT r
      else
        let hi := if s.sys.recovery then s.f F.NVS_BUF_HI_ADDR else s.f F.NVS_BUF_HI_ADDR % 2 ^ 20
        ((s.setFlag F.NVS_CMD_GO true).setF F.NVS_STATUS_RESULT 0).onArch (fun x =>
          { x with hostOp := some (op, a, n, hi * 2 ^ 32 + s.f F.NVS_BUF_LO_ADDR * 64) }))

/-- NVS_READ (R585). -/
def execNvsRead (w : BusWrite) (s : State) : Host.Outcome State Fault Refusal := .next (s.nvsCommand w)
/-- PROGRAM (R585). -/
def execNvsProgram (w : BusWrite) (s : State) : Host.Outcome State Fault Refusal := .next (s.nvsCommand w)
/-- ERASE (R585). -/
def execNvsErase (w : BusWrite) (s : State) : Host.Outcome State Fault Refusal := .next (s.nvsCommand w)
/-- WRITE_IMAGE (R585). -/
def execNvsWriteImage (w : BusWrite) (s : State) : Host.Outcome State Fault Refusal := .next (s.nvsCommand w)

/-- The checks of R572 on an image's header: MAGIC, VERSION, TARGET_REV and IMAGE_VER. -/
def State.imageHeaderOk (s : State) (bs : List Byte) : Bool :=
  decide (leAt bs 0 4 = 0x49424B56) && decide (leAt bs 4 2 = 1) && decide (leAt bs 6 2 = 0xA1) &&
    decide (s.sec.fuses.bootMin ≤ leAt bs 8 4) && decide (128 ≤ bs.length)

/-- The bytes at the buffer of a command, and whether they read good: host memory in recovery service, a LOCAL address else. -/
def State.nvsSource (s : State) (buf n : Nat) (data : List Byte) : (List Byte × Bool) × State :=
  if s.sys.recovery then ((data.take n, decide (data.length = n)), s.hostFetch (n + 1) buf n)
  else if !localOk buf n || !s.stkUp (stackOf buf) then (([], false), s)
  else
    let ((bs, bad, far), s) := s.stkRead buf 5 n
    ((bs, decide (bad = [] ∧ far = none)), s)

/-- Write an image into a partition: its sectors erased, its bytes programmed. -/
def Archive.image (a : Archive) (at_ : Nat) (bs : List Byte) : Archive :=
  ((List.range ((bs.length + 0xFFFF) / 0x10000)).foldl (fun (a : Archive) k => a.erase (at_ + 0x10000 * k)) a).program at_ bs

/-- A host command's effect and its RESULT (Table 21-5). A buffer that does not read, or does not take the bytes, ends it
DATA_ERROR; so does an image that fails after its write (DEDUCED, notes/assumptions/51.md). -/
def State.nvsRun (s : State) (op a n buf : Nat) (data : List Byte) (ok readBack : Bool) : State × Nat :=
  match op with
  | 1 =>
    let bs := s.arch.bytes a n
    if s.sys.recovery then (s.hostPut buf bs, 1)
    else if !localOk buf n then (s, 7)
    else
      let (bad, s) := s.stkWrite buf 5 bs (fun _ => false)
      (s, if bad = none then 1 else 7)
  | 2 =>
    let ((bs, good), s) := s.nvsSource buf n data
    if good then (s.onArch (fun x => x.program a bs), 1) else (s, 7)
  | 3 => (s.onArch (fun x => x.erase a), 1)
  | _ =>
    let ((bs, good), s) := s.nvsSource buf n data
    if !good then (s, 7)
    else if !ok || !s.imageHeaderOk bs then (s, 5)
    else (s.onArch (fun x => x.image s.spareImage bs), if readBack then 1 else 7)

/-- A host command ends. -/
def State.nvsEnd (s : State) (r : Nat) : State :=
  ((s.setFlag F.NVS_CMD_GO false).setF F.NVS_STATUS_RESULT r).onArch (fun x => { x with hostOp := none })

/-- NVS_COMMAND_DONE (R585): the command at work completes, behind the Burcel's own writes. -/
def execNvsCommandDone (data : List Byte) (ok readBack : Bool) (s : State) : Host.Outcome State Fault Refusal :=
  .next (
    match s.arch.hostOp with
    | none => s
    | some (op, a, n, buf) =>
      if s.arch.queue ≠ [] then s
      else
        let (s, r) := s.nvsRun op a n buf data ok readBack
        s.nvsEnd r)

/-! ### The Archive's own writes -/

/-- What a write notes as its commit word is written (R205, R539, R541). -/
def State.ownWritten (s : State) (w : OwnWrite) : State :=
  match w.writer with
  | .faultLog => s.wr Reg.FCL_LOG_HEAD (BitVec.ofNat 32 w.tag)
  | .errata => s.setFlag (F.UCS_STATUS_PERSISTED w.tag) true
  | _ => s

/-- The operation under way completes: the erase of a sector, the program of a page of up to 256 bytes, or the commit word; the rest
of the write, or none. -/
def OwnWrite.advance (w : OwnWrite) (a : Archive) : Archive × Option OwnWrite :=
  match w.erase with
  | e :: es =>
    let w := { w with erase := es }
    (a.erase e, if es = [] ∧ w.data = [] ∧ w.commit = [] then none else some w)
  | [] =>
    if w.data ≠ [] then
      let n := 256 - w.addr % 256
      let v := { w with data := w.data.drop n, addr := w.addr + n }
      (a.program w.addr (w.data.take n), if v.data = [] ∧ v.commit = [] then none else some v)
    else (a.program w.commitAddr w.commit, none)

/-- Under the inhibit a calibration copy waits as its bay's flag (R589). -/
def Archive.flagCals (a : Archive) : Archive :=
  let bays := a.queue.filterMap (fun w => match w.writer with
    | .cal b _ => some b
    | _ => none)
  { a with queue := a.queue.filter (fun w => decide (w.writer.rank ≠ 2)),
           calFlags := bays.foldl (fun l b => if b ∈ l then l else l ++ [b]) a.calFlags }

/-- PAGE_PROGRAM_DONE (R515, R539, R584, R587): the program or erase of the write at work completes; its next one starts, or the
next write's, unless the inhibit holds. -/
def execPageProgramDone (s : State) : Host.Outcome State Fault Refusal :=
  .next (
    match s.arch.busy, s.arch.queue with
    | true, w :: qs =>
      let (a, v) := w.advance s.arch
      let a := { a with busy := false, queue := v.toList ++ qs }
      let s : State := { s with arch := (if a.inhibit then a.flagCals else a).start }
      (if v = none then s.ownWritten w else s).showJournal
    | _, _ => s)

/-! ### Supply sag -/

/-- Bytes as the flash is found to hold them. -/
def Archive.found (a : Archive) : Nat → List Byte → Archive
  | _, [] => a
  | at_, b :: bs => Archive.found { a with cells := SMap.put 0xFF a.cells at_ b } (at_ + 1) bs

/-- SUPPLY_SAG_INHIBIT (R587 to R589): no program, erase or fuse programming starts. A page program under way completes; an erase is
not guaranteed to, and is done again. A host command at work or waiting ends SAG, a READ too (DEDUCED, notes/assumptions/52.md). -/
def execSupplySagInhibit (residue : List Byte) (s : State) : Host.Outcome State Fault Refusal :=
  .next (
    if s.arch.inhibit then s
    else
      let a := s.arch
      let s := match a.busy, a.queue, a.hostOp with
        | true, w :: _, _ => match w.erase with
          | e :: _ => s.onArch (fun x => { x.found e (residue.take 0x10000) with busy := false })
          | [] => s
        | _, _, some (2, at_, n, _) => s.onArch (fun x => x.found at_ (residue.take n))
        | _, _, some (3, at_, _, _) => s.onArch (fun x => x.found (at_ / 0x10000 * 0x10000) (residue.take 0x10000))
        | _, _, some (4, _, n, _) => s.onArch (fun x => x.found s.spareImage (residue.take n))
        | _, _, _ => s
      let s := s.onArch (fun x => { x with inhibit := true })
      let s := s.onArch (fun x => match x.busy, x.queue with
        | true, w :: qs => let y := ({ x with queue := qs } : Archive).flagCals
                           { y with queue := w :: y.queue }
        | _, _ => x.flagCals)
      let s := if a.hostOp.isSome then s.nvsEnd 4 else s
      s.showJournal)

/-- SAG_INHIBIT_END (R587, R589): the queued writes run in the order of R585, each flagged bay's copies from its set in force. -/
def execSagInhibitEnd (s : State) : Host.Outcome State Fault Refusal :=
  .next (
    if !s.arch.inhibit then s
    else
      let bays := s.arch.calFlags
      let s := s.onArch (fun x => ({ x with inhibit := false, calFlags := [] } : Archive).start)
      (bays.foldl (fun s b => s.calStoreNext b) s).showJournal)

/-! ### SMBus -/

/-- Port of the SMBus target's answers, by command (the model's own: notes/assumptions/3.md). -/
def smbusPort (cmd : Nat) : Nat := 0x10000000 + cmd % 256

/-- An SMBus read is answered while VDD_AON and VDD_33 are good, Cold included (R586). -/
def State.smbus (s : State) (cmd v : Nat) : State := if s.sys.unpowered then s else s.emit (.answer (smbusPort cmd) v)

/-- SMBUS_IDENTITY_READ (R586): the first 64 bytes of IDENTITY. -/
def execSmbusIdentityRead (s : State) : Host.Outcome State Fault Refusal :=
  .next (s.smbus 1 (ofLe (s.arch.bytes 0x20000 64)))
/-- SMBUS_MODE_READ (R586): SYS_MODE[7:0]. -/
def execSmbusModeRead (s : State) : Host.Outcome State Fault Refusal :=
  .next (s.smbus 2 (s.mode.code + 16 * b2n s.degraded))
/-- SMBUS_TEMP_READ (R586): the pin-die temperature of bay b in whole °C, two's complement. A reading in 0.01 °C is rounded down
(DEDUCED, notes/assumptions/53.md). -/
def execSmbusTempRead (b : Nat) (s : State) : Host.Outcome State Fault Refusal :=
  .next (s.smbus (0x10 + b % 4) (unsigned 8 (s.fs (F.CAL_BAY_TEMP_T (b % 4)) / 100)))
/-- SMBUS_OTHER_READ (R586): 0xFF, where the command is one of the others. -/
def execSmbusOtherRead (cmd : Nat) (s : State) : Host.Outcome State Fault Refusal :=
  .next (if cmd % 256 ∈ [1, 2, 0x10, 0x11, 0x12, 0x13] then s else s.smbus cmd 0xFF)

end Sys2Proof.Machine
end

