-- ==== Sys2Proof/Machine/Stacks.lean ====
section
/-! DEFINITION. The Stacks controller's commands: the scheduler and its row-disturbance control, reads and writes as they
complete, refresh, frequency change, fence and retrain, scrub and mirror windows (09_stacks_controller.md). -/
namespace Sys2Proof.Machine

/-! ### The scheduler -/

/-- 64-byte accesses of one 100 ns interval at a rate of Table 9-6 (R238). -/
def accessesOf (rate : Nat) : Nat := match rate with | 0 => 1520 | 1 => 1280 | 2 => 1040 | _ => 640

/-- Accesses a class's reservation reserves in an interval (R238); CLERK and BULK reserve none (Table 9-1). -/
def State.reserved (s : State) (st cls : Nat) : Nat :=
  ceilDiv (10 * (match cls with
    | 0 => s.f (F.STK_RSV_RDR_R st)
    | 1 => s.f (F.STK_RSV_LDG_R st)
    | 2 => s.f (F.STK_RSV_STG_R st)
    | 3 => s.f (F.STK_RSV_PEER_R st)
    | _ => 0)) 64

/-- A class waits for its throttle before it may activate another row of the bank (R249). -/
def Bank.waits (b : Bank) (cls row : Nat) : Bool :=
  b.openRow ≠ some row && b.throttled.any (fun t => decide (t.1 = cls) && decide (t.2 ≠ 0))

/-- The class's first request that may be served: no earlier request to its granule waits (R242), and no throttle holds it. -/
def Stack.ready (x : Stack) (cls : Nat) : Option Nat :=
  (List.range x.queue.length).find? (fun i =>
    match x.queue[i]? with
    | some r => decide (r.cls = cls) && !(x.queue.take i).any (fun q => decide (q.off / 64 = r.off / 64)) &&
        !(x.bank (x.bankKey r.off)).waits cls (rowOfOff r.off)
    | none => false)

/-- Count one activation in a bank's tracker: the row's own entry, a free one, or the one with the lowest count, whose count the
row inherits (R248). -/
def trackRow (l : List TrackEntry) (row cls : Nat) : List TrackEntry :=
  let bit := fun (m : Nat) => setBits m cls 1 1
  if l.any (fun t => decide (t.row = row)) then
    l.map (fun t => if t.row = row then { t with count := t.count + 1, mask := bit t.mask } else t)
  else if l.length < 32 then l ++ [{ row := row, count := 1, mask := bit 0 }]
  else
    let least := l.foldl (fun m t => Nat.min m t.count) (l.headD { row := 0, count := 0, mask := 0 }).count
    match l.findIdx? (fun t => decide (t.count = least)) with
    | some i => l.set i { row := row, count := least + 1, mask := bit 0 }
    | none => l

/-- STK_RD.THRESH in force (Table 9-12). -/
def State.rdThresh (s : State) (st : Nat) : Nat :=
  let t := s.f (F.STK_RD_THRESH st)
  if t < 512 then 512 else if 32768 < t then 32768 else t
def State.rdGap (s : State) (st : Nat) : Nat := Nat.max 1 (s.f (F.STK_RD_GAP st))

/-- The page predictor's counter at an activation (R245). -/
def Bank.predict (b : Bank) (row : Nat) : Nat :=
  match b.openRow with
  | some r => if r = row then b.c else b.c - 1
  | none => if b.last = some row then Nat.min 3 (b.c + 1) else b.c

/-- A row's entry reaches the threshold: the directed refresh, the throttles, the count and the log (R249). -/
def State.rowDisturb (s : State) (st : Nat) (r : StkReq) : State :=
  let x := s.stk st
  let k := x.bankKey r.off
  let b := x.bank k
  match b.track.find? (fun t => decide (t.row = rowOfOff r.off) && decide (s.rdThresh st ≤ t.count)) with
  | none => s
  | some t =>
    let classes := (List.range 6).filter (fun c => decide (c ≠ 0) && bitAt t.mask c)
    let b := { b with track := b.track.map (fun q => if q.row = t.row then { q with count := 0 } else q),
                      throttled := classes.map (fun c => (c, s.rdGap st)) ++ b.throttled.filter (fun q => !decide (q.1 ∈ classes)),
                      openRow := none, last := some t.row, hold := none }
    let s := (s.setStk st (x.setBank k b)).satInc (F.STK_CNT_DIRREF st)
    let s := s.eachOf classes (fun _ s => s.satInc (F.STK_CNT_THROTTLE st))
    s.stkLogEntry (if bitAt t.mask 0 then 5 else 6) t.mask st (localAddr st (r.off / 64 * 64)) t.count

/-- One access reaches its bank: a row hit, or an activation, which the predictor, the rolling count, the tracker and the class's
throttle see (R245, R247, R248, R249). -/
def State.bankAccess (s : State) (st : Nat) (r : StkReq) : State :=
  let x := s.stk st
  let k := x.bankKey r.off
  let b := x.bank k
  let row := rowOfOff r.off
  let more := x.queue.any (fun q => decide (x.bankKey q.off = k) && decide (rowOfOff q.off = row))
  let mode := s.f (F.STK_PCP_MODE st)
  let hit := decide (b.openRow = some row)
  let c := if hit then b.c else b.predict row
  let stays := more || decide (mode = 1) || (decide (mode ≠ 2) && decide (2 ≤ c))
  let b1 := { b with
    c := c, openRow := if stays then some row else none, last := if stays then b.last else some row,
    hold := if stays && !more && decide (mode ≠ 1) then some (Nat.max 8 (s.f (F.STK_PCP_HOLD st))) else none,
    acts := if hit then b.acts else b.acts + 1,
    track := if hit then b.track else trackRow b.track row r.cls,
    throttled := if hit then b.throttled else b.throttled.map (fun t => if t.1 = r.cls then (t.1, s.rdGap st) else t) }
  let s := s.setStk st (x.setBank k b1)
  if hit then s else s.rowDisturb st r

/-- Serve one access of a class, if it has one that may go; whether it had. -/
def State.serveOne (s : State) (st cls : Nat) : Bool × State :=
  let x := s.stk st
  match x.ready cls with
  | none => (false, s)
  | some i =>
    match x.queue[i]? with
    | none => (false, s)
    | some r => (true, (s.setStk st { x with queue := x.queue.eraseIdx i, starved := SMap.put 0 x.starved cls 0 }).bankAccess st r)

/-- Serve up to n accesses of a class: the accesses left of `cap`. -/
def State.serveClass (s : State) (st cls : Nat) : Nat → Nat → Nat × State
  | 0, cap => (cap, s)
  | _, 0 => (0, s)
  | n + 1, cap + 1 =>
    match s.serveOne st cls with
    | (true, s) => s.serveClass st cls n cap
    | (false, s) => (cap + 1, s)

/-- Serve the remaining capacity in round-robin, one access at a time (R238). -/
def State.serveRound (s : State) (st : Nat) : Nat → State
  | 0 => s
  | cap + 1 =>
    let rr := (s.stk st).rr
    match ((List.range 6).map (fun i => (rr + i) % 6)).find? (fun c => ((s.stk st).ready c).isSome) with
    | none => s
    | some c => ((s.serveOne st c).2.onStk st (fun x => { x with rr := (c + 1) % 6 })).serveRound st cap

/-- The end of an interval for a bank: throttles and held rows run on, and refresh management takes its share (R245, R247, R249). -/
def Bank.interval (b : Bank) (rfm : Nat) : Bank :=
  let b := { b with throttled := b.throttled.map (fun (t : Nat × Nat) => (t.1, t.2 - 1)), acts := if rfm ≠ 0 ∧ rfm ≤ b.acts then b.acts - rfm else b.acts }
  match b.hold with
  | some n => if n ≤ 100 then { b with hold := none, last := b.openRow, openRow := none } else { b with hold := some (n - 100) }
  | none => b

/-- One interval of an ACTIVE stack: starved classes, reservations in precedence, then the rest (R238, R240). -/
def State.serveInterval (s : State) (st : Nat) : State :=
  let cap := accessesOf (s.f (F.STK_STATE_RATE st))
  let late := (List.range 6).filter (fun c => decide (9 ≤ SMap.get 0 (s.stk st).starved c))
  let (cap, s) := late.foldl (fun (r : Nat × State) c => r.2.serveClass st c 1 r.1) (cap, s)
  let (cap, s) := [0, 1, 2, 3].foldl (fun (r : Nat × State) c => r.2.serveClass st c (s.reserved st c) r.1) (cap, s)
  let waits := fun (x : Stack) (c : Nat) => x.queue.any (fun q => decide (q.cls = c))
  let before := (List.range 6).filter (waits (s.stk st))
  let s := s.serveRound st cap
  s.onStk st (fun x => { x with
    banks := x.banks.map (fun p => (p.1, p.2.interval x.rfm)),
    starved := (List.range 6).foldl (fun m c => SMap.put 0 m c (if c ∈ before ∧ waits x c then SMap.get 0 m c + 1 else 0)) x.starved })

/-- STACK_INTERVAL (R238 to R242, R245 to R251): the requests that reach a stack's scheduler join its queue, and an ACTIVE stack
serves one interval; a stack in a frequency change holds them (R253), any other completes them FENCED (R266). -/
def execStackInterval (st : Nat) (reqs : List (Nat × Nat × Bool)) (s : State) : Host.Outcome State Fault Refusal :=
  .next (
    let far := reqs.filter (fun r => !localOk (localAddr st r.2.1) 1)
    let s := s.eachOf far (fun _ s => s.emit (.stk st 3 []))
    let near := reqs.filter (fun r => localOk (localAddr st r.2.1) 1)
    if !s.stkUp st then s.eachOf near (fun _ s => s.emit (.stk st 2 []))
    else
      let s := s.onStk st (fun x => { x with queue := x.queue ++ near.map (fun r => { cls := r.1, off := r.2.1, write := r.2.2 }) })
      if s.stkState st = 2 then s.serveInterval st else s)

/-! ### Reads and writes as they complete -/

/-- STACK_READ (R255, R256, R264, R266): a granule's read completes with the outcome of Table 9-8; in a window in SYNC an UNCORR
is served and mended from the twin. Data under POISON is a free value (Table 9-9). -/
def execStackRead (a cls die code sym die2 code2 : Nat) (s : State) : Host.Outcome State Fault Refusal :=
  .next (
    let g := a / 64 * 64
    let st := stackOf g
    if !localOk a 1 then s.emit (.stk st 3 [])
    else if !s.stkUp st then s.emit (.stk st 2 [])
    else
      let o := if s.badGranule g then 3 else readOutcome die code
      let s := s.stkOutcome g o cls sym
      if o < 3 then s.emit (.stk st 0 (s.ldBytes g 64))
      else
        let t := twin g
        let o2 := if s.badGranule t then 3 else readOutcome die2 code2
        if s.mirrorSync (offsetOf g) && s.stkUp st && s.stkUp (1 - st) then
          let s := s.stkOutcome t o2 cls sym
          if o2 < 3 then
            ((s.putGranule g (s.ldBytes t 64) false).stkLogEntry 9 cls st g 0).emit (.stk st 0 (s.ldBytes t 64))
          else (s.emit (.stk st 1 (leBytes (s.freeBits 512).toNat 64))).nextFree
        else (s.emit (.stk st 1 (leBytes (s.freeBits 512).toNat 64))).nextFree)

/-- One side of a write: `tries` of its attempts met a parity error (R258). The cause code of the fault is stated nowhere: a free
value (notes/assumptions/2.md). -/
def State.writeSide (s : State) (a cls : Nat) (bs : List Byte) (bad : Bool) (tries : Nat) : Nat × State :=
  let st := stackOf a
  if !s.stkUp st then (2, s)
  else if 3 ≤ tries then
    let g := a / 64 * 64
    let cause := (s.freeBits 8).toNat
    (4, ((s.nextFree.stkLogEntry 4 cls st g 0).raise { unit := unitCode 9 st, cause := cause, cls := 1, detail := g % 2 ^ 32 }).stkError st)
  else
    let isBad := bad || (s.badGranule a && decide (bs.length < 64))
    (0, (if isBad then s.stkLogEntry 3 cls st (a / 64 * 64) 0 else s).putGranule a bs bad)

/-- STACK_WRITE (R257, R258, R263, R266): a write within one granule completes on its stack, and in an enabled window on the other
too, with the worse response. -/
def execStackWrite (a cls : Nat) (data : List Byte) (bad : Bool) (tries tries2 : Nat) (s : State) : Host.Outcome State Fault Refusal :=
  .next (
    let bs := data.take (64 - a % 64)
    let st := stackOf a
    if !localOk a 1 then s.emit (.stk st 3 [])
    else
      let (r, s) := s.writeSide a cls bs bad tries
      if (s.windowAt (offsetOf a)).isSome && s.stkUp (1 - st) then
        let (r2, s) := s.writeSide (twin a) cls bs bad tries2
        s.emit (.stk st (if r = 2 then r2 else Nat.max r r2) [])
      else s.emit (.stk st r []))

/-! ### Refresh and temperature -/

/-- REFRESH_DUE (R245, R246): bank k of a stack is refreshed, which closes its row; POSTPONED shows what is still postponed. -/
def execRefreshDue (st k postponed : Nat) (s : State) : Host.Outcome State Fault Refusal :=
  .next (if !s.stkUp st then s
    else (s.onStk st (fun x =>
      let b := x.bank k
      x.setBank k { b with openRow := none, hold := none, last := if b.openRow = none then b.last else b.openRow })).setF
        (F.STK_REF_POSTPONED st) postponed)

/-- STACK_TEMP_READ (R246): above 85 °C the 16 ms window is in force; above 95 °C OVERTEMP and a Correctable fault. -/
def execStackTempRead (st : Nat) (temp : Int) (s : State) : Host.Outcome State Fault Refusal :=
  .next (if s.stkState st = 0 then s
    else
      let s := s.setFlag (F.STK_REF_HOT st) (decide (85 < temp))
      if 95 < temp then (s.setFlag (F.STK_REF_OVERTEMP st) true).raise { unit := unitCode 9 st, cause := 0x09, cls := 1, held := true }
      else s.endCond (unitCode 9 st) 0x09)

/-- TRACKER_WINDOW_END (R248): every tracker clears and every throttle lifts. -/
def execTrackerWindowEnd (st : Nat) (s : State) : Host.Outcome State Fault Refusal :=
  .next (s.onStk st (fun x => { x with banks := x.banks.map (fun p => (p.1, { p.2 with track := [], throttled := [] })) }))

/-! ### Frequency change and training -/

/-- The rate of a shadow set (R252). -/
def State.setRate (s : State) (st t : Nat) : Nat := if t = 0 then s.f (F.STK_TS_A_RATE st) else s.f (F.STK_TS_B_RATE st)

/-- A set comes into force (R253). -/
def State.useSet (s : State) (st t : Nat) : State := (s.setF (F.STK_FREQ_ACTIVE st) t).setF (F.STK_STATE_RATE st) (s.setRate st t)

def State.freqEnd (s : State) (st res : Nat) : State := (s.setFlag (F.STK_FREQ_GO st) false).setF (F.STK_FREQ_RESULT st) res

/-- A change, a retrain or an Arm check is in progress on the device (R253). -/
def State.trainBusy (s : State) : Bool :=
  s.flag (F.STK_FREQ_GO 0) || s.flag (F.STK_FREQ_GO 1) || s.stkRetraining 0 || s.stkRetraining 1
def State.armRunning (s : State) : Bool := (List.range 16).any (fun c => (s.ctx c).arming)

/-- STK_FREQ_GO (R253): with WHEN = 1 the target is recorded; else the change starts in Idle. A stack that is not ACTIVE has
nothing to change: FENCED where it is fenced or off, BUSY while it trains (DEDUCED, notes/assumptions/31.md). -/
def execStkFreqGo (st : Nat) (w : BusWrite) (s : State) : Host.Outcome State Fault Refusal :=
  .next (s.onWrite (Reg.STK_FREQ st) w (fun s =>
    if !bitAt w.data.toNat 8 then s
    else
      let t := s.f (F.STK_FREQ_TARGET st)
      let res := fun r => s.setF (F.STK_FREQ_RESULT st) r
      if s.flag (F.STK_FREQ_WHEN st) then (res 1).onStk st (fun x => { x with target := some t })
      else if s.mode ≠ .idle then res 2
      else if s.trainBusy ∨ s.armRunning then res 3
      else match s.stkState st with
        | 2 => ((s.setFlag (F.STK_FREQ_GO st) true).onStk st (fun x => { x with changing := t })).setStkState st 3
        | 1 => res 3
        | _ => res 5))

/-- FREQ_CHANGE_DONE (R254, R261, R527): `ok`, the new rate trained; `back`, else the previous set did. -/
def execFreqChangeDone (st : Nat) (ok back : Bool) (s : State) : Host.Outcome State Fault Refusal :=
  .next (if !s.flag (F.STK_FREQ_GO st) then s
    else if ok then
      let s := (s.useSet st (s.stk st).changing).freqEnd st 1
      (s.setStkState st 2).stkLogEntry 8 0 st 0 (s.f (F.STK_STATE_RATE st))
    else if back then ((s.freqEnd st 4).setStkState st 2).raiseRecovery (unitCode 9 st) 0x0A 0
    else s.raise { unit := unitCode 9 st, cause := 0x0A, cls := 2 })

/-- A stack trains: a map that differs from the one in force loses the contents (R244). -/
def State.trainMap (s : State) (st : Nat) : State :=
  let lo := (s.rd (Reg.STK_MAP_LO st)).toNat
  let hi := (s.rd (Reg.STK_MAP_HI st)).toNat
  let x := s.stk st
  if x.mapLo = lo ∧ x.mapHi = hi then s
  else (s.stkLose st).onStk st (fun x => { x with mapLo := lo, mapHi := hi })

/-- A stack has trained: banks as after training, a recorded target, contents as they are (R245, R253, R267). -/
def State.trained (s : State) (st : Nat) : State :=
  let t := ((s.stk st).target).getD (s.f (F.STK_FREQ_ACTIVE st))
  let s := (s.useSet st t).onStk st (fun x => { x with target := none, banks := [], starved := [] })
  ((s.setF (F.STK_STATE_CAUSE st) 0).setF (F.STK_STATE_CONTENTS st) 0).setStkState st 2

/-- STACK_TRAINING_DONE (R642, R265): training after the domain turned ON succeeds, with the thresholds the stack reports, or fails. -/
def execStackTrainingDone (st : Nat) (ok : Bool) (rfm : Nat) (s : State) : Host.Outcome State Fault Refusal :=
  .next (if s.stkState st ≠ 1 then s
    else if ok then ((s.trainMap st).onStk st (fun x => { x with rfm := rfm })).trained st
    else s.raise { unit := unitCode 9 st, cause := 0x0A, cls := 2 })

/-! ### Fence and retrain -/

/-- Every folio an armed context may play has both copies, and the reads and reserved writes fit the other stack (Table 2-17, R33,
R212). -/
def State.stkServiceOk (s : State) (st : Nat) : Bool :=
  let cs := (List.range 16).filter (fun c => (s.ctxState c).active)
  let mirrored := cs.all (fun c =>
    let w := s.program c s.leavesOf
    (s.callWords c w).all (fun i => match (s.lookup 5 (s.seqY c i)).1 with
      | some e => decide (entryRes e % 4 = 3)
      | none => true))
  let reads := cs.foldl (fun (r : Rate) c => (r.add ((s.ctx c).rdrTerm.getD 0 (0, 1))).add ((s.ctx c).rdrTerm.getD 1 (0, 1))) (0, 1)
  let sum := reads.add (s.f (F.STK_RSV_LDG_R 0) + s.f (F.STK_RSV_LDG_R 1), 1)
  decide (s.mode ∈ [.idle, .armed, .run, .paused, .characterise]) && mirrored && sum.le (s.stkBandwidth (1 - st), 1) &&
    (!s.catOk || s.catMirror || decide (stackOf s.catBase ≠ st))

/-- RETRAINING starts (R267): the fence goes, requests complete FENCED, windows lose SYNC. -/
def State.retrainStart (s : State) (st : Nat) : State :=
  let s := s.eachOf (s.stk st).queue (fun _ s => s.emit (.stk st 2 []))
  let s := (s.onStk st (fun x => { x with queue := [] })).setFence (unitCode 9 st) none
  let s := s.each 8 (fun w s => s.setFlag (F.STK_MIR_STATUS_SYNC w) false)
  let s := if s.flag (F.STK_STATE_CONTENTS st) then (s.stkErase st).setF (F.PWR_DOM_STATUS_STATE (40 + st)) 2 else s
  (s.trainMap st).setStkState st 4

/-- A write to STK_CTRL (R267, R269). -/
def State.stkCtrl (s : State) (st : Nat) (w : BusWrite) : State :=
  s.onPlain (Reg.STK_CTRL st) w (fun s =>
    let v := w.data.toNat
    let s := if bitAt v 2 then s.eachOf [F.STK_CNT_DIE st, F.STK_CNT_CORR st, F.STK_CNT_UNC st, F.STK_CNT_DIRREF st, F.STK_CNT_THROTTLE st]
      (fun r s => s.setF r 0) else s
    let res := fun r => s.setF (F.STK_STATE_RESULT st) r
    let other := s.fenced (unitCode 9 (1 - st)) || s.stkRetraining (1 - st)
    match bitAt v 0, bitAt v 1 with
    | true, true => res 2
    | true, false => if other || !s.stkServiceOk st then res 2 else (res 1).fenceUnit (unitCode 9 st) 0 true
    | false, true =>
      if other then res 2 else if s.trainBusy then res 3 else if !s.stkServiceOk st then res 2
      else s.retrainStart st
    | false, false => s)

/-- STK_FENCE (R267): a fence with cause HOST, or PRECONDITION. -/
def execStkFence (st : Nat) (w : BusWrite) (s : State) : Host.Outcome State Fault Refusal := .next (s.stkCtrl st w)
/-- STK_RETRAIN (R267): RETRAINING, or PRECONDITION or BUSY. -/
def execStkRetrain (st : Nat) (w : BusWrite) (s : State) : Host.Outcome State Fault Refusal := .next (s.stkCtrl st w)
/-- STK_CLR_CNT (R269): the five counters read 0. -/
def execStkClrCnt (st : Nat) (w : BusWrite) (s : State) : Host.Outcome State Fault Refusal := .next (s.stkCtrl st w)

/-- STACK_RETRAIN_DONE (R267): the stack serves again and every enabled window resynchronises, or it stays fenced. -/
def execStackRetrainDone (st : Nat) (ok : Bool) (s : State) : Host.Outcome State Fault Refusal :=
  .next (if !s.stkRetraining st then s
    else if ok then
      let s := (s.trained st).setF (F.STK_STATE_RESULT st) 1
      s.each 8 (fun w s => if s.flag (F.STK_MIR_BASE_EN w) then s.setF (F.STK_MIR_STATUS_ROWS w) 0 else s)
    else (s.setF (F.STK_STATE_RESULT st) 4).raise { unit := unitCode 9 st, cause := 0x0A, cls := 2 })

/-! ### Scrub, mirror windows and the log -/

/-- SCRUB_PASS (R260, R264): patrol scrub reads one granule; a CORRECTED one is rewritten as it stands. -/
def execScrubPass (a die code sym : Nat) (s : State) : Host.Outcome State Fault Refusal :=
  .next (if s.f F.STK_CFG_SCRUB_H = 0 ∨ localOk a 1 = false ∨ s.stkUp (stackOf a) = false then s
    else
      let g := a / 64 * 64
      if s.badGranule g then
        let t := s.mendGranule g 5
        if t.badGranule g then t.stkOutcome g 3 5 0 else t
      else
        let o := readOutcome die code
        let s := s.stkOutcome g o 5 sym
        if o = 2 then s.putGranule g (s.ldBytes g 64) false else s)

/-- MIRROR_ENABLE (R262, R263): a write to a window's BASE; setting EN starts the copy, clearing it ends the double writes. -/
def execMirrorEnable (win : Nat) (w : BusWrite) (s : State) : Host.Outcome State Fault Refusal :=
  .next (
    let was := s.flag (F.STK_MIR_BASE_EN win)
    s.onWrite (Reg.STK_MIR_BASE win) w (fun s =>
      if was = s.flag (F.STK_MIR_BASE_EN win) then s else s.wr (Reg.STK_MIR_STATUS win) 0))

/-- MIRROR_SYNC_DONE (R263, R257): the copy from stack 0 to stack 1 ends; a granule that read bad is written bad. -/
def execMirrorSyncDone (win : Nat) (s : State) : Host.Outcome State Fault Refusal :=
  .next (
    let b := s.f (F.STK_MIR_BASE_BASE win) * 2097152
    let e := b + s.f (F.STK_MIR_SIZE_SIZE win) * 2097152
    if !s.flag (F.STK_MIR_BASE_EN win) || s.flag (F.STK_MIR_STATUS_SYNC win) || !s.stkUp 0 || !s.stkUp 1 then s
    else
      let within := fun (a : Nat) => decide (b ≤ offsetOf a ∧ offsetOf a < e)
      let src := s.mem.filter (fun p => decide (stackOf p.1 = 0) && within p.1)
      let bads := s.bad.filter (fun p => decide (stackOf (64 * p.1) = 0) && within (64 * p.1))
      let s := bads.foldl (fun s p => (s.stkOutcome (64 * p.1) 3 5 0).stkLogEntry 3 5 1 (twin (64 * p.1)) 0) s
      let s : State := { s with mem := s.mem.filter (fun p => !(decide (stackOf p.1 = 1) && within p.1)),
                                bad := s.bad.filter (fun p => !(decide (stackOf (64 * p.1) = 1) && within (64 * p.1))) }
      let s := src.foldl (fun s p => s.stByte (twin p.1) p.2) s
      let s := bads.foldl (fun s p => s.setBad (twin (64 * p.1)) p.2) s
      (s.setFlag (F.STK_MIR_STATUS_SYNC win) (s.stkUp 0 && s.stkUp 1)).setF (F.STK_MIR_STATUS_ROWS win) (s.f (F.STK_MIR_SIZE_SIZE win)))

/-- STK_LOG_CLR (R261): CLR clears DROPPED. -/
def execStkLogClr (w : BusWrite) (s : State) : Host.Outcome State Fault Refusal :=
  .next (s.onPlain Reg.STK_LOG_STATUS w (fun s => if bitAt w.data.toNat 31 then s.setF F.STK_LOG_STATUS_DROPPED 0 else s))

end Sys2Proof.Machine
end

