-- ==== Sys2Proof/Machine/Boot.lean ====
section
/-! DEFINITION. Boot: the steps of Table 2-11 as they complete (02_modes_and_startup.md R60 to R64). -/
namespace Sys2Proof.Machine

/-- A step failed with a code of Table 2-11. -/
def State.bootErr (s : State) (e : Nat) : State := s.setF F.SYS_BOOT_STATUS_ERR e
def State.bootStep (s : State) (k : Nat) : State := s.setF F.SYS_BOOT_STATUS_STEP k

/-! ### Step 1: fuses and boot image -/

/-- The fuses as the registers show them (Table 21-2, R595). -/
def State.loadFuses (s : State) : State :=
  let f := s.sec.fuses
  let s := (s.wr Reg.SEC_SERIAL_LO (BitVec.ofNat 32 f.serial)).wr Reg.SEC_SERIAL_HI (BitVec.ofNat 32 (f.serial / 2 ^ 32))
  let s := (s.setFlag F.SEC_LIFECYCLE_PROVISIONED f.provisioned).setFlag F.SEC_LIFECYCLE_DEBUG_OFF f.debugOff
  let s := s.each 12 (fun i s => (s.wr (Reg.SEC_KEYHASH i) (BitVec.ofNat 32 (f.rootHash / 2 ^ (32 * i)))).wr (Reg.SEC_KEYHASH (12 + i))
    (BitVec.ofNat 32 (f.licHash / 2 ^ (32 * i))))
  s.showFuses.setFlag F.DBG_STATUS_DAP_EN (!f.debugOff)

/-- The image the boot ROM accepts, A first (R572): 1 A, 2 B, with its version and digest. -/
def State.bootImage (s : State) (r : BootReport) : Option (Nat × Nat × Nat) :=
  let try_ := fun (n base : Nat) (v : Option Nat) =>
    let h := s.arch.bytes base 128
    match v with
    | some d => if s.imageHeaderOk h then some (n, leAt h 8 4, d) else none
    | none => none
  (try_ 1 0x400000 r.imageA).orElse (fun _ => try_ 2 0xC00000 r.imageB)

/-- The accepted image shows (R572, R608). -/
def State.takeImage (s : State) (n ver digest : Nat) : State :=
  let s : State := { s with sec := { s.sec with image := n, imageVer := ver } }
  let s := (s.setF F.SYS_BOOT_STATUS_IMAGE n).wr Reg.SYS_BOOT_VER (BitVec.ofNat 32 ver)
  (s.each 12 (fun i s => s.wr (Reg.SEC_MEASURE i) (BitVec.ofNat 32 (digest / 2 ^ (32 * i))))).bootStep 1

/-! ### Steps 2 and 3: host port and time base -/

/-- Step 2, which a wake skips (R60, R63). -/
def State.bootHost (s : State) (r : BootReport) : State :=
  let s := if s.sys.woke then s
    else
      let s : State := { s.setFlag F.HST_CFG_BAR4 r.bar4 with hp := { s.hp with subsys := r.subsys } }
      if s.flag F.HST_LINK_DL_UP then s
      else (s.bootErr 0x21).raise { unit := 0xE000, cause := 0x0B, cls := 1, held := true }
  s.bootStep 2

/-- Step 3 (R60, R36). -/
def State.bootClock (s : State) (refclk : Bool) : State :=
  (if refclk then s else s.holdover.bootErr 0x31).bootStep 3

/-! ### Step 4: errata -/

/-- What a fence that outlived the reset does to its unit again (R546). -/
def State.fenceAgain (s : State) : State :=
  s.eachOf s.fcl.fences (fun p s => match p.2 with
    | some f => s.fenceEffect p.1 f.cause (decide (f.cause = 0))
    | none => s)

/-- Step 4 for a cluster (R201, R202): the active slot, then the previous one; with no bundle stored it runs ROM only (DEDUCED,
notes/assumptions/64.md). -/
def State.bootErrata (s : State) (r : BootReport) (b : Nat) : State :=
  if s.fenced (unitCode 4 b) then s
  else
    let ready := fun (s : State) => (s.setF (F.UCS_STATUS_STATE b) 2).each 4 (fun k s => s.setCtxState (4 * b + k) .idle)
    let load := fun (at_ : Nat) (v : BundleCheck) =>
      let h := s.arch.bytes at_ 128
      if !bitAt (leAt h 0x14 1) b then some (s.bundleNone b) else
      if s.bundleResult b h v false = 1 then some (s.bundleTake b h v.digest) else none
    match s.arch.activeSlot errataBase with
    | none => ready (s.bundleNone b)
    | some p =>
      let old := s.arch.inactiveSlot errataBase
      match (load p.1 r.errata).orElse (fun _ => if (s.arch.slotSeq old).isSome then load old r.errataOld else none) with
      | some s => ready s
      | none => ((s.bundleNone b).bootErr 0x41).raise { unit := unitCode 4 b, cause := 0x15, cls := 2 }

/-! ### Step 5: calibration, licence, meter, log -/

/-- The bodies of the valid licences in the two slots. -/
def State.licences (s : State) (r : BootReport) : List (List Byte) :=
  [(licenceBase, r.licence0), (licenceBase + 0x10000, r.licence1)].filterMap (fun p =>
    match s.arch.slotSeq p.1, p.2 with
    | some _, some body =>
      let h := s.arch.bytes p.1 128
      if s.licenceBodyOk body && decide (leAt h 0 4 = 0x434C4B56 ∧ leAt h 4 2 = 1) then some body else none
    | _, _ => none)

/-- The licence with the highest LIC_SEQ comes into force, or none (R576). -/
def State.bootLicence (s : State) (r : BootReport) : State :=
  let best := (s.licences r).foldl (fun m l => match m with
    | none => some l
    | some k => if leAt k 0x0C 4 < leAt l 0x0C 4 then some l else some k) none
  match best with
  | some body => s.licenceLoad body
  | none => (s.setFlag F.MTR_CFG_EN false).note 0xE006 0x1C

/-- The meter at Boot (R494, R516): the always-on domain's state stands where it was kept, the journal giving the places of the next
records and what is torn; else the newest record restores it (DEDUCED, notes/assumptions/60.md). -/
def State.bootMeter (s : State) : State :=
  let m := s.meter
  let next := s.arch.jrnSeq
  let t := s.meterRestore
  if s.sys.aonLost then t
  else ({ t with meter := { m with torn := t.meter.torn, ckPos := t.meter.ckPos, sealPos := t.meter.sealPos } } : State).onArch
    (fun a => { a with jrnSeq := Nat.max next a.jrnSeq })

/-- The log at Boot (R540): it goes on after its newest record, and a torn slot there is passed over and noted. -/
def State.bootLog (s : State) : State :=
  let rec_ := fun k => s.arch.bytes (0x1C0000 + 64 * (k % 8192)) 64
  let newest := (List.range 8192).foldl (fun m k => let r := rec_ k; if logValid r then Nat.max m (leAt r 8 4) else m) 0
  let r := rec_ (newest + 1)
  let torn := !logValid r && r.any (fun b => decide (b ≠ 0xFF))
  let s : State := { s with fcl := { s.fcl with torn := s.fcl.torn || torn } }
  (s.wr Reg.FCL_LOG_HEAD (BitVec.ofNat 32 newest)).onArch (fun a =>
    { a with logSeq := if a.queue.any (fun w => decide (w.writer = .faultLog)) then a.logSeq else newest + 1 + b2n torn })

/-- Step 5 (R60, R568, R576, R516). -/
def State.bootStores (s : State) (r : BootReport) : State :=
  let s := s.each 4 (fun b s =>
    let s := s.calLoad b
    if (s.cal b).force.isSome then s
    else (s.bootErr 0x51).raise { unit := unitCode 3 b, cause := 0x15, cls := 1 })
  ((s.bootLicence r).bootMeter).bootStep 5

/-! ### Step 6: the stacks -/

/-- A stack trains (R60, R253, R265); one that is fenced stays fenced (R546). -/
def State.bootStack (s : State) (st : Nat) (ok : Bool) (rfm : Nat) (err : Nat) : State :=
  if s.fenced (unitCode 9 st) ∨ s.mode = .safe then s
  else if ok then ((s.trainMap st).onStk st (fun x => { x with rfm := rfm })).trained st
  else (s.bootErr err).raise { unit := unitCode 9 st, cause := 0x0A, cls := 2 }

/-- Step 6 (R60): two stacks that fail are beyond the budget of Table 19-4, which enters Safe, Chip-fatal. -/
def State.bootStacks (s : State) (r : BootReport) : State :=
  let both := !r.stack0 && !r.stack1
  let e := if both then 0x62 else 0x61
  (s.bootStack 0 r.stack0 r.rfm0 e).bootStack 1 r.stack1 r.rfm1 e

/-! ### Steps 7 and 8 -/

/-- A domain takes its state at step 8 (R63, R64). -/
def State.bootDomain (s : State) (d : Nat) : State :=
  let req := if s.sys.woke then SMap.get 0 s.sys.savedDoms d else 1
  let s := s.setF (F.PWR_DOM_CTRL_REQ d) req
  if req = 0 then s.setDomState d 0
  else if !s.domRails d then
    ((s.setDomState d 0).setF (F.PWR_DOM_STATUS_ERR d) 3).note (unitCode 3 (d - 32)) 0x08
  else if (match domNeeds d with
      | some k => !s.domOn k
      | none => false) then (s.setDomState d 0).setF (F.PWR_DOM_STATUS_ERR d) 1
  else s.setDomState d (domTarget req)

/-- Step 7, and the domains of step 8: pin-die domains first, then every other; ports and lanes start (R60, R64). -/
def State.bootDomains (s : State) : State :=
  let s := [32, 33, 34, 35].foldl State.bootDomain s
  let s := ((List.range 50).filter (fun d => !decide (32 ≤ d ∧ d < 36))).foldl State.bootDomain s
  (s.bootStep 7).eachOf ((List.range 8).map (fun i => 42 + i)) (fun d s => if s.domOn d then s.domainUp d else s)

/-- Every bank that is not fenced is in the state its REQ names (R490). -/
def State.bootBanks (s : State) : State :=
  s.each 64 (fun k s => if s.fenced (unitCode 0xD k) then s else s.setF (F.SPD_BANK_STATE k) (bankTarget (s.f (F.SPD_BANK_REQ k))))

/-- Step 8 (R60, R64, R533, R539, R546): MSI-X is enabled, the mode is Idle, the RESET record is written, and what waited goes on. -/
def State.bootIdle (s : State) : State :=
  let s0 := s
  let s := s.bootDomains.bootBanks
  let s : State := { s with sys := { s.sys with msixOn := true, faultnHeld := false, aonLost := false, woke := false } }
  let s := ((s.bootStep 8).setF F.SYS_MODE_MODE Mode.idle.code).syncAll
  let s := s.logRecord 2 0 0 0 s.sys.modeBeforeCold false 0 (s.rd Reg.SYS_RESET_CAUSE).toNat (s.rd Reg.SYS_BOOT_STATUS).toNat
  let s := s.each 4 (fun b s => s.calStoreNext b)
  let s := s.onArch Archive.start
  let s := s.each 64 (fun v s => s.release v)
  (s.each 1024 (fun i s => s.irqAgain i)).modeIrq s0

/-- BOOT_COMPLETE (R60): the steps of Table 2-11 in order. -/
def execBootComplete (r : BootReport) (s : State) : Host.Outcome State Fault Refusal :=
  .next (
    if s.mode ≠ .boot then s
    else
      let s := s.loadFuses
      match s.bootImage r with
      | none =>
        let s := s.bootErr 0x11
        ({ s with sys := { s.sys with recovery := true } } : State).chipFatal 0xE006 0x1C 0 .ended false
      | some (n, ver, digest) =>
        let s := (((s.takeImage n ver digest).bootHost r).bootClock r.refclk).bootLog.fenceAgain
        let s := (s.each 4 (fun b s => s.bootErrata r b)).bootStep 4
        let s := ((s.bootStores r).bootStacks r)
        if s.mode = .safe then s else (s.bootStep 6).bootIdle)

end Sys2Proof.Machine
end

