-- ==== Sys2Proof/Machine/View.lean ====
section
/-! DEFINITION. What a BAR0 register reads where its value is not stored but follows the state of a unit (each register's chapter;
23_register_reference.md R614, R616, R618). -/
namespace Sys2Proof.Machine

/-- The index of a register in its array, below n. -/
def indexOf (n : Nat) (reg : Nat → Nat) (a : Nat) : Option Nat := (List.range n).find? (fun i => decide (reg i = a))

/-- A level is applied clipped (R72). -/
def State.levelClips (s : State) (ch : Nat) : Bool :=
  let w := (s.chan ch).wideNow
  (List.range 5).any (fun i => decide (clipCode w (s.levelCode ch i) ≠ s.levelCode ch i)) ||
    (!w && decide (19200 < s.levelCode ch 0 - s.levelCode ch 1))

/-- CHN_STATUS (Table 3-14). -/
def State.viewChn (s : State) (ch v : Nat) : Nat :=
  let x := s.chan ch
  let v := setBits (setBitTo v 13 (s.levelClips ch)) 0 3 (s.chanState ch)
  setBitTo (setBitTo (setBitTo v 9 x.cmpH) 8 x.cmpL) 4 (!x.settling)

/-- PMU_STATUS (Table 11-8). -/
def State.viewPmu (s : State) (ch v : Nat) : Nat :=
  let v := setBits (setBitTo v 13 (s.pmuCfgErr ch)) 0 2 (s.pmuState ch)
  setBitTo (setBitTo (setBitTo v 12 (s.pmuCodeRange ch)) 9 (s.pmu ch).clampNow) 4 (!(s.pmu ch).settling)

/-- FCL_STATUS (Table 19-11). -/
def State.viewFcl (s : State) (v : Nat) : Nat :=
  let v := (List.range 4).foldl (fun v k => setBitTo v k (s.pendClass k)) v
  setBitTo (setBitTo v 8 s.faultN) 9 (s.arch.inhibit && decide (s.arch.waiting .faultLog ≠ 0))

/-- FCL_USE (Table 19-11). -/
def State.viewUse (s : State) : Nat :=
  s.fenceCount 3 * 2 ^ 28 + s.fenceCount 9 * 2 ^ 24 + s.fenceCount 0xA * 2 ^ 20 + s.fenceCount 0xC * 2 ^ 16 + s.fenceCount 0xD * 2 ^ 8 +
    s.fenceCount 0xB * 16

/-- An entry of the active table (Table 19-6). -/
def State.entryBytes (s : State) (k : Nat) : List Byte :=
  let e := s.entry k
  leBytes e.unit 2 ++ leBytes e.cls 1 ++ leBytes e.cause 1 ++ leBytes e.count 2 ++
    leBytes (b2n e.valid + 2 * b2n e.uncleared + 4 * b2n (s.condHolds e.cond) + 8 * b2n e.escalated) 1 ++ leBytes e.mode 1 ++
    leBytes e.firstSec 6 ++ leBytes 0 2 ++ leBytes e.firstNs 4 ++ leBytes e.detail 4 ++ leBytes e.lastSec 6 ++ leBytes 0 2

/-- A slice is drained (R296). -/
def State.sliceDrained (s : State) (b : Nat) : Bool :=
  (List.range 21).all (fun t => !s.strEn (21 * b + t) || (decide (s.strLevel (21 * b + t) = 0) && decide ((s.stream (21 * b + t)).buf = [])))

/-- The stack of a stream is fenced or retraining (R298). -/
def State.strFenced (s : State) (k : Nat) : Bool :=
  s.strEn k && decide (s.stkState (stackOf (s.strBase k)) = 4 ∨ s.stkState (stackOf (s.strBase k)) = 5)

/-- CAL_BAY_STATUS.TRIGGERED and AGED (R555, Table 20-8). -/
def State.calAged (s : State) (b : Nat) : Bool :=
  match (s.cal b).force with
  | some x => decide (s.f (F.CAL_BAY_CFG_MAX_AGE b) ≠ 0 ∧ s.f (F.CAL_BAY_CFG_MAX_AGE b) * 86400 < s.clk.sec - x.fullSec)
  | none => false
def State.calTriggered (s : State) (b : Nat) : Bool :=
  match (s.cal b).force with
  | some x => s.calMoved b (s.fs (F.CAL_BAY_TEMP_T b)) x.tcal
  | none => false

/-- NVS_STATUS (Table 21-7). -/
def State.viewNvs (s : State) (v : Nat) : Nat :=
  let a := s.arch
  setBitTo (setBitTo (setBitTo v 0 a.hostOp.isSome) 1 a.inhibit) 2 (a.inhibit && decide (a.queue ≠ [] ∨ a.calFlags ≠ []))

/-- Chunks of the concurrent service's buffer in use: the spec gives no number while descriptors run (a free value of at most 64). -/
def State.bufUsed (s : State) : Nat :=
  if s.dmaConc && s.descs.any (fun p => p.2.running) then (s.freeBits 7).toNat % 65 else 0

/-- The registers whose value follows the state: the array's size, its addresses, and the value from index and stored bits. -/
def State.live (s : State) : List (Nat × (Nat → Nat) × (Nat → Nat → Nat)) :=
  [ (1, fun _ => Reg.SYS_MODE, fun _ v => setBitTo (setBits v 0 4 s.mode.code) 4 s.degraded),
    (1, fun _ => Reg.DMA_MODE, fun _ v => setBitTo v 0 s.dmaConc),
    (1, fun _ => Reg.DMA_BUF, fun _ v => setBits v 0 7 s.bufUsed),
    (1, fun _ => Reg.FCL_STATUS, fun _ v => s.viewFcl v),
    (1, fun _ => Reg.FCL_USE, fun _ _ => s.viewUse),
    (4, Reg.FCL_BAY_USE, fun b _ => s.fenceCount (unitCode 3 b)),
    (2048, Reg.FCL_ACT, fun i _ => leAt (s.entryBytes (i / 8)) (4 * (i % 8)) 4),
    (32, Reg.IRQ_PEND, fun w _ => (List.range 32).foldl (fun v i => setBitTo v i
      (s.flag (F.IRQ_SRC_CFG_EN (32 * w + i)) && decide (s.f (F.IRQ_SRC_CNT_COUNT (32 * w + i)) ≠ 0))) 0),
    (1, fun _ => Reg.NVS_STATUS, fun _ v => s.viewNvs v),
    (4, Reg.CAL_BAY_STATUS, fun b v => setBitTo (setBitTo v 2 (s.calAged b)) 1 (s.calTriggered b)),
    (1, fun _ => Reg.DBG_STATUS, fun _ _ => s.dbgStatus),
    (1, fun _ => Reg.DBG_AON_UNLOCK, fun _ _ => 0),
    (1, fun _ => Reg.DBG_RDR_HALT, fun _ _ => 0),
    (1, fun _ => Reg.WKS_CORE_FENCE, fun _ _ => (List.range 16).foldl (fun v i => setBitTo v i (s.fenced (unitCode 0xC i))) 0),
    (8, Reg.WKS_DEPTH, fun j _ => (s.readyList j).length),
    (1, fun _ => Reg.LIB_CMD_STATUS, fun _ v => setBitTo v 8 s.libInUse),
    (16, Reg.LIB_CTX_STATUS, fun c v => setBits v 0 17 ((SMap.get [] s.lib.staged c).filter (fun x => x.bytes.isSome)).length),
    (16, Reg.RDR_VCNT_LO, fun c _ => (s.ctx c).vcnt),
    (16, Reg.RDR_LCNT_LO, fun c _ => (s.ctx c).lcnt),
    (4, Reg.LDG_SLICE_STATUS, fun b v => setBitTo v 0 (s.sliceDrained b)),
    (64, Reg.LDG_SITE_STATUS, fun i v => setBitTo v 1 (s.flag (F.LDG_SITE_FAIL_FAIL i))),
    (84, fun k => Reg.LDG_STR_STATUS (k / 21) (k % 21), fun k v => setBitTo v 0 (s.strFenced k)),
    (8, Reg.ACQ_SIDX_LO, fun e _ => (s.acq e).sidx),
    (1, fun _ => Reg.NTM_TIME_NS, fun _ _ => s.clk.ns),
    (1, fun _ => Reg.MTR_OPEN_IDX, fun _ _ => s.meter.period),
    (1, fun _ => Reg.WKS_TICK_LO, fun _ _ => s.wks.tick),
    (256, Reg.PMU_STATUS, fun ch v => s.viewPmu ch v),
    (256, Reg.CHN_STATUS, fun ch v => s.viewChn ch v),
    (256, Reg.EDG_STATUS, fun ch v => setBits v 16 8 (s.chan ch).events.length) ]

/-- What a read of a BAR0 address returns, with no side effect (R597): the live value of its register; its reset value while its domain
is not ON (R69, R303, R618); 0 where there is none (R11). -/
def State.read (s : State) (a : Nat) : Word :=
  if s.denyPower (blockOf a) then Reg.resetOf a
  else
    let v := s.rd a
    match s.live.findSome? (fun r => (indexOf r.1 r.2.1 a).map (fun i => r.2.2 i v.toNat)) with
    | some x => BitVec.ofNat 32 x
    | none => v

end Sys2Proof.Machine
end

