-- ==== Sys2Proof/Machine/Bus.lean ====
section
/-! DEFINITION. BAR0 as one address space (23_register_reference.md R607 to R618): a write goes to the meaning of the register it
reaches; and the accesses of the debug access port (22_debug_and_in_service_test.md R594 to R599). -/
namespace Sys2Proof.Machine

/-- The next state of an outcome; the state itself where there is none. -/
def after (o : Host.Outcome State Fault Refusal) (s : State) : State :=
  match o with
  | .next t => t
  | _ => s

/-! ### Writes -/

/-- NTM_CFG takes a write: STATE follows the role (R506), and PPS_OUT falls with its enable (R507). -/
def State.ntmCfgWritten (s : State) : State :=
  let s := s.ntmConfigured
  if s.ntm.pps && !s.flag F.NTM_CFG_PPS_OUT_EN then (s.onNtm (fun n => { n with pps := false })).emit (.ppsOut false) else s

/-- WKS_DLOG_RD takes a write: a count that is no multiple of 8, or that raises the level, is ignored (R274, R482). -/
def State.dlogRdWrite (s : State) (d : Nat) (w : BusWrite) : State :=
  let old := s.rd (Reg.WKS_DLOG_RD d)
  let level := fun (rd : Word) => gap32 rd.toNat (s.dlogWr d)
  s.onWrite (Reg.WKS_DLOG_RD d) w (fun s =>
    if w.data.toNat % 8 ≠ 0 ∨ level old < level w.data then s.wr (Reg.WKS_DLOG_RD d) old else s)

/-- One way a written register acts: how many of it there are, their addresses, and its meaning for one of them. -/
structure Route where
  count : Nat
  reg : Nat → Nat
  act : Nat → BusWrite → Facts → State → State

/-- The registers of the chip's own blocks that act when written. -/
def chipRoutes : List Route :=
  [ ⟨1, fun _ => Reg.SYS_MODE_REQ, fun _ w _ s => s.modeRequest w⟩,
    ⟨50, Reg.PWR_DOM_CTRL, fun d w _ s => s.domRequest d w⟩,
    ⟨1, fun _ => Reg.FCL_CLEAR, fun _ w x s => after (execFclClear w x.gone s) s⟩,
    ⟨1, fun _ => Reg.FCL_FENCE_CMD, fun _ w _ s => s.fenceCommand w⟩,
    ⟨1, fun _ => Reg.FCL_LOG_CTRL, fun _ w _ s => after (execFclLogRead w s) s⟩,
    ⟨1, fun _ => Reg.FCL_ESTOP, fun _ w _ s => s.onWrite Reg.FCL_ESTOP w State.estop⟩,
    ⟨1024, Reg.IRQ_SRC_CNT, fun i w _ s => after (execIrqSrcCntWrite i w s) s⟩,
    ⟨1024, Reg.IRQ_SRC_CFG, fun i w _ s => after (execIrqSrcCfgWrite i w s) s⟩,
    ⟨1, fun _ => Reg.SEC_FUSE_CMD, fun _ w _ s => s.fuseCommand w⟩,
    ⟨1, fun _ => Reg.SEC_LIC_CMD, fun _ w x s => after (execLicenceInstall w x.ok x.body s) s⟩,
    ⟨1, fun _ => Reg.NVS_CMD, fun _ w _ s => s.nvsCommand w⟩,
    ⟨1, fun _ => Reg.MTR_RD_CTRL, fun _ w _ s => after (execMtrRd w s) s⟩,
    ⟨1, fun _ => Reg.NTM_CFG, fun _ w _ s => s.onWrite Reg.NTM_CFG w State.ntmCfgWritten⟩,
    ⟨1, fun _ => Reg.NTM_SET_CTRL, fun _ w _ s => s.setCtrl w⟩,
    ⟨1, fun _ => Reg.CAL_CMD, fun _ w x s => s.calCommand w x.ref⟩,
    ⟨1, fun _ => Reg.DBG_AON_UNLOCK, fun _ w _ s => after (execDbgAonUnlock w s) s⟩,
    ⟨1, fun _ => Reg.DBG_RDR_HALT, fun _ w _ s => after (execDbgRdrHalt w s) s⟩,
    ⟨1, fun _ => Reg.DBG_CLK_HALT, fun _ w _ s => after (execDbgClkHalt w s) s⟩ ]

/-- The registers of the host port, the clerks and the lanes that act when written. -/
def hostRoutes : List Route :=
  [ ⟨256, Reg.HST_RING_CFG, fun r w _ s => after (execRingEnable r w s) s⟩,
    ⟨64, Reg.HST_MSIX_CTRL, fun v w _ s => s.onWrite (Reg.HST_MSIX_CTRL v) w (fun s => s.release v)⟩,
    ⟨1, fun _ => Reg.WKS_CTRL, fun _ w _ s => after (execWksCtrlWrite w s) s⟩,
    ⟨1, fun _ => Reg.WKS_HOST_SUBMIT, fun _ w _ s => after (execWksHostSubmit w s) s⟩,
    ⟨1, fun _ => Reg.WKS_OBS_CTRL, fun _ w _ s => after (execWksObsSnap w s) s⟩,
    ⟨4, Reg.WKS_DLOG_RD, fun d w _ s => s.dlogRdWrite d w⟩,
    ⟨1, fun _ => Reg.SPD_WIN_OP, fun _ w x s => s.winWrite w x.ecc⟩,
    ⟨1, fun _ => Reg.SPD_MARCH, fun _ w _ s => after (execSpdMarch w s) s⟩,
    ⟨64, Reg.SPD_BANK, fun k w _ s => after (execSpdBankReq k w s) s⟩,
    ⟨1, fun _ => Reg.SPD_CNT_CORR, fun _ w _ s => after (execSpdCntWrite false w s) s⟩,
    ⟨1, fun _ => Reg.SPD_CNT_UNC, fun _ w _ s => after (execSpdCntWrite true w s) s⟩,
    ⟨4, Reg.LNK_PORT_CTRL, fun p w _ s => s.portCtrl p w⟩,
    ⟨24, fun i => Reg.LNK_PORT_CRC (i / 6) + 4 * (i % 6), fun i w _ s => after (execLnkPortCountWrite (i / 6) (i % 6) w s) s⟩,
    ⟨16, Reg.LNK_DL_SEARCH, fun j w _ s => after (execLnkDlSearch j w s) s⟩,
    ⟨16, Reg.LNK_DL_ERR, fun j w _ s => after (execLnkDlErrWrite j w s) s⟩,
    ⟨1, fun _ => Reg.GRP_CTRL, fun _ w x s => s.grpCtrl w x.sync x.view x.hops⟩,
    ⟨1, fun _ => Reg.GRP_FTRIG_SW, fun _ w _ s => after (execGrpFtrigSw w s) s⟩,
    ⟨2, Reg.STK_CTRL, fun st w _ s => s.stkCtrl st w⟩,
    ⟨2, Reg.STK_FREQ, fun st w _ s => after (execStkFreqGo st w s) s⟩,
    ⟨8, Reg.STK_MIR_BASE, fun i w _ s => after (execMirrorEnable i w s) s⟩,
    ⟨1, fun _ => Reg.STK_LOG_STATUS, fun _ w _ s => after (execStkLogClr w s) s⟩,
    ⟨1, fun _ => Reg.LIB_CMD_OP, fun _ w _ s => s.libWrite w⟩,
    ⟨1, fun _ => Reg.LIB_CONC_CMD, fun _ w _ s => after (execConcLoad w s) s⟩,
    ⟨4, Reg.TIM_CTRL, fun t w _ s => after (if s.timArmed t then execTimStop t w s else execTimArm t w s) s⟩,
    ⟨1, fun _ => Reg.TIM_XO_OFF, fun _ w _ s => after (execTimXoWrite false w s) s⟩,
    ⟨1, fun _ => Reg.TIM_XO_AGE, fun _ w _ s => after (execTimXoWrite true w s) s⟩ ]

/-- The registers of the bays that act when written. -/
def bayRoutes : List Route :=
  [ ⟨16, Reg.RDR_CTRL, fun c w _ s => s.rdrCtrlWrite c w⟩,
    ⟨16, Reg.RDR_HOSTFLAG, fun c w _ s => after (execRdrHostflagWrite c w s) s⟩,
    ⟨4, Reg.UCS_CMD, fun b w _ s => after (execUcsReload b w s) s⟩,
    ⟨64, Reg.LDG_SITE_QUOTA, fun i w _ s => after (execLdgSiteQuotaWrite i w s) s⟩,
    ⟨64, Reg.LDG_SITE_STATUS, fun i w _ s => after (execFfClr i w s) s⟩,
    ⟨64, Reg.LDG_SITE_FAIL, fun i w _ s => after (execLdgSiteFailWrite i w s) s⟩,
    ⟨64, Reg.LDG_SITE_DROP, fun i w _ s => after (execLdgSiteDropWrite i w s) s⟩,
    ⟨84, fun k => Reg.LDG_STR_CFG (k / 21) (k % 21), fun k w _ s => after (execLdgStrEnable k w s) s⟩,
    ⟨84, fun k => Reg.LDG_STR_DR (k / 21) (k % 21), fun k w _ s => after (execLdgStrDrWrite k w s) s⟩,
    ⟨8, Reg.ACQ_CTRL, fun e w _ s => after (if s.acqArmed e then execAcqStop e w s else execAcqArm e w s) s⟩,
    ⟨256, Reg.PMU_CTRL, fun ch w _ s => after (execPmuCtrlWrite ch w s) s⟩,
    ⟨256, Reg.PMU_FORCE, fun ch w _ s => after (execPmuForceWrite ch w s) s⟩,
    ⟨256, Reg.PMU_CLAMP, fun ch w _ s => after (execPmuClampWrite ch w s) s⟩,
    ⟨16, fun i => Reg.PMU_SENSE (i / 4) (i % 4), fun i w _ s => after (execPmuSenseWrite (i / 4) (i % 4) w s) s⟩,
    ⟨256, Reg.FLT_CH, fun ch w _ s => after (execFltChWrite ch w s) s⟩,
    ⟨4, Reg.FLT_BANK, fun b w _ s => after (execFltBankSwap b w s) s⟩,
    ⟨256, Reg.CHN_CTRL, fun ch w _ s => after (execChnCtrlWrite ch w s) s⟩,
    ⟨256, Reg.CHN_TERM, fun ch w _ s => after (execChnTermWrite ch w s) s⟩,
    ⟨256, Reg.CHN_PARK, fun ch w _ s => after (execChnParkWrite ch w s) s⟩,
    ⟨1280, fun i => Reg.CHN_VIH (i / 5) + 4 * (i % 5), fun i w _ s => after (execChnLevelWrite (i / 5) (i % 5) w s) s⟩,
    ⟨256, Reg.CHN_STATIC, fun ch w _ s => after (execChnStaticWrite ch w s) s⟩,
    ⟨256, Reg.CHN_FENCE, fun ch w _ s => s.chnFenceWrite ch w⟩ ]

/-- SYS_DENY_STATUS takes a write: 1 to DENIED clears the whole record (R610). -/
def State.denyStatusWrite (s : State) (w : BusWrite) : State :=
  s.onWrite Reg.SYS_DENY_STATUS w (fun s =>
    if w.data.getLsbD 31 then ((s.wr Reg.SYS_DENY_STATUS 0).wr Reg.SYS_DENY_ADDR 0).wr Reg.SYS_DENY_DATA 0 else s)

/-- A BAR0 write, whatever register it reaches: the meaning of that register, or its access codes alone (R10, R607). -/
def State.write (s : State) (a : Nat) (w : BusWrite) (x : Facts) : State :=
  if a = Reg.SYS_DENY_STATUS then s.denyStatusWrite w
  else
    let routes := if a < 0x80000 then chipRoutes else if a < 0x100000 then hostRoutes else bayRoutes
    match routes.findSome? (fun r => (indexOf r.count r.reg a).map (fun i => (r, i))) with
    | some (r, i) => r.act i w x s
    | none => s.onWrite a w id

/-- REGISTER_WRITE (R10, R437, R607). -/
def execRegisterWrite (a : Nat) (w : BusWrite) (x : Facts) (s : State) : Host.Outcome State Fault Refusal := .next (s.write a w x)

/-- SYS_DENY_CLEAR (R610). -/
def execSysDenyClear (w : BusWrite) (s : State) : Host.Outcome State Fault Refusal := .next (s.denyStatusWrite w)

/-- A write raises a denied write (R596, R610): it opens the record where none is open. -/
def State.isDenied (s : State) (act : State → State) : Bool := (act (s.wr Reg.SYS_DENY_STATUS 0)).flag F.SYS_DENY_STATUS_DENIED

/-! ### Consuming reads -/

/-- What a consuming read of a latching register does (R597); the value itself is the one a peek returns, but for LNK_DL_BITS_LO,
whose counts the read command carries. -/
def readRoutes : List Route :=
  [ ⟨1, fun _ => Reg.NTM_TIME_NS, fun _ _ _ s => after (execNtmTimeRead false s) s⟩,
    ⟨1, fun _ => Reg.MTR_OPEN_IDX, fun _ _ _ s => after (execMtrOpenIdxRead false s) s⟩,
    ⟨1, fun _ => Reg.WKS_TICK_LO, fun _ _ _ s => after (execWksTickRead s) s⟩,
    ⟨16, Reg.LNK_DL_BITS_LO, fun j _ x s => after (execLnkDlBitsRead j x.bits x.errs s) s⟩,
    ⟨4, Reg.TIM_RES_SEQ, fun t _ _ s => after (execTimResSeqRead t false s) s⟩,
    ⟨16, Reg.RDR_VCNT_LO, fun c _ _ s => after (execRdrVcntRead c false s) s⟩,
    ⟨16, Reg.RDR_LCNT_LO, fun c _ _ s => after (execRdrVcntRead c true s) s⟩,
    ⟨64, Reg.LDG_SITE_FAIL, fun i _ _ s => after (execLdgSiteFailRead i false s) s⟩,
    ⟨8, Reg.ACQ_SIDX_LO, fun e _ _ s => after (execAcqSidxRead e s) s⟩ ]

/-- The state after a host read of a BAR0 address, and what it returns (R597). A register that answers nothing latches nothing. -/
def State.consume (s : State) (a : Nat) (x : Facts) : Word × State :=
  if s.denyPower (blockOf a) then (s.read a, s)
  else
    match readRoutes.findSome? (fun r => (indexOf r.count r.reg a).map (fun i => (r, i))) with
    | none => (s.read a, s)
    | some (r, i) =>
      let t := r.act i ⟨.host, true, 0⟩ x s
      let v := match t.out.getLast? with
        | some (.answer p v) => if p = a then BitVec.ofNat 32 v else s.read a
        | _ => s.read a
      (v, { t with out := s.out })

/-! ### The debug access port -/

/-- What an access captures (Table 22-3). -/
def dapWord (status a : Nat) (data : Word) : Nat := status * 2 ^ 60 + a % 2 ^ 26 * 2 ^ 32 + data.toNat

/-- A DAP write (R596, R598, R599): KEY1 and KEY2 first with PAIR. -/
def State.dapWrite (s : State) (pair : Bool) (a : Nat) (data : Word) (x : Facts) : State :=
  let s := if pair then (s.unlockKey 16 0xA5C3).unlockKey 16 0x3C5A else s
  s.write a ⟨.dap, true, data⟩ x

/-- The access of a DAP_ACCESS scan: STATUS, the captured data and the state (R594 to R597; where two refusals apply, in the order
DISABLED, ALIGN, POWER: DEDUCED, notes/assumptions/65.md). -/
def State.dapPerform (s : State) (write consume pair : Bool) (a : Nat) (data : Word) (x : Facts) : Nat × Word × State :=
  if !s.dapEnabled then (2, 0, s)
  else
    let s := s.setFlag F.DBG_STATUS_DAP_USED true
    if a % 4 ≠ 0 then (5, 0, s)
    else if s.barDown a .dap then (3, 0, s)
    else if write then
      let act := fun (s : State) => s.dapWrite pair a data x
      (if s.isDenied act then 4 else 0, 0, act s)
    else if consume then
      let r := s.consume a x
      (0, r.1, r.2)
    else (0, s.read a, s)

/-- DAP_ACCESS (R594): the scan shifts out the outcome of the access before, or BUSY where that access is incomplete, and then starts
its own. -/
def execDapAccess (busy write consume pair : Bool) (a : Nat) (data : Word) (x : Facts) (s : State) : Host.Outcome State Fault Refusal :=
  .next (s.tapOn (fun s =>
    let s := s.tapIr 0x10
    if busy then s.emit (.answer tdoPort (2 ^ 60))
    else
      let s := s.emit (.answer tdoPort s.tap.dap)
      let (st, v, t) := s.dapPerform write consume pair a data x
      { t with tap := { t.tap with dap := dapWord st a v } }))

end Sys2Proof.Machine
end

