-- ==== Sys2Proof/Machine/Dispatch.lean ====
section
/-! DEFINITION. One arm per command: each is one direct call of that command's meaning. -/
namespace Sys2Proof.Machine

/-- The effect of a command on everything but the queue. -/
def exec (i : Instr) (s : State) : Host.Outcome State Fault Refusal :=
  match i with
  | .registerWrite a w x => Sys2Proof.Machine.execRegisterWrite a w x s
  | .sysDenyClear w => Sys2Proof.Machine.execSysDenyClear w s
  | .firstRailRamp inOrder => Sys2Proof.Machine.execFirstRailRamp inOrder s
  | .railLoss aonBelow720mV => Sys2Proof.Machine.execRailLoss aonBelow720mV s
  | .bayRailLoss b vdh => Sys2Proof.Machine.execBayRailLoss b vdh s
  | .coldExit vdh vdl => Sys2Proof.Machine.execColdExit vdh vdl s
  | .bootComplete r => Sys2Proof.Machine.execBootComplete r s
  | .modeReqIdle w => Sys2Proof.Machine.execModeReqIdle w s
  | .modeReqStandby w => Sys2Proof.Machine.execModeReqStandby w s
  | .modeReqCalibrate w => Sys2Proof.Machine.execModeReqCalibrate w s
  | .modeReqLoad w => Sys2Proof.Machine.execModeReqLoad w s
  | .modeReqCharacterise w => Sys2Proof.Machine.execModeReqCharacterise w s
  | .modeReqSelftest w => Sys2Proof.Machine.execModeReqSelftest w s
  | .modeReqSafe w => Sys2Proof.Machine.execModeReqSafe w s
  | .modeReqWarmReboot w => Sys2Proof.Machine.execModeReqWarmReboot w s
  | .wakeSource src => Sys2Proof.Machine.execWakeSource src s
  | .selftestTestEnd bad => Sys2Proof.Machine.execSelftestTestEnd bad s
  | .domReqOn d w => Sys2Proof.Machine.execDomReqOn d w s
  | .domReqOff d w => Sys2Proof.Machine.execDomReqOff d w s
  | .domReqIso d w => Sys2Proof.Machine.execDomReqIso d w s
  | .domReqLow d w => Sys2Proof.Machine.execDomReqLow d w s
  | .domRampDone d => Sys2Proof.Machine.execDomRampDone d s
  | .chnCtrlWrite ch w => Sys2Proof.Machine.execChnCtrlWrite ch w s
  | .chnLevelWrite ch idx w => Sys2Proof.Machine.execChnLevelWrite ch idx w s
  | .chnStaticWrite ch w => Sys2Proof.Machine.execChnStaticWrite ch w s
  | .chnParkWrite ch w => Sys2Proof.Machine.execChnParkWrite ch w s
  | .chnTermWrite ch w => Sys2Proof.Machine.execChnTermWrite ch w s
  | .settlingDone ch => Sys2Proof.Machine.execSettlingDone ch s
  | .chnFenceSet ch w => Sys2Proof.Machine.execChnFenceSet ch w s
  | .chnFenceClear ch w => Sys2Proof.Machine.execChnFenceClear ch w s
  | .chnFenceRelease ch => Sys2Proof.Machine.execChnFenceRelease ch s
  | .overvolt ch => Sys2Proof.Machine.execOvervolt ch s
  | .ilimReached ch => Sys2Proof.Machine.execIlimReached ch s
  | .overcurrent ch => Sys2Proof.Machine.execOvercurrent ch s
  | .leafBoundary c rx => Sys2Proof.Machine.execLeafBoundary c rx s
  | .driverEvent ch => Sys2Proof.Machine.execDriverEvent ch s
  | .strobe ch r => Sys2Proof.Machine.execStrobe ch r s
  | .characteriseTimingWrite a w => Sys2Proof.Machine.execCharacteriseTimingWrite a w s
  | .rdrCtrlArm c w => Sys2Proof.Machine.execRdrCtrlArm c w s
  | .armCheckComplete c start => Sys2Proof.Machine.execArmCheckComplete c start s
  | .rdrCtrlStart c w => Sys2Proof.Machine.execRdrCtrlStart c w s
  | .rdrCtrlHalt c w => Sys2Proof.Machine.execRdrCtrlHalt c w s
  | .forcedHalt c w => Sys2Proof.Machine.execForcedHalt c w s
  | .rdrCtrlResume c w => Sys2Proof.Machine.execRdrCtrlResume c w s
  | .rdrCtrlDisarm c w => Sys2Proof.Machine.execRdrCtrlDisarm c w s
  | .rdrCtrlAck c w => Sys2Proof.Machine.execRdrCtrlAck c w s
  | .rdrHostflagWrite c w => Sys2Proof.Machine.execRdrHostflagWrite c w s
  | .rdrVcntRead c leaves => Sys2Proof.Machine.execRdrVcntRead c leaves s
  | .wordNop c => Sys2Proof.Machine.execWordNop c s
  | .wordPlay c => Sys2Proof.Machine.execWordPlay c s
  | .wordPlayc c => Sys2Proof.Machine.execWordPlayc c s
  | .wordLoop c => Sys2Proof.Machine.execWordLoop c s
  | .wordEndloop c => Sys2Proof.Machine.execWordEndloop c s
  | .wordCall c => Sys2Proof.Machine.execWordCall c s
  | .wordReturn c => Sys2Proof.Machine.execWordReturn c s
  | .wordWait c => Sys2Proof.Machine.execWordWait c s
  | .wordMatch c => Sys2Proof.Machine.execWordMatch c s
  | .wordBranch c => Sys2Proof.Machine.execWordBranch c s
  | .wordSync c => Sys2Proof.Machine.execWordSync c s
  | .wordSitemask c => Sys2Proof.Machine.execWordSitemask c s
  | .wordTset c => Sys2Proof.Machine.execWordTset c s
  | .wordPeriod c => Sys2Proof.Machine.execWordPeriod c s
  | .wordMark c => Sys2Proof.Machine.execWordMark c s
  | .wordHold c => Sys2Proof.Machine.execWordHold c s
  | .wordHalt c => Sys2Proof.Machine.execWordHalt c s
  | .wordEnd c => Sys2Proof.Machine.execWordEnd c s
  | .leafFetchDone c => Sys2Proof.Machine.execLeafFetchDone c s
  | .holdResume c => Sys2Proof.Machine.execHoldResume c s
  | .holdLimitExpired c => Sys2Proof.Machine.execHoldLimitExpired c s
  | .waitTimeout c => Sys2Proof.Machine.execWaitTimeout c s
  | .waitTimerExpiry c => Sys2Proof.Machine.execWaitTimerExpiry c s
  | .ucsReload b w => Sys2Proof.Machine.execUcsReload b w s
  | .ucsReloadDone b v v2 => Sys2Proof.Machine.execUcsReloadDone b v v2 s
  | .stateParity c => Sys2Proof.Machine.execStateParity c s
  | .concLoad w => Sys2Proof.Machine.execConcLoad w s
  | .libCmdNone w => Sys2Proof.Machine.execLibCmdNone w s
  | .libInvalidate w => Sys2Proof.Machine.execLibInvalidate w s
  | .libInvalidateAll w => Sys2Proof.Machine.execLibInvalidateAll w s
  | .libLoad w => Sys2Proof.Machine.execLibLoad w s
  | .libEvict w => Sys2Proof.Machine.execLibEvict w s
  | .loadPartDone part ok => Sys2Proof.Machine.execLoadPartDone part ok s
  | .loadPartTimeout part => Sys2Proof.Machine.execLoadPartTimeout part s
  | .prefetchRequest c cn part off len => Sys2Proof.Machine.execPrefetchRequest c cn part off len s
  | .stagedDataArrival c cn part => Sys2Proof.Machine.execStagedDataArrival c cn part s
  | .stackInterval st reqs => Sys2Proof.Machine.execStackInterval st reqs s
  | .stackRead a cls die code sym die2 code2 => Sys2Proof.Machine.execStackRead a cls die code sym die2 code2 s
  | .stackWrite a cls data bad tries tries2 => Sys2Proof.Machine.execStackWrite a cls data bad tries tries2 s
  | .refreshDue st k postponed => Sys2Proof.Machine.execRefreshDue st k postponed s
  | .stackTempRead st temp => Sys2Proof.Machine.execStackTempRead st temp s
  | .trackerWindowEnd st => Sys2Proof.Machine.execTrackerWindowEnd st s
  | .stkFreqGo st w => Sys2Proof.Machine.execStkFreqGo st w s
  | .freqChangeDone st ok back => Sys2Proof.Machine.execFreqChangeDone st ok back s
  | .stkFence st w => Sys2Proof.Machine.execStkFence st w s
  | .stkRetrain st w => Sys2Proof.Machine.execStkRetrain st w s
  | .stkClrCnt st w => Sys2Proof.Machine.execStkClrCnt st w s
  | .stackRetrainDone st ok => Sys2Proof.Machine.execStackRetrainDone st ok s
  | .scrubPass a die code sym => Sys2Proof.Machine.execScrubPass a die code sym s
  | .mirrorEnable win w => Sys2Proof.Machine.execMirrorEnable win w s
  | .mirrorSyncDone win => Sys2Proof.Machine.execMirrorSyncDone win s
  | .stkLogClr w => Sys2Proof.Machine.execStkLogClr w s
  | .recordStored k failed => Sys2Proof.Machine.execRecordStored k failed s
  | .ldgStrEnable k w => Sys2Proof.Machine.execLdgStrEnable k w s
  | .ldgStrDrWrite k w => Sys2Proof.Machine.execLdgStrDrWrite k w s
  | .ldgSiteQuotaWrite site w => Sys2Proof.Machine.execLdgSiteQuotaWrite site w s
  | .ldgSiteFailRead site peek => Sys2Proof.Machine.execLdgSiteFailRead site peek s
  | .ldgSiteFailWrite site w => Sys2Proof.Machine.execLdgSiteFailWrite site w s
  | .ldgSiteDropWrite site w => Sys2Proof.Machine.execLdgSiteDropWrite site w s
  | .ffClr site w => Sys2Proof.Machine.execFfClr site w s
  | .pmuCtrlWrite ch w => Sys2Proof.Machine.execPmuCtrlWrite ch w s
  | .pmuForceWrite ch w => Sys2Proof.Machine.execPmuForceWrite ch w s
  | .pmuClampWrite ch w => Sys2Proof.Machine.execPmuClampWrite ch w s
  | .pmuSenseWrite b k w => Sys2Proof.Machine.execPmuSenseWrite b k w s
  | .senseOpen ch => Sys2Proof.Machine.execSenseOpen ch s
  | .pmuSettled ch => Sys2Proof.Machine.execPmuSettled ch s
  | .fltChWrite ch w => Sys2Proof.Machine.execFltChWrite ch w s
  | .decimationSample ch g value overload clamped settling => Sys2Proof.Machine.execDecimationSample ch g value overload clamped settling s
  | .fltBankSwap b w => Sys2Proof.Machine.execFltBankSwap b w s
  | .bankSwapApply b g => Sys2Proof.Machine.execBankSwapApply b g s
  | .acqArm e w => Sys2Proof.Machine.execAcqArm e w s
  | .acqStop e w => Sys2Proof.Machine.execAcqStop e w s
  | .acqSampleStep e => Sys2Proof.Machine.execAcqSampleStep e s
  | .acqTimerStep e => Sys2Proof.Machine.execAcqTimerStep e s
  | .holdoffEnd e => Sys2Proof.Machine.execHoldoffEnd e s
  | .timArm t w => Sys2Proof.Machine.execTimArm t w s
  | .timStop t w => Sys2Proof.Machine.execTimStop t w s
  | .timStamp t time start stop => Sys2Proof.Machine.execTimStamp t time start stop s
  | .timMeasureTimeout t => Sys2Proof.Machine.execTimMeasureTimeout t s
  | .timGateClose t => Sys2Proof.Machine.execTimGateClose t s
  | .timResultWrite t => Sys2Proof.Machine.execTimResultWrite t s
  | .timResSeqRead t peek => Sys2Proof.Machine.execTimResSeqRead t peek s
  | .timXoWrite age w => Sys2Proof.Machine.execTimXoWrite age w s
  | .laneLock p l => Sys2Proof.Machine.execLaneLock p l s
  | .laneLockLost p l => Sys2Proof.Machine.execLaneLockLost p l s
  | .rowAlign p skews => Sys2Proof.Machine.execRowAlign p skews s
  | .rowNeg p version st maxRate rate peerPort identity => Sys2Proof.Machine.execRowNeg p version st maxRate rate peerPort identity s
  | .rowCredit p freed ack nak => Sys2Proof.Machine.execRowCredit p freed ack nak s
  | .portTrainDone p badLanes => Sys2Proof.Machine.execPortTrainDone p badLanes s
  | .lnkPortRetrain p w => Sys2Proof.Machine.execLnkPortRetrain p w s
  | .lnkPortFence p w => Sys2Proof.Machine.execLnkPortFence p w s
  | .lnkPortClear p w => Sys2Proof.Machine.execLnkPortClear p w s
  | .lnkPortCountWrite p k w => Sys2Proof.Machine.execLnkPortCountWrite p k w s
  | .frameLibRead p f => Sys2Proof.Machine.execFrameLibRead p f s
  | .frameLibData p f => Sys2Proof.Machine.execFrameLibData p f s
  | .frameLibWrite p f => Sys2Proof.Machine.execFrameLibWrite p f s
  | .frameLibAck p f => Sys2Proof.Machine.execFrameLibAck p f s
  | .frameKeepalive p f => Sys2Proof.Machine.execFrameKeepalive p f s
  | .lnkDlSearch j w => Sys2Proof.Machine.execLnkDlSearch j w s
  | .searchDone j found noData => Sys2Proof.Machine.execSearchDone j found noData s
  | .lnkDlErrWrite j w => Sys2Proof.Machine.execLnkDlErrWrite j w s
  | .lnkDlBitsRead j bits errs => Sys2Proof.Machine.execLnkDlBitsRead j bits errs s
  | .grpArm w sync v => Sys2Proof.Machine.execGrpArm w sync v s
  | .grpStart w => Sys2Proof.Machine.execGrpStart w s
  | .grpResume w hops => Sys2Proof.Machine.execGrpResume w hops s
  | .grpDisarm w => Sys2Proof.Machine.execGrpDisarm w s
  | .grpConfirm w => Sys2Proof.Machine.execGrpConfirm w s
  | .grpDecline w => Sys2Proof.Machine.execGrpDecline w s
  | .framePrepare p f sync => Sys2Proof.Machine.execFramePrepare p f sync s
  | .frameReady p f v => Sys2Proof.Machine.execFrameReady p f v s
  | .frameCommit p f late lats => Sys2Proof.Machine.execFrameCommit p f late lats s
  | .syncInPulse stamp => Sys2Proof.Machine.execSyncInPulse stamp s
  | .frameSummary p f => Sys2Proof.Machine.execFrameSummary p f s
  | .frameTrigger p f => Sys2Proof.Machine.execFrameTrigger p f s
  | .grpFtrigSw w => Sys2Proof.Machine.execGrpFtrigSw w s
  | .fabricTriggerSource idx => Sys2Proof.Machine.execFabricTriggerSource idx s
  | .doorbell r v => Sys2Proof.Machine.execDoorbell r v s
  | .ringEnable r w => Sys2Proof.Machine.execRingEnable r w s
  | .descNop r bytes => Sys2Proof.Machine.execDescNop r bytes s
  | .descCopy r bytes => Sys2Proof.Machine.execDescCopy r bytes s
  | .descFill r bytes => Sys2Proof.Machine.execDescFill r bytes s
  | .descCompare r bytes => Sys2Proof.Machine.execDescCompare r bytes s
  | .descLibcmd r bytes => Sys2Proof.Machine.execDescLibcmd r bytes s
  | .descOriginData r bytes data readOk => Sys2Proof.Machine.execDescOriginData r bytes data readOk s
  | .descriptorComplete r src dst poison fail => Sys2Proof.Machine.execDescriptorComplete r src dst poison fail s
  | .ringIrqTime r => Sys2Proof.Machine.execRingIrqTime r s
  | .bar4Access off n write ep => Sys2Proof.Machine.execBar4Access off n write ep s
  | .wksHostSubmit w => Sys2Proof.Machine.execWksHostSubmit w s
  | .drainEnqueue k => Sys2Proof.Machine.execDrainEnqueue k s
  | .workDispatch idx => Sys2Proof.Machine.execWorkDispatch idx s
  | .itemDrain idx => Sys2Proof.Machine.execItemDrain idx s
  | .itemDigest idx => Sys2Proof.Machine.execItemDigest idx s
  | .itemBin idx => Sys2Proof.Machine.execItemBin idx s
  | .itemCalFit idx res body reject => Sys2Proof.Machine.execItemCalFit idx res body reject s
  | .itemFlush idx => Sys2Proof.Machine.execItemFlush idx s
  | .workRelease n => Sys2Proof.Machine.execWorkRelease n s
  | .workWatchdog idx => Sys2Proof.Machine.execWorkWatchdog idx s
  | .wksObsSnap w => Sys2Proof.Machine.execWksObsSnap w s
  | .wksCtrlWrite w => Sys2Proof.Machine.execWksCtrlWrite w s
  | .spdRead w ecc => Sys2Proof.Machine.execSpdRead w ecc s
  | .spdWrite w => Sys2Proof.Machine.execSpdWrite w s
  | .spdAdd w ecc => Sys2Proof.Machine.execSpdAdd w ecc s
  | .spdSwap w ecc => Sys2Proof.Machine.execSpdSwap w ecc s
  | .spdMarch w => Sys2Proof.Machine.execSpdMarch w s
  | .marchDone seg fail => Sys2Proof.Machine.execMarchDone seg fail s
  | .spdBankReq k w => Sys2Proof.Machine.execSpdBankReq k w s
  | .bankTransitionDone k => Sys2Proof.Machine.execBankTransitionDone k s
  | .spdCntWrite unc w => Sys2Proof.Machine.execSpdCntWrite unc w s
  | .ntmSet w => Sys2Proof.Machine.execNtmSet w s
  | .ntmStep w => Sys2Proof.Machine.execNtmStep w s
  | .ntmTimeRead peek => Sys2Proof.Machine.execNtmTimeRead peek s
  | .mtrOpenIdxRead peek => Sys2Proof.Machine.execMtrOpenIdxRead peek s
  | .mtrRd w => Sys2Proof.Machine.execMtrRd w s
  | .faultDetected r => Sys2Proof.Machine.execFaultDetected r s
  | .wireFault u => Sys2Proof.Machine.execWireFault u s
  | .fclClear w gone => Sys2Proof.Machine.execFclClear w gone s
  | .fenceSet w => Sys2Proof.Machine.execFenceSet w s
  | .fenceClear w => Sys2Proof.Machine.execFenceClear w s
  | .fclLogRead w => Sys2Proof.Machine.execFclLogRead w s
  | .evtFilteredChange idx high => Sys2Proof.Machine.execEvtFilteredChange idx high s
  | .trigEdge idx rise => Sys2Proof.Machine.execTrigEdge idx rise s
  | .irqSrcCntWrite idx w => Sys2Proof.Machine.execIrqSrcCntWrite idx w s
  | .irqSrcCfgWrite idx w => Sys2Proof.Machine.execIrqSrcCfgWrite idx w s
  | .calFull w ref => Sys2Proof.Machine.execCalFull w ref s
  | .calTrack w ref => Sys2Proof.Machine.execCalTrack w ref s
  | .calApplyNow w => Sys2Proof.Machine.execCalApplyNow w s
  | .calDiscardSet w => Sys2Proof.Machine.execCalDiscardSet w s
  | .calTempRead b t ref => Sys2Proof.Machine.execCalTempRead b t ref s
  | .calMeasureDone b => Sys2Proof.Machine.execCalMeasureDone b s
  | .calWaitTimEnd b => Sys2Proof.Machine.execCalWaitTimEnd b s
  | .calCommit b => Sys2Proof.Machine.execCalCommit b s
  | .calStoreWrite b ok => Sys2Proof.Machine.execCalStoreWrite b ok s
  | .fuseRaiseBoot w => Sys2Proof.Machine.execFuseRaiseBoot w s
  | .fuseRaiseErrata w => Sys2Proof.Machine.execFuseRaiseErrata w s
  | .fuseRevoke w => Sys2Proof.Machine.execFuseRevoke w s
  | .licenceInstall w ok body => Sys2Proof.Machine.execLicenceInstall w ok body s
  | .secLockWrite w => Sys2Proof.Machine.execSecLockWrite w s
  | .nvsRead w => Sys2Proof.Machine.execNvsRead w s
  | .nvsProgram w => Sys2Proof.Machine.execNvsProgram w s
  | .nvsErase w => Sys2Proof.Machine.execNvsErase w s
  | .nvsWriteImage w => Sys2Proof.Machine.execNvsWriteImage w s
  | .nvsCommandDone data ok readBack => Sys2Proof.Machine.execNvsCommandDone data ok readBack s
  | .supplySagInhibit residue => Sys2Proof.Machine.execSupplySagInhibit residue s
  | .dapAccess busy write consume pair a data x => Sys2Proof.Machine.execDapAccess busy write consume pair a data x s
  | .dbgAonUnlock w => Sys2Proof.Machine.execDbgAonUnlock w s
  | .unlockTmo g => Sys2Proof.Machine.execUnlockTmo g s
  | .dbgRdrHalt w => Sys2Proof.Machine.execDbgRdrHalt w s
  | .dbgClkHalt w => Sys2Proof.Machine.execDbgClkHalt w s
  | .bayRailGood b vdh => Sys2Proof.Machine.execBayRailGood b vdh s
  | .hostLinkUp width rate => Sys2Proof.Machine.execHostLinkUp width rate s
  | .pmuClampEngage ch engaged => Sys2Proof.Machine.execPmuClampEngage ch engaged s
  | .acqSidxRead e => Sys2Proof.Machine.execAcqSidxRead e s
  | .stackTrainingDone st ok rfm => Sys2Proof.Machine.execStackTrainingDone st ok rfm s
  | .modeReqIllegal w => Sys2Proof.Machine.execModeReqIllegal w s
  | .configurationRequest d wr => Sys2Proof.Machine.execConfigurationRequest d wr s
  | .csCorr c mpc => Sys2Proof.Machine.execCsCorr c mpc s
  | .csUncorr c mpc => Sys2Proof.Machine.execCsUncorr c mpc s
  | .microWatchdog c => Sys2Proof.Machine.execMicroWatchdog c s
  | .microBreak c => Sys2Proof.Machine.execMicroBreak c s
  | .microAssist c => Sys2Proof.Machine.execMicroAssist c s
  | .trapHandlerEnd c => Sys2Proof.Machine.execTrapHandlerEnd c s
  | .commitAckTimeout m => Sys2Proof.Machine.execCommitAckTimeout m s
  | .xoUpdate off age => Sys2Proof.Machine.execXoUpdate off age s
  | .rowFiller p deleted inserted => Sys2Proof.Machine.execRowFiller p deleted inserted s
  | .rowIdle p deleted => Sys2Proof.Machine.execRowIdle p deleted s
  | .rowEcho p reply time roundTrip => Sys2Proof.Machine.execRowEcho p reply time roundTrip s
  | .rowWake p => Sys2Proof.Machine.execRowWake p s
  | .rowError p => Sys2Proof.Machine.execRowError p s
  | .noPartner p => Sys2Proof.Machine.execNoPartner p s
  | .bringupRetry p => Sys2Proof.Machine.execBringupRetry p s
  | .cdrLock j => Sys2Proof.Machine.execCdrLock j s
  | .prbsLock j lock => Sys2Proof.Machine.execPrbsLock j lock s
  | .frameRefuse p f v => Sys2Proof.Machine.execFrameRefuse p f v s
  | .frameAbort p f => Sys2Proof.Machine.execFrameAbort p f s
  | .frameHeartbeat p f => Sys2Proof.Machine.execFrameHeartbeat p f s
  | .memberLost m => Sys2Proof.Machine.execMemberLost m s
  | .frameConfirm p f => Sys2Proof.Machine.execFrameConfirm p f s
  | .frameDecline p f => Sys2Proof.Machine.execFrameDecline p f s
  | .frameDisarm p f => Sys2Proof.Machine.execFrameDisarm p f s
  | .staleReread r => Sys2Proof.Machine.execStaleReread r s
  | .hostReadTimeout r off src => Sys2Proof.Machine.execHostReadTimeout r off src s
  | .itemStats idx => Sys2Proof.Machine.execItemStats idx s
  | .workAgePromote n => Sys2Proof.Machine.execWorkAgePromote n s
  | .batchAnnounce d => Sys2Proof.Machine.execBatchAnnounce d s
  | .syncMsg p f rx => Sys2Proof.Machine.execSyncMsg p f rx s
  | .pdelayReq p f turn => Sys2Proof.Machine.execPdelayReq p f turn s
  | .pdelayResp p f rx => Sys2Proof.Machine.execPdelayResp p f rx s
  | .announce p f => Sys2Proof.Machine.execAnnounce p f s
  | .syncSend p t1 => Sys2Proof.Machine.execSyncSend p t1 s
  | .pdelaySend p t1 => Sys2Proof.Machine.execPdelaySend p t1 s
  | .ppsInEdge t => Sys2Proof.Machine.execPpsInEdge t s
  | .ppsOut high => Sys2Proof.Machine.execPpsOut high s
  | .wireTest silent => Sys2Proof.Machine.execWireTest silent s
  | .recoveryWindowClose u => Sys2Proof.Machine.execRecoveryWindowClose u s
  | .smbusTempRead b => Sys2Proof.Machine.execSmbusTempRead b s
  | .smbusOtherRead cmd => Sys2Proof.Machine.execSmbusOtherRead cmd s
  | .tapExtest cells pins => Sys2Proof.Machine.execTapExtest cells pins s
  | .tapSamplePreload cells pins => Sys2Proof.Machine.execTapSamplePreload cells pins s
  | .tapClamp cells => Sys2Proof.Machine.execTapClamp cells s
  | .istLoopback n fin => Sys2Proof.Machine.execIstLoopback n fin s
  | .istCstore n fin => Sys2Proof.Machine.execIstCstore n fin s
  | .istMarch n fin => Sys2Proof.Machine.execIstMarch n fin s
  | .istArchive n fin => Sys2Proof.Machine.execIstArchive n fin s
  | .dieOvertemp d => Sys2Proof.Machine.execDieOvertemp d s
  | .cdrLockLost j => Sys2Proof.Machine.execCdrLockLost j s
  | .frameTypeUnknown p f => Sys2Proof.Machine.execFrameTypeUnknown p f s
  | .perstNLow => Sys2Proof.Machine.execPerstNLow s
  | .modeTransitionDone => Sys2Proof.Machine.execModeTransitionDone s
  | .concLoadDone => Sys2Proof.Machine.execConcLoadDone s
  | .loadCommit => Sys2Proof.Machine.execLoadCommit s
  | .holdoverEntry => Sys2Proof.Machine.execHoldoverEntry s
  | .holdoverExit => Sys2Proof.Machine.execHoldoverExit s
  | .prepareNoReply => Sys2Proof.Machine.execPrepareNoReply s
  | .noCommit => Sys2Proof.Machine.execNoCommit s
  | .groupAlign => Sys2Proof.Machine.execGroupAlign s
  | .syncOutPulse => Sys2Proof.Machine.execSyncOutPulse s
  | .heartbeatSend => Sys2Proof.Machine.execHeartbeatSend s
  | .splitTimeout => Sys2Proof.Machine.execSplitTimeout s
  | .linkDown => Sys2Proof.Machine.execLinkDown s
  | .hotReset => Sys2Proof.Machine.execHotReset s
  | .functionLevelReset => Sys2Proof.Machine.execFunctionLevelReset s
  | .delayListTick => Sys2Proof.Machine.execDelayListTick s
  | .clockWrap => Sys2Proof.Machine.execClockWrap s
  | .ptpHoldover => Sys2Proof.Machine.execPtpHoldover s
  | .meterTick => Sys2Proof.Machine.execMeterTick s
  | .checkpoint => Sys2Proof.Machine.execCheckpoint s
  | .collectorMismatch => Sys2Proof.Machine.execCollectorMismatch s
  | .estopActive => Sys2Proof.Machine.execEstopActive s
  | .fuseProgramDone => Sys2Proof.Machine.execFuseProgramDone s
  | .sagInhibitEnd => Sys2Proof.Machine.execSagInhibitEnd s
  | .smbusIdentityRead => Sys2Proof.Machine.execSmbusIdentityRead s
  | .smbusModeRead => Sys2Proof.Machine.execSmbusModeRead s
  | .tapReset => Sys2Proof.Machine.execTapReset s
  | .tapIdcode => Sys2Proof.Machine.execTapIdcode s
  | .tapHighz => Sys2Proof.Machine.execTapHighz s
  | .dapStatus => Sys2Proof.Machine.execDapStatus s
  | .tapBypass => Sys2Proof.Machine.execTapBypass s
  | .wksTickRead => Sys2Proof.Machine.execWksTickRead s
  | .pageProgramDone => Sys2Proof.Machine.execPageProgramDone s

end Sys2Proof.Machine
end

