-- ==== Sys2Proof/Safety.lean ====
section
/-! DEFINITION. What a safe state and a safe step are, in the terms the statements use: the stores and the register map in their
canonical forms, a step that answers a state with a property, and a register write that reaches its register. -/
namespace Sys2Proof

open Sys2Proof.Machine

/-- The stores of the stacks and the register map lie in their canonical forms, so equal contents are equal data. -/
def Canonical (s : State) : Prop := Memory.wf s.mem = true ∧ Regs.wf s.regs = true

/-- The command answers a next state, and that state has a property. -/
def Reaches (c : Instr) (s : State) (p : State → Prop) : Prop := ∃ t, exec c s = .next t ∧ p t

/-- A write reaches its register: BAR0 answers, the register has bits to write, and no cause of Table 23-5 turns the write away
(23_register_reference.md R609). -/
abbrev Admitted (s : State) (a : Nat) (w : BusWrite) : Prop := (s.busWrite a w).2 = true

/-- The state in which the register holds the written value and nothing that the write starts has happened yet. -/
def stored (s : State) (a : Nat) (w : BusWrite) : State := (s.busWrite a w).1

/-- A write of a register that acts on a write whatever it stores (RDR_CTRL and the like) is turned away by nothing (R609). -/
abbrev AdmittedPlain (s : State) (a : Nat) (w : BusWrite) : Prop :=
  s.barDown a w.master = false ∧ s.denyBoot (blockOf a) = false ∧ s.denyPower (blockOf a) = false ∧
    s.denyGate (blockOf a) a w.master = false ∧ w.whole = true

/-- A bit of the written data. -/
def BusWrite.bit (w : BusWrite) (i : Nat) : Bool := bitAt w.data.toNat i

/-- Everything but the register map is as it was. -/
def SameBeyondRegs (s t : State) : Prop := { t with regs := s.regs } = s

/-- Every register but those of a list reads as it did. -/
def OnlyRegs (l : List Nat) (s t : State) : Prop := ∀ a, a ∉ l → t.rd a = s.rd a

/-- Only the run of one context has changed: no register, no store, no channel and no other context. -/
def OnlyCtx (c : Nat) (s t : State) : Prop :=
  t.regs = s.regs ∧ t.mem = s.mem ∧ t.chans = s.chans ∧ t.fcl = s.fcl ∧ ∀ k, k ≠ c → t.ctx k = s.ctx k

/-- The context runs, and the word at its resolver's position has this operation (R154). -/
abbrev AtWord (s : State) (c op : Nat) : Prop :=
  (s.ctxState c).active = true ∧ s.seqOp c (s.ctx c).pos = op ∧ (s.ctx c).ended = false ∧ (s.ctx c).pos < 4096

end Sys2Proof
end

