-- ==== Sys2Proof/WellFormed.lean ====
section
/-! DEFINITION. Well-formed commands: every operand lies where the spec puts it (00_scope.md R1 to R3: 4 bays, 32 shelves, 256
channels, 16 contexts; 23_register_reference.md Tables 23-1 and 23-4). The meanings are total: they answer for any operand. -/
namespace Sys2Proof

/-- A BAR0 write: a clerk's index is below 16 (17_clerks.md R472). -/
def BusWrite.wf (w : BusWrite) : Bool :=
  match w.master with
  | .clerk i => decide (i < 16)
  | _ => true

/-- A frame's fields hold their widths, and it is at most 66 flits (14_weafy_lanes.md R389, Tables 14-4 and 14-5). -/
def Frame.wf (f : Frame) : Bool :=
  decide (f.vc < 4) && decide (f.kind < 64) && decide (f.src < 16) && decide (f.dst < 16) && decide (f.seq < 65536) &&
    decide (f.tag < 65536) && decide (f.arg < 2 ^ 32) && decide (f.payload.length ≤ 1036)

/-- A report names a unit code, a cause of Table 19-7, a class of Table 19-2 and a 32-bit DETAIL. -/
def FaultReport.wf (r : FaultReport) : Bool :=
  decide (r.unit < 65536) && decide (1 ≤ r.cause) && decide (r.cause ≤ 0x1D) && decide (r.cls < 4) && decide (r.detail < 2 ^ 32)

/-- The operands of a command lie in their ranges. -/
def Instr.wf (i : Instr) : Bool :=
  match i with
  | .registerWrite a w _ => decide (a % 4 = 0) && decide (a < 0x4000000) && w.wf
  | .sysDenyClear w => w.wf
  | .firstRailRamp _ => true
  | .railLoss _ => true
  | .bayRailLoss b _ => decide (b < 4)
  | .modeReqIdle w => w.wf
  | .modeReqStandby w => w.wf
  | .modeReqCalibrate w => w.wf
  | .modeReqLoad w => w.wf
  | .modeReqCharacterise w => w.wf
  | .modeReqSelftest w => w.wf
  | .modeReqSafe w => w.wf
  | .modeReqWarmReboot w => w.wf
  | .modeReqIllegal w => w.wf
  | .domReqOn d w => decide (d < 50) && w.wf
  | .domReqOff d w => decide (d < 50) && w.wf
  | .domReqIso d w => decide (d < 50) && w.wf
  | .domReqLow d w => decide (d < 50) && w.wf
  | .domRampDone d => decide (d < 50)
  | .bayRailGood b _ => decide (b < 4)
  | .pmuCtrlWrite ch w => decide (ch < 256) && w.wf
  | .pmuForceWrite ch w => decide (ch < 256) && w.wf
  | .pmuClampWrite ch w => decide (ch < 256) && w.wf
  | .pmuSenseWrite b k w => decide (b < 4) && decide (k < 4) && w.wf
  | .senseOpen ch => decide (ch < 256)
  | .pmuSettled ch => decide (ch < 256)
  | .fltChWrite ch w => decide (ch < 256) && w.wf
  | .decimationSample ch _ _ _ _ _ => decide (ch < 256)
  | .fltBankSwap b w => decide (b < 4) && w.wf
  | .bankSwapApply b _ => decide (b < 4)
  | .pmuClampEngage ch _ => decide (ch < 256)
  | .acqArm e w => decide (e < 8) && w.wf
  | .acqStop e w => decide (e < 8) && w.wf
  | .acqSampleStep e => decide (e < 8)
  | .acqTimerStep e => decide (e < 8)
  | .holdoffEnd e => decide (e < 8)
  | .acqSidxRead e => decide (e < 8)
  | .timArm t w => decide (t < 4) && w.wf
  | .timStop t w => decide (t < 4) && w.wf
  | .timStamp t _ _ _ => decide (t < 4)
  | .timMeasureTimeout t => decide (t < 4)
  | .timGateClose t => decide (t < 4)
  | .timResultWrite t => decide (t < 4)
  | .timResSeqRead t _ => decide (t < 4)
  | .holdoverEntry => true
  | .holdoverExit => true
  | .xoUpdate _ _ => true
  | .timXoWrite _ w => w.wf
  | .laneLock p l => decide (p < 4) && decide (l < 8)
  | .laneLockLost p l => decide (p < 4) && decide (l < 8)
  | .rowAlign p skews => decide (p < 4) && decide (skews.length ≤ 8)
  | .rowFiller p _ _ => decide (p < 4)
  | .rowIdle p _ => decide (p < 4)
  | .rowNeg p version st maxRate rate peerPort identity => decide (p < 4) && decide (version < 256) && decide (st < 256) && decide (maxRate < 256) && decide (rate < 256) && decide (peerPort < 256) && decide (identity < 2 ^ 64)
  | .rowCredit p freed ack _ => decide (p < 4) && decide (freed.length ≤ 4) && decide (ack < 65536)
  | .rowEcho p _ _ _ => decide (p < 4)
  | .rowError p => decide (p < 4)
  | .noPartner p => decide (p < 4)
  | .bringupRetry p => decide (p < 4)
  | .portTrainDone p badLanes => decide (p < 4) && decide (badLanes < 256)
  | .lnkPortRetrain p w => decide (p < 4) && w.wf
  | .lnkPortFence p w => decide (p < 4) && w.wf
  | .lnkPortClear p w => decide (p < 4) && w.wf
  | .lnkPortCountWrite p k w => decide (p < 4) && decide (k < 6) && w.wf
  | .lnkDlSearch j w => decide (j < 16) && w.wf
  | .searchDone j found _ => decide (j < 16) && found.all (fun x => decide (x < 4096))
  | .lnkDlErrWrite j w => decide (j < 16) && w.wf
  | .lnkDlBitsRead j _ _ => decide (j < 16)
  | .cdrLock j => decide (j < 16)
  | .cdrLockLost j => decide (j < 16)
  | .prbsLock j _ => decide (j < 16)
  | .wordNop c => decide (c < 16)
  | .wordPlay c => decide (c < 16)
  | .wordPlayc c => decide (c < 16)
  | .wordLoop c => decide (c < 16)
  | .wordEndloop c => decide (c < 16)
  | .wordCall c => decide (c < 16)
  | .wordReturn c => decide (c < 16)
  | .wordWait c => decide (c < 16)
  | .wordMatch c => decide (c < 16)
  | .wordBranch c => decide (c < 16)
  | .wordSync c => decide (c < 16)
  | .wordSitemask c => decide (c < 16)
  | .wordTset c => decide (c < 16)
  | .wordPeriod c => decide (c < 16)
  | .wordMark c => decide (c < 16)
  | .wordHold c => decide (c < 16)
  | .wordHalt c => decide (c < 16)
  | .wordEnd c => decide (c < 16)
  | .leafFetchDone c => decide (c < 16)
  | .driverEvent ch => decide (ch < 256)
  | .strobe ch _ => decide (ch < 256)
  | .leafBoundary c _ => decide (c < 16)
  | .rdrCtrlArm c w => decide (c < 16) && w.wf
  | .rdrCtrlStart c w => decide (c < 16) && w.wf
  | .rdrCtrlHalt c w => decide (c < 16) && w.wf
  | .forcedHalt c w => decide (c < 16) && w.wf
  | .rdrCtrlResume c w => decide (c < 16) && w.wf
  | .rdrCtrlDisarm c w => decide (c < 16) && w.wf
  | .rdrCtrlAck c w => decide (c < 16) && w.wf
  | .rdrHostflagWrite c w => decide (c < 16) && w.wf
  | .rdrVcntRead c _ => decide (c < 16)
  | .waitTimeout c => decide (c < 16)
  | .waitTimerExpiry c => decide (c < 16)
  | .holdResume c => decide (c < 16)
  | .holdLimitExpired c => decide (c < 16)
  | .armCheckComplete c _ => decide (c < 16)
  | .chnCtrlWrite ch w => decide (ch < 256) && w.wf
  | .chnLevelWrite ch i w => decide (ch < 256) && decide (i < 5) && w.wf
  | .chnStaticWrite ch w => decide (ch < 256) && w.wf
  | .chnParkWrite ch w => decide (ch < 256) && w.wf
  | .chnTermWrite ch w => decide (ch < 256) && w.wf
  | .settlingDone ch => decide (ch < 256)
  | .chnFenceSet ch w => decide (ch < 256) && w.wf
  | .chnFenceClear ch w => decide (ch < 256) && w.wf
  | .chnFenceRelease ch => decide (ch < 256)
  | .overvolt ch => decide (ch < 256)
  | .ilimReached ch => decide (ch < 256)
  | .overcurrent ch => decide (ch < 256)
  | .characteriseTimingWrite a w => decide (a % 4 = 0) && decide (0x100000 ≤ a) && decide (a < 0x500000) && w.wf
  | .stackInterval st _ => decide (st < 2)
  | .stackRead a cls die code _ die2 code2 => decide (a % 64 = 0) && decide (a < 0x20000000000) && decide (cls < 8) && decide (die < 3) && decide (code < 3) && decide (die2 < 3) && decide (code2 < 3)
  | .stackWrite a cls data _ _ _ => decide (a < 0x20000000000) && decide (cls < 8) && decide (0 < data.length) && decide (a % 64 + data.length ≤ 64)
  | .refreshDue st k _ => decide (st < 2) && decide (k < 2048)
  | .stackTempRead st _ => decide (st < 2)
  | .trackerWindowEnd st => decide (st < 2)
  | .stkFreqGo st w => decide (st < 2) && w.wf
  | .freqChangeDone st _ _ => decide (st < 2)
  | .stkFence st w => decide (st < 2) && w.wf
  | .stkRetrain st w => decide (st < 2) && w.wf
  | .stkClrCnt st w => decide (st < 2) && w.wf
  | .stackRetrainDone st _ => decide (st < 2)
  | .scrubPass a die code _ => decide (a % 64 = 0) && decide (a < 0x20000000000) && decide (die < 3) && decide (code < 3)
  | .mirrorEnable win w => decide (win < 8) && w.wf
  | .mirrorSyncDone win => decide (win < 8)
  | .stkLogClr w => w.wf
  | .stackTrainingDone st _ _ => decide (st < 2)
  | .concLoad w => w.wf
  | .libCmdNone w => w.wf
  | .libInvalidate w => w.wf
  | .libInvalidateAll w => w.wf
  | .libLoad w => w.wf
  | .libEvict w => w.wf
  | .loadPartDone part _ => decide (part < 2 ^ 20)
  | .loadPartTimeout part => decide (part < 2 ^ 20)
  | .commitAckTimeout m => decide (m < 16)
  | .prefetchRequest c _ _ _ _ => decide (c < 16)
  | .stagedDataArrival c _ _ => decide (c < 16)
  | .doorbell r v => decide (r < 256) && decide (v < 4294967296)
  | .ringEnable r w => decide (r < 256) && w.wf
  | .staleReread r => decide (r < 256)
  | .descNop r bytes => decide (r < 256) && decide (bytes.length = 64)
  | .descCopy r bytes => decide (r < 256) && decide (bytes.length = 64)
  | .descFill r bytes => decide (r < 256) && decide (bytes.length = 64)
  | .descCompare r bytes => decide (r < 256) && decide (bytes.length = 64)
  | .descLibcmd r bytes => decide (r < 256) && decide (bytes.length = 64)
  | .descOriginData r bytes _ _ => decide (r < 256) && decide (bytes.length = 64)
  | .descriptorComplete r _ _ _ _ => decide (r < 256)
  | .hostReadTimeout r _ _ => decide (r < 256)
  | .ringIrqTime r => decide (r < 256)
  | .bar4Access off _ _ _ => decide (off < 0x1000000000)
  | .hostLinkUp width rate => decide (width ∈ [1, 2, 4, 8, 16]) && decide (1 ≤ rate ∧ rate ≤ 5)
  | .configurationRequest d _ => decide (d < 1024)
  | .recordStored k _ => decide (k < 84)
  | .ldgStrEnable k w => decide (k < 84) && w.wf
  | .ldgStrDrWrite k w => decide (k < 84) && w.wf
  | .ldgSiteQuotaWrite site w => decide (site < 64) && w.wf
  | .ldgSiteFailRead site _ => decide (site < 64)
  | .ldgSiteFailWrite site w => decide (site < 64) && w.wf
  | .ldgSiteDropWrite site w => decide (site < 64) && w.wf
  | .ffClr site w => decide (site < 64) && w.wf
  | .csCorr c mpc => decide (c < 16) && decide (mpc < 4096)
  | .csUncorr c mpc => decide (c < 16) && decide (mpc < 4096)
  | .stateParity c => decide (c < 16)
  | .microWatchdog c => decide (c < 16)
  | .microBreak c => decide (c < 16)
  | .microAssist c => decide (c < 16)
  | .trapHandlerEnd c => decide (c < 16)
  | .ucsReload b w => decide (b < 4) && w.wf
  | .ucsReloadDone b _ _ => decide (b < 4)
  | .frameLibRead p f => decide (p < 4) && f.wf
  | .frameLibData p f => decide (p < 4) && f.wf
  | .frameLibWrite p f => decide (p < 4) && f.wf
  | .frameLibAck p f => decide (p < 4) && f.wf
  | .frameKeepalive p f => decide (p < 4) && f.wf
  | .frameTypeUnknown p f => decide (p < 4) && f.wf
  | .grpArm w _ _ => w.wf
  | .grpStart w => w.wf
  | .grpResume w _ => w.wf
  | .grpDisarm w => w.wf
  | .grpConfirm w => w.wf
  | .grpDecline w => w.wf
  | .framePrepare p f _ => decide (p < 4) && f.wf
  | .frameReady p f _ => decide (p < 4) && f.wf
  | .frameRefuse p f _ => decide (p < 4) && f.wf
  | .frameCommit p f _ _ => decide (p < 4) && f.wf
  | .frameAbort p f => decide (p < 4) && f.wf
  | .syncInPulse _ => true
  | .frameSummary p f => decide (p < 4) && f.wf
  | .frameHeartbeat p f => decide (p < 4) && f.wf
  | .memberLost m => decide (m < 16)
  | .frameConfirm p f => decide (p < 4) && f.wf
  | .frameDecline p f => decide (p < 4) && f.wf
  | .frameDisarm p f => decide (p < 4) && f.wf
  | .frameTrigger p f => decide (p < 4) && f.wf
  | .grpFtrigSw w => w.wf
  | .fabricTriggerSource i => decide (i < 16)
  | .wksHostSubmit w => w.wf
  | .drainEnqueue k => decide (k < 84)
  | .workDispatch i => decide (i < 16)
  | .itemDrain i => decide (i < 16)
  | .itemDigest i => decide (i < 16)
  | .itemBin i => decide (i < 16)
  | .itemStats i => decide (i < 16)
  | .itemFlush i => decide (i < 16)
  | .workRelease _ => true
  | .workAgePromote _ => true
  | .workWatchdog i => decide (i < 16)
  | .batchAnnounce d => decide (d < 4)
  | .wksObsSnap w => w.wf
  | .wksCtrlWrite w => w.wf
  | .spdRead w ecc => w.wf && decide (ecc < 3)
  | .spdWrite w => w.wf
  | .spdAdd w ecc => w.wf && decide (ecc < 3)
  | .spdSwap w ecc => w.wf && decide (ecc < 3)
  | .spdMarch w => w.wf
  | .marchDone seg _ => decide (seg < 256)
  | .spdBankReq k w => decide (k < 64) && w.wf
  | .bankTransitionDone k => decide (k < 64)
  | .spdCntWrite _ w => w.wf
  | .ntmSet w => w.wf
  | .ntmStep w => w.wf
  | .ntmTimeRead _ => true
  | .syncMsg p f _ => decide (p < 4) && f.wf
  | .pdelayReq p f _ => decide (p < 4) && f.wf
  | .pdelayResp p f _ => decide (p < 4) && f.wf
  | .announce p f => decide (p < 4) && f.wf
  | .syncSend p _ => decide (p < 4)
  | .pdelaySend p _ => decide (p < 4)
  | .ppsInEdge t => decide (t < 65536000000000)
  | .ppsOut _ => true
  | .mtrOpenIdxRead _ => true
  | .mtrRd w => w.wf
  | .calFull w _ => w.wf
  | .calTrack w _ => w.wf
  | .calApplyNow w => w.wf
  | .calDiscardSet w => w.wf
  | .calTempRead b t _ => decide (b < 4) && decide (-32768 ≤ t) && decide (t < 32768)
  | .calWaitTimEnd b => decide (b < 4)
  | .calMeasureDone b => decide (b < 4)
  | .itemCalFit i _ _ _ => decide (i < 16)
  | .calCommit b => decide (b < 4)
  | .calStoreWrite b _ => decide (b < 4)
  | .fuseRaiseBoot w => w.wf
  | .fuseRaiseErrata w => w.wf
  | .fuseRevoke w => w.wf
  | .licenceInstall w _ _ => w.wf
  | .secLockWrite w => w.wf
  | .nvsRead w => w.wf
  | .nvsProgram w => w.wf
  | .nvsErase w => w.wf
  | .nvsWriteImage w => w.wf
  | .nvsCommandDone _ _ _ => true
  | .supplySagInhibit _ => true
  | .smbusTempRead b => decide (b < 4)
  | .smbusOtherRead cmd => decide (cmd < 256)
  | .tapExtest cells pins => decide (cells < 2 ^ 54) && decide (pins < 2 ^ 54)
  | .tapSamplePreload cells pins => decide (cells < 2 ^ 54) && decide (pins < 2 ^ 54)
  | .tapClamp cells => decide (cells < 2 ^ 54)
  | .dbgAonUnlock w => w.wf
  | .unlockTmo g => decide (g < 17)
  | .dbgRdrHalt w => w.wf
  | .dbgClkHalt w => w.wf
  | .istLoopback n _ => decide (n < 576)
  | .istCstore n _ => decide (n < 160)
  | .istMarch n _ => decide (n < 16384)
  | .istArchive n _ => decide (n < 192)
  | .dieOvertemp d => decide (d < 5)
  | .faultDetected r => r.wf
  | .wireFault u => decide (u < 65536)
  | .wireTest _ => true
  | .recoveryWindowClose u => decide (u < 65536)
  | .fclClear w _ => w.wf
  | .fenceSet w => w.wf
  | .fenceClear w => w.wf
  | .fclLogRead w => w.wf
  | .evtFilteredChange i _ => decide (i < 16)
  | .trigEdge i _ => decide (i < 8)
  | .irqSrcCntWrite i w => decide (i < 1024) && w.wf
  | .irqSrcCfgWrite i w => decide (i < 1024) && w.wf
  | .coldExit vdh vdl => decide (vdh < 16) && decide (vdl < 16)
  | .bootComplete _ => true
  | .wakeSource src => decide (src < 18)
  | .selftestTestEnd _ => true
  | .rowWake p => decide (p < 4)
  | .dapAccess _ _ _ _ a _ _ => decide (a < 0x4000000)
  | .perstNLow => true
  | .modeTransitionDone => true
  | .concLoadDone => true
  | .loadCommit => true
  | .prepareNoReply => true
  | .noCommit => true
  | .groupAlign => true
  | .syncOutPulse => true
  | .heartbeatSend => true
  | .splitTimeout => true
  | .linkDown => true
  | .hotReset => true
  | .functionLevelReset => true
  | .delayListTick => true
  | .clockWrap => true
  | .ptpHoldover => true
  | .meterTick => true
  | .checkpoint => true
  | .collectorMismatch => true
  | .estopActive => true
  | .fuseProgramDone => true
  | .sagInhibitEnd => true
  | .smbusIdentityRead => true
  | .smbusModeRead => true
  | .tapReset => true
  | .tapIdcode => true
  | .tapHighz => true
  | .dapStatus => true
  | .tapBypass => true
  | .wksTickRead => true
  | .pageProgramDone => true

end Sys2Proof
end

