-- ==== Sys2Proof/Certificates/Slice0/Obligations.lean ====
section
/-! DEFINITION. The statements: what the commands do, by the numbered rules of the spec. `Reaches c s p`: the command answers a next
state, and `p` holds of it. -/

open Sys2Proof Sys2Proof.Machine

/-! ### The queue and the step -/

/-- A step with a command at the front of the queue is that command's exec on the state with the queue's rest. -/
def Obligations.StepTakesFront : Prop :=
  ∀ (c : Instr) (rest : List Instr) (s : State), s.pending = c :: rest → step s = exec c { s with pending := rest }

/-- On an empty queue the block idles: one cycle of 10 ns is counted, nothing joins the queue, no output appears and no store changes, no
register but NTM_STATUS changes, and that one only where the seconds fall back (the model's choice, notes/assumptions/4.md). -/
def Obligations.IdleStep : Prop :=
  ∀ s : State, s.pending = [] →
    ∃ t, step s = .next t ∧ t.now = s.now + 1 ∧ t.mem = s.mem ∧ t.pending = [] ∧ t.out = s.out ∧
      (t.clk.sec < s.clk.sec ∨ t.regs = s.regs) ∧ (∀ a, a ≠ Reg.NTM_STATUS → t.rd a = s.rd a)

/-- No command touches the queue or the cycle count: what waits is changed by the step alone. -/
def Obligations.QueueUntouched : Prop :=
  ∀ (c : Instr) (s t : State), exec c s = .next t → t.pending = s.pending ∧ t.now = s.now

/-- After reset the stores and the register map are canonical, nothing waits, no ball is driven and the device is in Cold with
FAULT_N low. -/
def Obligations.ResetState : Prop :=
  Canonical State.reset ∧ State.reset.pending = [] ∧ State.reset.mode = .cold ∧ State.reset.faultN = true ∧
    (∀ ch, (State.reset.chan ch).out = .opened ∧ (State.reset.chan ch).conn = 0) ∧
    (∀ a, State.reset.rd a = Reg.resetOf a) ∧ (∀ a, State.reset.ldByte a = 0)

/-- Every step keeps the stores and the register map canonical. -/
def Obligations.StepKeepsCanonical : Prop :=
  ∀ s t : State, Canonical s → step s = .next t → Canonical t

/-- Commands that may change the fuses, the boot image or the licence in force. -/
def touchesSecurity : Instr → Bool
  | .bootComplete .. | .dapAccess .. | .firstRailRamp .. | .fuseProgramDone | .fuseRaiseBoot .. | .fuseRaiseErrata .. | .fuseRevoke ..
  | .licenceInstall .. | .modeTransitionDone | .perstNLow | .railLoss .. | .registerWrite .. | .rowWake .. | .wakeSource .. => true
  | _ => false

/-- The fuses stand behind one command: FUSE_PROGRAM_DONE alone changes them, and over every command BOOT_MIN and ERRATA_MIN never fall and
the serial number and DEBUG_OFF stay; all the security state (the fuses, what Boot chose, the licence, a fuse command in progress) changes
under the commands of touchesSecurity alone (R570, R571). -/
def Obligations.FusesGuarded : Prop :=
  ∀ (c : Instr) (s t : State), exec c s = .next t →
    (touchesSecurity c = false → t.sec = s.sec) ∧
    (c ≠ .fuseProgramDone → t.sec.fuses = s.sec.fuses) ∧
    (s.sec.fuses.bootMin ≤ t.sec.fuses.bootMin ∧ s.sec.fuses.errataMin ≤ t.sec.fuses.errataMin ∧
      t.sec.fuses.serial = s.sec.fuses.serial ∧ t.sec.fuses.debugOff = s.sec.fuses.debugOff)

/-- Commands that may move the local clock. -/
def touchesClock : Instr → Bool
  | .clockWrap | .dapAccess .. | .firstRailRamp .. | .ntmSet .. | .ntmStep .. | .perstNLow | .ppsInEdge .. | .railLoss ..
  | .registerWrite .. | .syncMsg .. => true
  | _ => false

/-- Commands that may change the test access port. -/
def touchesTap : Instr → Bool
  | .dapAccess .. | .dapStatus | .tapBypass | .tapClamp .. | .tapExtest .. | .tapHighz | .tapIdcode | .tapReset | .tapSamplePreload .. => true
  | _ => false

/-- Of all commands only the clock's own, BAR0 and DAP accesses, PTP's Sync, PPS_IN and the entries to Cold may change the local clock, and only
scans of the test access port may change the port's registers: no fault, mode change or fence reaches either (R493, R590). -/
def Obligations.ClockAndTapGuarded : Prop :=
  ∀ (c : Instr) (s t : State), exec c s = .next t →
    (touchesClock c = false → t.clk = s.clk) ∧ (touchesTap c = false → t.tap = s.tap)

/-! ### BAR0 (23_register_reference.md, 00_scope.md) -/

/-- A host write of a whole word to SYS_SCRATCH outside Cold and Standby leaves the word in the register and changes no other register and no
store; a partial write leaves it as it was and, where the denied-write record is free, opens it with cause 8, the address, the data, the
master and a count of 1 (R10, R437, R609, R610). -/
def Clause.ScratchWrite : Prop :=
  (∀ (s : State) (v : Word) (x : Facts), s.mode ≠ .cold → s.mode ≠ .standby →
    Reaches (.registerWrite Reg.SYS_SCRATCH ⟨.host, true, v⟩ x) s (fun t =>
      t.rd Reg.SYS_SCRATCH = v ∧ OnlyRegs [Reg.SYS_SCRATCH] s t ∧ SameBeyondRegs s t)) ∧
  (∀ (s : State) (v : Word) (x : Facts), s.mode ≠ .cold → s.mode ≠ .standby → s.flag F.SYS_DENY_STATUS_DENIED = false →
    Reaches (.registerWrite Reg.SYS_SCRATCH ⟨.host, false, v⟩ x) s (fun t =>
      t.rd Reg.SYS_SCRATCH = s.rd Reg.SYS_SCRATCH ∧ t.flag F.SYS_DENY_STATUS_DENIED = true ∧ t.f F.SYS_DENY_STATUS_CAUSE = 8 ∧
        t.f F.SYS_DENY_STATUS_MASTER = 0 ∧ t.f F.SYS_DENY_STATUS_COUNT = 1 ∧ t.f F.SYS_DENY_ADDR_ADDR = 0x10 ∧
        t.rd Reg.SYS_DENY_DATA = v ∧ t.mem = s.mem))

/-- In Cold and Standby BAR0 does not answer a host write: nothing changes, whatever the register (Table 2-1). -/
def Clause.NoBarInCold : Prop :=
  ∀ (s : State) (a : Nat) (w : BusWrite), (s.mode = .cold ∨ s.mode = .standby) → w.master = .host →
    s.busWrite a w = (s, false)

/-- The order of the denials of Table 23-5: a write that Boot forbids is denied with cause 1, else one to a block without power with 2, else one
without an open gate with 3; every cause is 1 to 8, and a write denied with any cause but 5 leaves the register's value (R609). -/
def Clause.DenialOrder : Prop :=
  ∀ (s : State) (r : RegRow) (a : Nat) (w : BusWrite),
    (s.denyBoot (blockOf a) = true → (s.judge r a w).1 = some 1) ∧
    (s.denyBoot (blockOf a) = false → s.denyPower (blockOf a) = true → (s.judge r a w).1 = some 2) ∧
    (s.denyBoot (blockOf a) = false → s.denyPower (blockOf a) = false → s.denyGate (blockOf a) a w.master = true →
      (s.judge r a w).1 = some 3) ∧
    (∀ n, (s.judge r a w).1 = some n → n ≠ 5 → (s.judge r a w).2 = s.rd a) ∧
    (∀ n, (s.judge r a w).1 = some n → 1 ≤ n ∧ n ≤ 8)

/-- SYS_DENY_CLEAR: 1 written to DENIED clears the whole record, and with it the way is open for the next denied write (R610). -/
def Clause.DenyRecordClears : Prop :=
  ∀ (s : State) (w : BusWrite), Admitted s Reg.SYS_DENY_STATUS w → w.bit 31 = true →
    Reaches (.sysDenyClear w) s (fun t =>
      t.rd Reg.SYS_DENY_STATUS = 0 ∧ t.rd Reg.SYS_DENY_ADDR = 0 ∧ t.rd Reg.SYS_DENY_DATA = 0 ∧ t.mem = s.mem ∧ t.fcl = s.fcl)

/-- Writes to BAR0: those it does not take and in which order their causes come, SYS_SCRATCH, which takes a host's word, and the denied-write
record, which is opened and cleared. -/
def Obligations.BarWrites : Prop := Clause.NoBarInCold ∧ Clause.DenialOrder ∧ Clause.ScratchWrite ∧ Clause.DenyRecordClears

/-! ### Modes, reset, Boot and power domains (02_modes_and_startup.md) -/

/-- The commands that write SYS_MODE_REQ. -/
def modeRequests (w : BusWrite) : List Instr :=
  [.modeReqIdle w, .modeReqStandby w, .modeReqCalibrate w, .modeReqLoad w, .modeReqCharacterise w, .modeReqSelftest w, .modeReqSafe w,
   .modeReqWarmReboot w, .modeReqIllegal w]

/-- A write of SYS_MODE_REQ with GO, for each of the commands that make it: BUSY while a transition runs; DONE at once for the mode in
force; Safe at once from any mode after Boot; a transition of Table 2-6 whose condition holds begins, with BUSY, LAST_SEQ and its target,
and touches no other register and no store; every other request is refused with its result and touches neither the mode nor what the
request waits for (R45 to R48, R50, R643). -/
def Obligations.ModeRequests : Prop :=
  ∀ (s : State) (w : BusWrite) (c : Instr), c ∈ modeRequests w → Admitted s Reg.SYS_MODE_REQ w → w.bit 4 = true →
    let q := stored s Reg.SYS_MODE_REQ w
    let code := q.f F.SYS_MODE_REQ_MODE
    let result := if code = (Mode.ofCode code).code then q.transitionCheck (Mode.ofCode code) else 2
    (q.flag F.SYS_MODE_BUSY = true → Reaches c s (fun t =>
      t.f F.SYS_MODE_RESULT = 3 ∧ t.flag F.SYS_MODE_BUSY = true ∧ t.sys = q.sys ∧ t.mode = q.mode ∧ t.mem = q.mem ∧ t.chans = q.chans)) ∧
    (q.flag F.SYS_MODE_BUSY = false → code = q.mode.code → Reaches c s (fun t =>
      t.f F.SYS_MODE_RESULT = 1 ∧ t.f F.SYS_MODE_LAST_SEQ = q.f F.SYS_MODE_REQ_SEQ ∧ t.flag F.SYS_MODE_BUSY = false ∧ t.sys = q.sys ∧
        t.mode = q.mode ∧ t.mem = q.mem ∧ t.chans = q.chans)) ∧
    (q.flag F.SYS_MODE_BUSY = false → code ≠ q.mode.code → code = 11 → q.mode ≠ .boot → Reaches c s (fun t =>
      t.mode = .safe ∧ t.f F.SYS_MODE_RESULT = 1)) ∧
    (q.flag F.SYS_MODE_BUSY = false → code ≠ q.mode.code → (code = 11 → q.mode = .boot) → result = 1 → q.sys.testNow = none → Reaches c s (fun t =>
      t.flag F.SYS_MODE_BUSY = true ∧ t.f F.SYS_MODE_LAST_SEQ = q.f F.SYS_MODE_REQ_SEQ ∧ t.mode = q.mode ∧
        t.sys = { q.sys with target := some (Mode.ofCode code), source := q.mode, reqSeq := q.f F.SYS_MODE_REQ_SEQ } ∧
        OnlyRegs [Reg.SYS_MODE_REQ, Reg.SYS_MODE] q t ∧ t.mem = q.mem ∧ t.chans = q.chans ∧ t.ctxs = q.ctxs)) ∧
    (q.flag F.SYS_MODE_BUSY = false → code ≠ q.mode.code → (code = 11 → q.mode = .boot) → result ≠ 1 → Reaches c s (fun t =>
      t.f F.SYS_MODE_RESULT = result ∧ t.flag F.SYS_MODE_BUSY = false ∧ t.sys = q.sys ∧ t.mode = q.mode ∧ t.mem = q.mem ∧ t.chans = q.chans))

/-- MODE_TRANSITION_DONE: a transition that still waits for a descriptor or a work item goes on waiting; else BUSY falls, the mode is the
requested one and RESULT is DONE, and a warm reboot sets WARM in Boot, where the fuses, network time, the meter and the pending commands
are as they were (R48, R62, R63). -/
def Clause.TransitionsEnd : Prop :=
  ∀ s : State,
    ((s.sys.target = none ∨ s.flag F.SYS_MODE_BUSY = false ∨ s.transitionWaits = true) → Reaches .modeTransitionDone s (fun t => t = s)) ∧
    (∀ m, s.sys.target = some m → s.flag F.SYS_MODE_BUSY = true → s.transitionWaits = false →
      (m ∈ [.idle, .calibrate, .load, .characterise, .selftest] → Reaches .modeTransitionDone s (fun t =>
        t.f F.SYS_MODE_MODE = m.code ∧ t.flag F.SYS_MODE_BUSY = false ∧ t.f F.SYS_MODE_RESULT = 1 ∧ t.sys.target = none ∧ t.sec = s.sec)) ∧
      (m = .standby → Reaches .modeTransitionDone s (fun t =>
        t.f F.SYS_MODE_MODE = Mode.standby.code ∧ t.flag F.SYS_MODE_BUSY = false ∧ t.mem = [] ∧ t.domState 42 = 4 ∧ t.sec.fuses = s.sec.fuses)) ∧
      (m = .boot → Reaches .modeTransitionDone s (fun t =>
        t.f F.SYS_MODE_MODE = Mode.boot.code ∧ t.flag F.SYS_RESET_CAUSE_WARM = true ∧ t.f F.SYS_MODE_RESULT = 1 ∧
          t.sec.fuses = s.sec.fuses ∧ t.ntm = s.ntm ∧ t.clk = s.clk ∧ t.pending = s.pending ∧ t.arch.cells = s.arch.cells)))

/-- WAKE_SOURCE and the fabric's WAKE row begin Boot from Standby with WAKE set, and during Standby entry end it, ABORTED_WAKE; a source
that is not enabled does nothing (R63, R388). -/
def Obligations.WakeFromStandby : Prop :=
  (∀ (s : State) (src : Nat), s.mode = .standby →
    (src = 0 ∨ (src = 1 ∧ s.flag F.PWR_STBY_CFG_WAKE_FABRIC = true) ∨
      (2 ≤ src ∧ bitAt (s.f F.PWR_STBY_CFG_WAKE_EVT) ((src - 2) % 16) = true)) →
    Reaches (.wakeSource src) s (fun t => t.f F.SYS_MODE_MODE = Mode.boot.code ∧ t.flag F.SYS_RESET_CAUSE_WAKE = true ∧ t.sys.woke = true ∧
      t.sys.savedDoms = s.sys.savedDoms ∧ t.sec.fuses = s.sec.fuses)) ∧
  (∀ s : State, s.mode ≠ .standby → s.flag F.SYS_MODE_BUSY = true → s.sys.target = some .standby → Reaches (.wakeSource 0) s (fun t =>
    t.flag F.SYS_MODE_BUSY = false ∧ t.f F.SYS_MODE_RESULT = 5 ∧ t.sys.target = none ∧ t.mode = s.mode ∧ t.mem = s.mem)) ∧
  (∀ s : State, s.flag F.PWR_STBY_CFG_WAKE_FABRIC = false → Reaches (.wakeSource 1) s (fun t => t = s) ∧ Reaches (.rowWake 0) s (fun t => t = s)) ∧
  (∀ s : State, s.mode = .standby → s.portState 0 = 3 → s.flag F.PWR_STBY_CFG_WAKE_FABRIC = true → Reaches (.rowWake 0) s (fun t =>
    t.f F.SYS_MODE_MODE = Mode.boot.code ∧ t.flag F.SYS_RESET_CAUSE_WAKE = true))

/-- Entry to Cold, by first power, a rail loss or PERST_N: every ball is open, nothing waits in a store, the cause is kept, and the fuses,
the Archive's bytes and the test access port are as they were; a loss of VDD_AON takes the causes along; a device without supply takes
no further loss (R12, R53, R54, R57, Table 2-9). COLD_EXIT begins Boot with the rails of groups 1 to 5 good, and acts in Cold alone
(R55). -/
def Obligations.ColdEntries : Prop :=
  (∀ (s : State) (inOrder : Bool), (s.sys.unpowered = true ∨ s.mode = .cold) → Reaches (.firstRailRamp inOrder) s (fun t =>
    t.mode = .cold ∧ t.flag F.SYS_RESET_CAUSE_POR = true ∧ t.sys.railsWrong = !inOrder ∧ t.mem = [] ∧ t.chans = [] ∧
      t.sec.fuses = s.sec.fuses ∧ t.arch.cells = s.arch.cells ∧ t.pending = s.pending)) ∧
  (∀ s : State, s.sys.unpowered = false → s.mode ≠ .cold → Reaches (.railLoss false) s (fun t =>
    t.mode = .cold ∧ t.flag F.SYS_RESET_CAUSE_RAIL = true ∧ t.mem = [] ∧ t.chans = [] ∧ t.sec.fuses = s.sec.fuses ∧
      t.arch.cells = s.arch.cells ∧ t.tap = s.tap)) ∧
  (∀ s : State, s.sys.unpowered = false → Reaches (.railLoss true) s (fun t =>
    t.mode = .cold ∧ t.rd Reg.SYS_RESET_CAUSE = 0 ∧ t.mem = [] ∧ t.chans = [] ∧ t.sec.fuses = s.sec.fuses)) ∧
  (∀ s : State, s.sys.unpowered = false → s.mode ≠ .cold → Reaches .perstNLow s (fun t =>
    t.mode = .cold ∧ t.flag F.SYS_RESET_CAUSE_PERST = true ∧ t.mem = [] ∧ t.chans = [] ∧ t.sec.fuses = s.sec.fuses ∧ t.tap = s.tap)) ∧
  (∀ (s : State) (vdh vdl : Nat), s.sys.unpowered = false → s.mode = .cold → Reaches (.coldExit vdh vdl) s (fun t =>
    t.mode = .boot ∧ t.f ⟨Reg.PWR_SUPPLY_STATUS, 0, 12⟩ = 0xFFF ∧ (s.sys.railsWrong = true → t.flag F.SYS_RESET_CAUSE_SEQ = true) ∧
      (∀ b, b < 4 → t.flag (F.PWR_DOM_STATUS_VDH_GOOD (32 + b)) = bitAt vdh b ∧ t.flag (F.PWR_DOM_STATUS_VDL_GOOD (32 + b)) = bitAt vdl b) ∧
      t.mem = s.mem ∧ t.chans = s.chans)) ∧
  (∀ (s : State) (vdh vdl : Nat), (s.sys.unpowered = true ∨ s.mode ≠ .cold) → Reaches (.coldExit vdh vdl) s (fun t => t = s))

/-- BOOT_COMPLETE: with an image that the boot ROM accepts, both stacks trained, and no fence, window or errata bundle that could stop it,
Boot ends in Idle with STEP 8, the image's version shown and MSI-X on; with no image it ends in Safe and recovery service with ERR 0x11
(R60, R61, R574). -/
def Obligations.BootEnds : Prop :=
  (∀ (s : State) (r : BootReport), s.mode ≠ .boot → Reaches (.bootComplete r) s (fun t => t = s)) ∧
  (∀ (s : State) (r : BootReport), s.mode = .boot → s.loadFuses.bootImage r = none → Reaches (.bootComplete r) s (fun t =>
    t.mode = .safe ∧ t.sys.recovery = true ∧ t.f F.SYS_BOOT_STATUS_ERR = 0x11 ∧ t.sec = s.sec)) ∧
  (∀ (s : State) (r : BootReport) (n ver digest : Nat), s.mode = .boot → s.loadFuses.bootImage r = some (n, ver, digest) → ver < 2 ^ 32 →
    r.stack0 = true → r.stack1 = true → s.fcl.fences = [] → s.fcl.windows = [] → s.arch.activeSlot errataBase = none →
    Reaches (.bootComplete r) s (fun t =>
      t.f F.SYS_MODE_MODE = Mode.idle.code ∧ t.f F.SYS_BOOT_STATUS_STEP = 8 ∧ t.rd Reg.SYS_BOOT_VER = BitVec.ofNat 32 ver ∧
        t.sys.msixOn = true ∧ t.sec.image = n ∧ t.sec.fuses = s.sec.fuses))

/-- SELFTEST_TEST_END: without a test it does nothing; the last test that finds no fault ends the run with DONE; the Archive's test
records what it found (R644). -/
def Clause.SelftestEnds : Prop :=
  (∀ (s : State) (bad : List (Nat × Nat)), s.sys.testNow = none → Reaches (.selftestTestEnd bad) s (fun t => t = s)) ∧
  (∀ (s : State) (k : Nat), s.sys.testNow = some k → s.sys.testsLeft = [] → s.mode = .selftest → Reaches (.selftestTestEnd []) s (fun t =>
    t.flag F.SYS_SELFTEST_STATUS_DONE = true ∧ t.sys.testNow = none ∧ t.f F.SYS_SELFTEST_STATUS_FAILED = s.f F.SYS_SELFTEST_STATUS_FAILED ∧
      t.mem = s.mem ∧ t.mode = s.mode)) ∧
  (∀ (s : State) (a : Nat), s.sys.testNow = some 7 → s.sys.testsLeft = [] → s.mode = .selftest → Reaches (.selftestTestEnd [(0xE006, a)]) s (fun t =>
    t.flag ⟨Reg.SYS_SELFTEST_STATUS, 15, 1⟩ = true ∧ t.flag F.SYS_SELFTEST_STATUS_DONE = true ∧ t.mem = s.mem))

/-- A mode transition ends, and the in-service tests of Selftest end. -/
def Obligations.TransitionsAndTests : Prop := Clause.TransitionsEnd ∧ Clause.SelftestEnds

/-- The commands that write PWR_DOM_CTRL. -/
def domRequests (d : Nat) (w : BusWrite) : List Instr := [.domReqOn d w, .domReqOff d w, .domReqIso d w, .domReqLow d w]

/-- A write of PWR_DOM_CTRL (R65, R642): a request for the state in force, or the one a ramp leads to, changes nothing; a refused one sets
ERR in the domain's status register and changes nothing else; a domain that must ramp reads RAMP until DOM_RAMP_DONE; any other move is
made at once. -/
def Clause.DomainRequests : Prop :=
  (∀ (s : State) (d : Nat) (w : BusWrite) (c : Instr), c ∈ domRequests d w → d < 50 → Admitted s (Reg.PWR_DOM_CTRL d) w →
    let q := stored s (Reg.PWR_DOM_CTRL d) w
    let req := q.f (F.PWR_DOM_CTRL_REQ d)
    let same := q.domState d = domTarget req ∨ (q.domState d = 1 ∧ SMap.get 2 q.sys.ramp d = domTarget req)
    let ramps := needsRamp (q.domState d) (domTarget req) = true ∨ (q.domState d = 1 ∧ domTarget req ≠ 0)
    (same → Reaches c s (fun t => t = q)) ∧
    (¬ same → q.domRefusal d req ≠ 0 → Reaches c s (fun t =>
      t.f (F.PWR_DOM_STATUS_ERR d) = q.domRefusal d req ∧ t.domState d = q.domState d ∧ OnlyRegs [Reg.PWR_DOM_STATUS d] q t ∧ SameBeyondRegs q t)) ∧
    (¬ same → q.domRefusal d req = 0 → ramps → Reaches c s (fun t =>
      t.domState d = 1 ∧ SMap.get 2 t.sys.ramp d = domTarget req ∧ OnlyRegs [Reg.PWR_DOM_STATUS d] q t ∧ t.mem = q.mem ∧ t.chans = q.chans)) ∧
    (¬ same → q.domRefusal d req = 0 → ¬ ramps → Reaches c s (fun t => t.domState d = domTarget req ∧ t.sec = q.sec ∧ t.ntm = q.ntm))) ∧
  (∀ (s : State) (d : Nat), s.domState d ≠ 1 → Reaches (.domRampDone d) s (fun t => t = s)) ∧
  (∀ (s : State) (d : Nat), d < 50 → s.domState d = 1 → 2 ≤ SMap.get 2 s.sys.ramp d → SMap.get 2 s.sys.ramp d ≤ 4 →
    Reaches (.domRampDone d) s (fun t => t.domState d = SMap.get 2 s.sys.ramp d ∧ t.mem = s.mem ∧ t.sec = s.sec))

/-- BAY_RAIL_LOSS turns the bay's pin-die domain, its eight shelves and its PMU/ADC domain OFF and fences the bay; BAY_RAIL_GOOD shows the
rail good and leaves every domain as it is (R53). -/
def Clause.BayRails : Prop :=
  (∀ (s : State) (b : Nat) (vdh : Bool), b < 4 → s.mode ≠ .cold → s.mode ≠ .boot → s.mode ≠ .standby → s.domRails (32 + b) = true →
    Reaches (.bayRailLoss b vdh) s (fun t => t.domState (32 + b) = 0 ∧ t.domState (36 + b) = 0 ∧ (∀ i, i < 8 → t.domState (8 * b + i) = 0) ∧
      t.fenced (unitCode 3 b) = true ∧ t.domRails (32 + b) = false)) ∧
  (∀ (s : State) (b : Nat) (vdh : Bool), b < 4 → s.mode ≠ .cold → Reaches (.bayRailGood b vdh) s (fun t =>
    t.flag (if vdh then F.PWR_DOM_STATUS_VDH_GOOD (32 + b) else F.PWR_DOM_STATUS_VDL_GOOD (32 + b)) = true ∧
      (∀ d, d < 50 → t.domState d = s.domState d) ∧ t.mem = s.mem ∧ t.chans = s.chans ∧ t.fcl.fences = s.fcl.fences))

/-- The power domains: requests for one, and the ends of the rails' ramps. -/
def Obligations.PowerDomains : Prop := Clause.DomainRequests ∧ Clause.BayRails

/-! ### Pin channels (03_pin_channels.md) -/

/-- A channel's control, level, termination, static and park writes (R71, R78, R80, R83 to R87, R96): in Idle, PATH = PE connects the PE of
a powered, unfenced channel under its static symbol and PATH = 0 opens the ball; a changed level or termination makes the channel settle;
a static symbol acts at once on a channel that shows it; a park value acts at once on a parked channel and at the next leaf on one that
an active context plays. Each leaves the stores alone, and all but a park write every other channel. -/
def Obligations.ChannelWrites : Prop :=
  (∀ (s : State) (ch : Nat) (w : BusWrite), ch < 256 → Admitted s (Reg.CHN_CTRL ch) w → s.mode = .idle → s.chPowered ch = true →
    s.chFenced ch = false → (s.chan ch).reconnect = none → (s.chan ch).wideNow = (stored s (Reg.CHN_CTRL ch) w).wide ch →
    (stored s (Reg.CHN_CTRL ch) w).rd (Reg.CHN_CTRL ch) ≠ s.rd (Reg.CHN_CTRL ch) →
    let q := stored s (Reg.CHN_CTRL ch) w
    ((s.chan ch).conn = 0 → q.f (F.CHN_CTRL_PATH ch) = 1 → Reaches (.chnCtrlWrite ch w) s (fun t =>
      (t.chan ch).conn = 1 ∧ (t.chan ch).ctl = .static ∧ (t.chan ch).out = q.staticOut ch ∧ (t.chan ch).settling = true ∧
        (∀ k, k ≠ ch → t.chan k = s.chan k) ∧ t.mem = s.mem)) ∧
    ((s.chan ch).conn ≠ 0 → q.f (F.CHN_CTRL_PATH ch) = 0 → Reaches (.chnCtrlWrite ch w) s (fun t =>
      (t.chan ch).conn = 0 ∧ (t.chan ch).out = .opened ∧ (∀ k, k ≠ ch → t.chan k = s.chan k) ∧ t.mem = s.mem))) ∧
  (∀ (s : State) (ch i : Nat) (w : BusWrite), ch < 256 → i < 5 → Admitted s (Reg.CHN_VIH ch + 4 * i) w → s.mode = .idle →
    (stored s (Reg.CHN_VIH ch + 4 * i) w).rd (Reg.CHN_VIH ch + 4 * i) ≠ s.rd (Reg.CHN_VIH ch + 4 * i) →
    Reaches (.chnLevelWrite ch i w) s (fun t => (t.chan ch).settling = true ∧ (∀ k, k ≠ ch → t.chan k = s.chan k) ∧ t.mem = s.mem)) ∧
  (∀ (s : State) (ch : Nat) (w : BusWrite), ch < 256 → Admitted s (Reg.CHN_TERM ch) w → s.mode = .idle →
    (stored s (Reg.CHN_TERM ch) w).rd (Reg.CHN_TERM ch) ≠ s.rd (Reg.CHN_TERM ch) →
    Reaches (.chnTermWrite ch w) s (fun t => (t.chan ch).settling = true ∧ (∀ k, k ≠ ch → t.chan k = s.chan k) ∧ t.mem = s.mem)) ∧
  (∀ (s : State) (ch : Nat) (w : BusWrite), ch < 256 → Admitted s (Reg.CHN_STATIC ch) w → (s.chan ch).ctl = .static →
    (s.chan ch).conn = 1 → s.chFenced ch = false →
    Reaches (.chnStaticWrite ch w) s (fun t => (t.chan ch).out = (stored s (Reg.CHN_STATIC ch) w).staticOut ch ∧ (t.chan ch).conn = 1 ∧
      (∀ k, k ≠ ch → t.chan k = s.chan k) ∧ t.mem = s.mem)) ∧
  (∀ (s : State) (ch : Nat) (w : BusWrite), ch < 256 → Admitted s (Reg.CHN_PARK ch) w → (s.chan ch).ctl = .parked → (s.chan ch).conn ≠ 0 →
    ((∀ c, s.owner ch = some c → (s.ctxState c).active = false) → Reaches (.chnParkWrite ch w) s (fun t =>
      (t.chan ch).out = (stored s (Reg.CHN_PARK ch) w).parkOut ch ∧ (t.chan ch).ctl = .parked ∧ t.mem = s.mem)) ∧
    (∀ c, s.owner ch = some c → (s.ctxState c).active = true → Reaches (.chnParkWrite ch w) s (fun t =>
      (t.ctx c).due = (s.ctx c).due ++ [(1, .repark ch)] ∧ (t.chan ch).out = (s.chan ch).out ∧ t.mem = s.mem)))

/-- A channel's fence (R89 to R93): SET fences it with cause HOST, and where no active context plays it parks at once; CLEAR frees it when
no uncleared fault of it remains, its fence is its own and its owner rests, and else stays pending until CHN_FENCE_RELEASE. SETTLING_DONE
ends the settling (R96). -/
def Clause.ChannelFences : Prop :=
  (∀ (s : State) (ch : Nat) (w : BusWrite), ch < 256 → Admitted s (Reg.CHN_FENCE ch) w → w.bit 0 = true → w.bit 1 = false →
    (stored s (Reg.CHN_FENCE ch) w).chFenced ch = false →
    Reaches (.chnFenceSet ch w) s (fun t => t.f (F.CHN_FENCE_CAUSE ch) = 1 ∧ t.fenced (unitCode 1 ch) = true ∧ t.mem = s.mem ∧
      ((∀ c, s.owner ch = some c → (s.ctxState c).active = false) → (s.chan ch).conn ≠ 0 → (t.chan ch).ctl = .parked))) ∧
  (∀ (s : State) (ch : Nat) (w : BusWrite), ch < 256 → Admitted s (Reg.CHN_FENCE ch) w → w.bit 0 = false → w.bit 1 = true →
    let q := stored s (Reg.CHN_FENCE ch) w
    (q.mayUnfence ch = true → Reaches (.chnFenceClear ch w) s (fun t => t.f (F.CHN_FENCE_CAUSE ch) = 0 ∧
      t.flag (F.CHN_FENCE_CLEAR_PENDING ch) = false ∧ t.mem = s.mem)) ∧
    (q.mayUnfence ch = false → q.chFenced ch = true → Reaches (.chnFenceClear ch w) s (fun t =>
      t.f (F.CHN_FENCE_CAUSE ch) = q.f (F.CHN_FENCE_CAUSE ch) ∧ t.flag (F.CHN_FENCE_CLEAR_PENDING ch) = true ∧ t.chans = q.chans ∧
        t.mem = s.mem))) ∧
  (∀ (s : State) (ch : Nat), ch < 256 → s.fence (unitCode 3 (ch / 64)) = none → s.fence (unitCode 2 (ch / 8)) = none →
    s.f F.FCL_FENCE_CMD_RESULT ≠ 2 →
    (s.flag (F.CHN_FENCE_CLEAR_PENDING ch) = true → s.mayUnfence ch = true → Reaches (.chnFenceRelease ch) s (fun t =>
      t.f (F.CHN_FENCE_CAUSE ch) = 0 ∧ t.flag (F.CHN_FENCE_CLEAR_PENDING ch) = false ∧ t.mem = s.mem)) ∧
    (s.flag (F.CHN_FENCE_CLEAR_PENDING ch) = false ∨ s.mayUnfence ch = false → Reaches (.chnFenceRelease ch) s (fun t => t = s))) ∧
  (∀ (s : State) (ch : Nat), (s.chan ch).reconnect = none → Reaches (.settlingDone ch) s (fun t =>
    t.chan ch = { s.chan ch with settling := false } ∧ (∀ k, k ≠ ch → t.chan k = s.chan k) ∧ t.regs = s.regs ∧ t.mem = s.mem))

/-- The driver's own guards (R91, R92): an overvoltage on a fast-mode ball with its PE on it, and an overcurrent, set their status bit and
fence the channel; a current limit that is reached sets ILIM alone; none acts on a ball without its PE. CHARACTERISE_TIMING_WRITE leaves
a timing register with the written value and starts nothing else (R125). -/
def Clause.ChannelGuards : Prop :=
  (∀ (s : State) (ch : Nat), ch < 256 → s.wide ch = false → s.peConnected ch = true → Reaches (.overvolt ch) s (fun t =>
    t.flag (F.CHN_STATUS_OVERVOLT ch) = true ∧ t.fenced (unitCode 1 ch) = true)) ∧
  (∀ (s : State) (ch : Nat), (s.wide ch = true ∨ s.peConnected ch = false) → Reaches (.overvolt ch) s (fun t => t = s)) ∧
  (∀ (s : State) (ch : Nat), ch < 256 → s.peConnected ch = true → Reaches (.ilimReached ch) s (fun t =>
    t.flag (F.CHN_STATUS_ILIM ch) = true ∧ OnlyRegs [Reg.CHN_STATUS ch] s t ∧ SameBeyondRegs s t)) ∧
  (∀ (s : State) (ch : Nat), ch < 256 → s.peConnected ch = true → Reaches (.overcurrent ch) s (fun t =>
    t.flag (F.CHN_STATUS_ILIM ch) = true ∧ t.fenced (unitCode 1 ch) = true)) ∧
  (∀ (s : State) (ch : Nat), s.peConnected ch = false → Reaches (.ilimReached ch) s (fun t => t = s) ∧ Reaches (.overcurrent ch) s (fun t => t = s)) ∧
  (∀ (s : State) (ch k i : Nat) (w : BusWrite), ch < 256 → k < 64 → i < 6 → Admitted s (Reg.EDG_TS_D1 ch k + 4 * i) w →
    Reaches (.characteriseTimingWrite (Reg.EDG_TS_D1 ch k + 4 * i) w) s (fun t => t = stored s (Reg.EDG_TS_D1 ch k + 4 * i) w))

/-- The fences of a channel and the guards that watch it. -/
def Obligations.ChannelFencesAndGuards : Prop := Clause.ChannelFences ∧ Clause.ChannelGuards

/-! ### The Reader's sequence words (06_reader.md) -/

/-- A word command acts only where the context runs its program and the word at the resolver's position has that operation. -/
def Clause.WordsOnlyInPlace : Prop :=
  ∀ (s : State) (c : Nat) (i : Instr) (op : Nat),
    (i, op) ∈ [(.wordNop c, 0x00), (.wordPlay c, 0x01), (.wordPlayc c, 0x02), (.wordLoop c, 0x03), (.wordEndloop c, 0x04), (.wordCall c, 0x05),
      (.wordReturn c, 0x06), (.wordWait c, 0x07), (.wordMatch c, 0x08), (.wordBranch c, 0x09), (.wordSync c, 0x0A), (.wordSitemask c, 0x0B),
      (.wordTset c, 0x0C), (.wordPeriod c, 0x0D), (.wordMark c, 0x0E), (.wordHold c, 0x0F), (.wordHalt c, 0x10), (.wordEnd c, 0x11)] →
    ¬ AtWord s c op → Reaches i s (fun t => t = s)

/-- The words that lead the program (R156, R159, R160, R170, R178, R182): each moves the resolver, its call and loop stacks, its watches and
its plan as Table 6-1 says, and nothing outside the context. -/
def Clause.FlowWords : Prop :=
  ∀ (s : State) (c : Nat), let x := s.ctx c
    let word := s.seqX c x.pos
    let y := s.seqY c x.pos
    (AtWord s c 0x00 → Reaches (.wordNop c) s (fun t => t.ctx c = { x with pos := x.pos + 1, lack := 0 } ∧ OnlyCtx c s t)) ∧
    (AtWord s c 0x03 → Reaches (.wordLoop c) s (fun t =>
      t.ctx c = { x with pos := x.pos + 1, lack := 0, loops := { body := x.pos + 1, left := y } :: x.loops } ∧ OnlyCtx c s t)) ∧
    (AtWord s c 0x04 → ∀ l ls, x.loops = l :: ls → Reaches (.wordEndloop c) s (fun t =>
      t.ctx c = (if 1 < l.left then { x with pos := l.body, lack := 0, loops := { l with left := l.left - 1 } :: ls }
        else { x with pos := x.pos + 1, lack := 0, loops := ls }) ∧ OnlyCtx c s t)) ∧
    (AtWord s c 0x05 → Reaches (.wordCall c) s (fun t =>
      t.ctx c = { x with pos := y % 4096, lack := 0, watch := 0, calls := { ret := x.pos + 1, susp := x.susp } :: x.calls, susp := none } ∧
        OnlyCtx c s t)) ∧
    (AtWord s c 0x06 → ∀ f fs, x.calls = f :: fs → Reaches (.wordReturn c) s (fun t =>
      t.ctx c = { x with pos := f.ret, lack := 0, watch := 0, calls := fs, susp := f.susp } ∧ OnlyCtx c s t)) ∧
    (AtWord s c 0x09 → Reaches (.wordBranch c) s (fun t =>
      (t.ctx c).watches = x.watches ++ [{ serial := x.nextId, group := bitAt word 23, pass := bitAt word 22, target := bitsAt word 0 12, left := y }] ∧
        (t.ctx c).watch = x.nextId ∧ (t.ctx c).pre = x.pre ++ [.watch x.nextId] ∧ (t.ctx c).pos = x.pos + 1 ∧ OnlyCtx c s t)) ∧
    (AtWord s c 0x10 → Reaches (.wordHalt c) s (fun t =>
      (∃ p, (t.ctx c).plan = x.plan ++ [p] ∧ p.seg = .halt ∧ p.word = x.pos ∧ p.pre = []) ∧ (t.ctx c).pre = x.pre ∧ (t.ctx c).pos = x.pos + 1 ∧
        OnlyCtx c s t)) ∧
    (AtWord s c 0x11 → Reaches (.wordEnd c) s (fun t =>
      (∃ p, (t.ctx c).plan = x.plan ++ [p] ∧ p.seg = .endRun ∧ p.word = x.pos ∧ p.pre = x.pre) ∧ (t.ctx c).ended = true ∧ OnlyCtx c s t))

/-- The words that hold an effect for the next leaf or play leaves of a special folio (R107, R108, R153, R164, R166, R168, R176, R188): a
PERIOD word that breaks its limits stops the context before the next leaf with PERIOD_INVALID. -/
def Clause.EffectWords : Prop :=
  ∀ (s : State) (c : Nat), let x := s.ctx c
    let word := s.seqX c x.pos
    let y := s.seqY c x.pos
    let waits := fun (t : State) (w : WaitSt) => (∃ p, (t.ctx c).plan = x.plan ++ [p] ∧ p.seg = .wait w ∧ p.word = x.pos ∧ p.pre = x.pre) ∧
      (t.ctx c).pre = [] ∧ (t.ctx c).pos = x.pos + 1 ∧ OnlyCtx c s t
    (AtWord s c 0x0B → Reaches (.wordSitemask c) s (fun t =>
      t.ctx c = { x with pre := x.pre ++ [.mask (word % 2) y (bitAt word 1)], pos := x.pos + 1, lack := 0 } ∧ OnlyCtx c s t)) ∧
    (AtWord s c 0x0C → Reaches (.wordTset c) s (fun t =>
      t.ctx c = { x with pre := x.pre ++ [.tset (if bitAt word 8 then some (word % 64) else none)], pos := x.pos + 1, lack := 0 } ∧ OnlyCtx c s t)) ∧
    (AtWord s c 0x0E → Reaches (.wordMark c) s (fun t =>
      t.ctx c = { x with pre := x.pre ++ [.mark y], pos := x.pos + 1, lack := 0 } ∧ OnlyCtx c s t)) ∧
    (AtWord s c 0x0D →
      (s.periodBad c (bitsAt word 18 6) (bitsAt y 0 28) (bitsAt word 0 16) = false → Reaches (.wordPeriod c) s (fun t =>
        t.ctx c = { x with pre := x.pre ++ [.period (bitsAt word 18 6) (bitsAt y 0 28) (bitsAt word 0 16)], pos := x.pos + 1, lack := 0 } ∧
          OnlyCtx c s t)) ∧
      (s.periodBad c (bitsAt word 18 6) (bitsAt y 0 28) (bitsAt word 0 16) = true → Reaches (.wordPeriod c) s (fun t =>
        (∃ p, (t.ctx c).plan = x.plan ++ [p] ∧ p.seg = .stopAt 0x21 0 0 0) ∧ (t.ctx c).ended = true ∧ (t.ctx c).pos = x.pos ∧ OnlyCtx c s t))) ∧
    (AtWord s c 0x0F → Reaches (.wordHold c) s (fun t =>
      (∃ p, (t.ctx c).plan = x.plan ++ [p] ∧ p.seg = .holdWord y 0 ∧ p.word = x.pos ∧ p.pre = x.pre) ∧ (t.ctx c).pre = [] ∧ OnlyCtx c s t)) ∧
    (AtWord s c 0x07 → Reaches (.wordWait c) s (fun t => waits t
      { src := bitsAt word 20 4, edge := bitsAt word 18 2, holdFolio := bitAt word 17, index := word % 2 ^ 16, timeout := y })) ∧
    (AtWord s c 0x0A → Reaches (.wordSync c) s (fun t => waits t
      { holdFolio := bitAt word 17, timeout := y, group := bitAt word 23, sync := if bitAt word 23 then none else some (word % 2 ^ 16) }))

/-- The words of a folio that act on one context: nothing happens out of place; the words that steer the reading; the words with an effect. -/
def Obligations.ReaderWords : Prop := Clause.WordsOnlyInPlace ∧ Clause.FlowWords ∧ Clause.EffectWords

/-- The words that play a folio (R158, R161, R173, R216, R219): PLAY and MATCH plan the folio that its call number resolves to, PLAY of a
folio its loop opened before plays it from the loop buffer, PLAYC goes on with the suspended folio, and a leaf record that is read and
decoded enters the folio cache with the number of the leaf now playing. -/
def Obligations.FolioWords : Prop :=
  (∀ (s s1 : State) (c : Nat) (f : OpenFolio), AtWord s c 0x01 → (s.ctx c).ahead ≤ 1024 → (s.ctx c).openedBefore (s.ctx c).pos = none →
    s.openFolio c (s.ctx c).pos = (some f, s1) → s1.overrideOk c f = true →
    let n := s.seqX c (s.ctx c).pos
    let upto := if n ≠ 0 ∧ n < f.leaves then n else f.leaves
    Reaches (.wordPlay c) s (fun t =>
      (∃ p, (t.ctx c).plan = (s.ctx c).plan ++ [p] ∧ p.seg = .folio { id := f.id, next := 0, upto := upto } false) ∧
        (t.ctx c).susp = (if n ≠ 0 ∧ n < f.leaves then some { id := f.id, next := n, upto := f.leaves } else none) ∧
        (t.ctx c).pos = (s.ctx c).pos + 1 ∧ t.mem = s.mem ∧ t.chans = s.chans)) ∧
  (∀ (s : State) (c : Nat) (f : OpenFolio), AtWord s c 0x01 → (s.ctx c).ahead ≤ 1024 →
    ((s.ctx c).openedBefore (s.ctx c).pos).bind (s.ctx c).folio = some f → s.overrideOk c f = true →
    Reaches (.wordPlay c) s (fun t =>
      (∃ p, (t.ctx c).plan = (s.ctx c).plan ++ [p] ∧ p.seg = .folio { id := f.id, next := 0, upto := f.leaves } true) ∧
        (t.ctx c).pos = (s.ctx c).pos + 1 ∧ OnlyCtx c s t)) ∧
  (∀ (s : State) (c : Nat) (q : FolioPos) (f : OpenFolio), AtWord s c 0x02 → (s.ctx c).susp = some q → (s.ctx c).folio q.id = some f →
    s.overrideOk c f = true →
    let n := s.seqX c (s.ctx c).pos
    let upto := if n = 0 ∨ q.upto ≤ q.next + n then q.upto else q.next + n
    Reaches (.wordPlayc c) s (fun t =>
      (∃ p, (t.ctx c).plan = (s.ctx c).plan ++ [p] ∧ p.seg = .folio { id := f.id, next := q.next, upto := upto } true) ∧
        (t.ctx c).susp = (if upto < q.upto then some { q with next := upto } else none) ∧ OnlyCtx c s t)) ∧
  (∀ (s s1 : State) (c : Nat) (f : OpenFolio), AtWord s c 0x08 → (s.ctx c).ahead ≤ 1024 →
    (s.onCtx c (fun x => { x with watch := 0 })).openFolio c (s.ctx c).pos = (some f, s1) → s1.overrideOk c f = true →
    let word := s.seqX c (s.ctx c).pos
    Reaches (.wordMatch c) s (fun t =>
      (∃ p m, (t.ctx c).plan = (s1.ctx c).plan ++ [p] ∧ p.seg = .iterate m ∧ m.id = f.id ∧ m.leaves = f.leaves ∧ m.max = bitsAt word 0 20 ∧
        m.group = bitAt word 23 ∧ m.any = bitAt word 22 ∧ m.iter = 1 ∧ m.k = 0 ∧ m.decided = none) ∧ t.mem = s.mem ∧ t.chans = s.chans)) ∧
  (∀ (s : State) (c : Nat) (f : OpenFolio) (rec : List Byte) (l : Leaf), (s.ctxState c).active = true → (s.ctx c).wants.bind (s.ctx c).folio = some f →
    f.fetchOff + 4 ≤ f.bodyBytes → s.readRecord c f = .bytes rec → rec ≠ [] → f.fetchOff + rec.length ≤ f.bodyBytes →
    s.decodeRecord f rec = some l → s.leafTsetBad c l = false →
    Reaches (.leafFetchDone c) s (fun t =>
      (t.ctx c).cache = (s.ctx c).cache ++ [{ id := f.id, leaf := f.fetched, at_ := (s.ctx c).lcnt, data := l }] ∧
        (t.ctx c).plan = (s.ctx c).plan ∧ t.regs = s.regs ∧ t.mem = s.mem ∧ t.chans = s.chans)) ∧
  (∀ (s : State) (c : Nat), ((s.ctxState c).active = false ∨ (s.ctx c).wants = none) → Reaches (.leafFetchDone c) s (fun t => t = s))

/-! ### The Reader's commands, boundaries and waits -/

/-- The commands that write RDR_CTRL. -/
def readerCommands (c : Nat) (w : BusWrite) : List Instr :=
  [.rdrCtrlArm c w, .rdrCtrlStart c w, .rdrCtrlHalt c w, .forcedHalt c w, .rdrCtrlResume c w, .rdrCtrlDisarm c w, .rdrCtrlAck c w]

/-- A write of RDR_CTRL, for each of the commands that make it (Table 6-7, R178 to R183, R187): ARM in IDLE begins the Arm check, START, HALT, FORCE, RESUME and
DISARM fall due the stated number of boundaries later, HALT of a group's context asks the group, ACK of a stopped context makes it IDLE with
no stop code; an unknown command, and START, FORCE, RESUME or ACK in a state that does not allow it, sets CMD_ERR and changes nothing else. -/
def Obligations.ReaderCommands : Prop :=
  ∀ (s : State) (c : Nat) (w : BusWrite) (i : Instr), i ∈ readerCommands c w → c < 16 → AdmittedPlain s (Reg.RDR_CTRL c) w →
    let st := s.ctxState c
    let cmd := w.data.toNat % 128
    let later := fun (n : Nat) (d : Due) (t : State) => (t.ctx c).due = (s.ctx c).due ++ [(n, d)] ∧ OnlyCtx c s t
    (cmd = 0x01 → st = .idle → s.grpBound c = false → (s.ctx c).arming = false → Reaches i s (fun t =>
      (t.ctx c).arming = true ∧ OnlyCtx c s t)) ∧
    (cmd = 0x02 → st = .armed → s.grpBound c = false → Reaches i s (later 3 .start)) ∧
    (cmd = 0x04 → (st = .armed ∨ st.playing = true) → s.inGroup c = false → Reaches i s (later 2 .halt)) ∧
    (cmd = 0x04 → (st = .armed ∨ st.playing = true) → s.inGroup c = true → Reaches i s (fun t =>
      t.grp.haltReq = true ∧ t.regs = s.regs ∧ t.ctxs = s.ctxs ∧ t.mem = s.mem)) ∧
    (cmd = 0x0C → st.active = true → Reaches i s (later 2 .forcedHalt)) ∧
    (cmd = 0x10 → st = .paused → s.grpBound c = false → Reaches i s (later 3 .resume)) ∧
    (cmd = 0x20 → (st = .armed ∨ st = .paused) → Reaches i s (later 2 .disarm)) ∧
    (cmd = 0x40 → st = .stopped → Reaches i s (fun t => t.ctxState c = .idle ∧ t.f (F.RDR_STATUS_STOP c) = 0 ∧ t.mem = s.mem)) ∧
    ((cmd ∉ [0, 0x01, 0x02, 0x04, 0x0C, 0x10, 0x20, 0x40] ∨ (cmd = 0x02 ∧ st ≠ .armed) ∨ (cmd = 0x0C ∧ st.active = false) ∨
        (cmd = 0x10 ∧ st ≠ .paused) ∨ (cmd = 0x40 ∧ st ≠ .stopped)) → Reaches i s (fun t =>
      t.flag (F.RDR_STATUS_CMD_ERR c) = true ∧ t.ctxState c = st ∧ OnlyRegs [Reg.RDR_STATUS c] s t ∧ SameBeyondRegs s t))

/-- The Arm check (R187): one that is not under way changes nothing; one that fails leaves its status and detail and the context in its
state; one that passes leaves the context ARMED with RESULT OK. -/
def Obligations.ArmCheckEnds : Prop :=
  ∀ (s : State) (c start : Nat), c < 16 →
    ((s.ctx c).arming = false → Reaches (.armCheckComplete c start) s (fun t => t = s)) ∧
    ((s.ctx c).arming = true → s.flag (F.STK_FREQ_GO 0) = false → s.flag (F.STK_FREQ_GO 1) = false →
      (∀ st detail, s.armCheck c = .inr (st, detail) → st < 256 → detail < 65536 → Reaches (.armCheckComplete c start) s (fun t =>
        t.f (F.RDR_ARM_STATUS_RESULT c) = st ∧ t.f (F.RDR_ARM_STATUS_DETAIL c) = detail ∧ (t.ctx c).arming = false ∧
          t.ctxState c = s.ctxState c ∧ t.mem = s.mem ∧ t.chans = s.chans)) ∧
      (∀ w idle hold, s.armCheck c = .inl (w, idle, hold) → Reaches (.armCheckComplete c start) s (fun t =>
        t.f (F.RDR_ARM_STATUS_RESULT c) = 1 ∧ (t.ctx c).arming = false ∧ t.ctxState c = .armed ∧ t.mem = s.mem)))

/-- LEAF_BOUNDARY (R20, Table 1-5): a context with nothing to do passes it unchanged; an ARMED one with nothing due plays its idle folio's next
leaf; a halt due makes it PAUSED and a disarm due makes it IDLE. -/
def Obligations.LeafBoundaries : Prop :=
  ∀ (s : State) (c : Nat) (rx : List (Nat × List Byte)), c < 16 → s.flag F.GRP_CFG_EN = false → (s.ctx c).past = [] →
    ((s.ctxState c).active = false → (s.ctx c).due = [] → Reaches (.leafBoundary c rx) s (fun t => t = s)) ∧
    (s.ctxState c = .armed → (s.ctx c).due = [] → Reaches (.leafBoundary c rx) s (fun t =>
      t.ctxState c = .armed ∧ (t.ctx c).lcnt = (s.ctx c).lcnt + 1 ∧ (t.ctx c).curSrc = .idle (s.ctx c).special ∧
        (t.ctx c).special = (s.ctx c).special + 1 ∧ (t.ctx c).plan = (s.ctx c).plan ∧ t.mem = s.mem)) ∧
    (s.ctxState c = .armed → (s.ctx c).due = [(1, .halt)] → Reaches (.leafBoundary c rx) s (fun t =>
      t.ctxState c = .paused ∧ (t.ctx c).before = .armed ∧ (t.ctx c).due = [] ∧ t.mem = s.mem)) ∧
    (s.ctxState c = .armed → (s.ctx c).due = [(1, .disarm)] → Reaches (.leafBoundary c rx) s (fun t =>
      t.ctxState c = .idle ∧ (t.ctx c).plan = [] ∧ t.mem = s.mem)) ∧
    ((s.ctxState c = .armed ∨ s.ctxState c = .paused) → ∀ d n, (s.ctx c).due = [(n + 2, d)] → Reaches (.leafBoundary c rx) s (fun t =>
      (t.ctx c).due = [(n + 1, d)] ∧ t.ctxState c = s.ctxState c))

/-- The Reader's timers and reads (R165 to R167, R185, R189): an expired wait stops the context two leaves on, a WAIT for time is seen once its
time has passed, a refilled hold ends three leaves on and one at its limit at the next leaf; RDR_HOSTFLAG adds to its latches; RDR_VCNT
and RDR_LCNT answer their low part and latch the high part with the wrap bit, which the read takes. -/
def Obligations.ReaderTimers : Prop :=
  (∀ (s : State) (c : Nat) (w : WaitSt), s.ctxState c = .wait → (s.ctx c).waiting = some w →
    (w.expired = true → (∀ d ∈ (s.ctx c).due, d.2 ≠ .stop 0x23) → Reaches (.waitTimeout c) s (fun t =>
      (t.ctx c).due = (s.ctx c).due ++ [(2, .stop 0x23)] ∧ OnlyCtx c s t)) ∧
    (w.expired = false → Reaches (.waitTimeout c) s (fun t => t = s)) ∧
    (w.sync = none → w.group = false → w.src = 5 → w.timeout * 2 ^ 33 ≤ (s.ctx c).acc - w.start → Reaches (.waitTimerExpiry c) s (fun t =>
      (t.ctx c).waiting = some { w with seen := true } ∧ OnlyCtx c s t))) ∧
  (∀ (s : State) (c : Nat), s.ctxState c = .hold → (∀ d ∈ (s.ctx c).due, d.2 ≠ .holdEnd) →
    (s.refilled c = true → Reaches (.holdResume c) s (fun t => (t.ctx c).due = (s.ctx c).due ++ [(3, .holdEnd)] ∧ OnlyCtx c s t)) ∧
    (s.refilled c = false → Reaches (.holdResume c) s (fun t => t = s)) ∧
    ((s.rd (Reg.RDR_HOLD_LIMIT c)).toNat ≠ 0 → (s.rd (Reg.RDR_HOLD_LIMIT c)).toNat ≤ (s.ctx c).held + 1 →
      Reaches (.holdLimitExpired c) s (fun t => (t.ctx c).due = (s.ctx c).due ++ [(1, .stop 0x22)] ∧ OnlyCtx c s t))) ∧
  (∀ (s : State) (c : Nat) (w : BusWrite), c < 16 → AdmittedPlain s (Reg.RDR_HOSTFLAG c) w → Reaches (.rdrHostflagWrite c w) s (fun t =>
    (∀ i, i < 8 → bitAt (t.f (F.RDR_HOSTFLAG_FLAGS c)) i = (bitAt (s.f (F.RDR_HOSTFLAG_FLAGS c)) i || w.bit i)) ∧
      OnlyRegs [Reg.RDR_HOSTFLAG c] s t ∧ SameBeyondRegs s t)) ∧
  (∀ (s : State) (c : Nat), c < 16 →
    Reaches (.rdrVcntRead c false) s (fun t => t.out = s.out ++ [.answer (Reg.RDR_VCNT_LO c) ((s.ctx c).vcnt % 2 ^ 32)] ∧
      t.f (F.RDR_VCNT_HI_HI c) = (s.ctx c).vcnt / 2 ^ 32 % 2 ^ 16 ∧ t.flag (F.RDR_VCNT_HI_WRAP c) = (s.ctx c).vwrap ∧
      (t.ctx c).vwrap = false ∧ (t.ctx c).vcnt = (s.ctx c).vcnt ∧ t.mem = s.mem) ∧
    Reaches (.rdrVcntRead c true) s (fun t => t.out = s.out ++ [.answer (Reg.RDR_LCNT_LO c) ((s.ctx c).lcnt % 2 ^ 32)] ∧
      t.f (F.RDR_LCNT_HI_HI c) = (s.ctx c).lcnt / 2 ^ 32 % 2 ^ 16 ∧ t.flag (F.RDR_LCNT_HI_WRAP c) = (s.ctx c).lwrap ∧
      (t.ctx c).lwrap = false ∧ (t.ctx c).lcnt = (s.ctx c).lcnt ∧ t.mem = s.mem))

/-! ### Edges (04_edges_and_timing_sets.md) and microcode (07_reader_microcode.md) -/

/-- DRIVER_EVENT and STROBE act on the channel's earliest pending event, where it is one of theirs (R76, R79, R80, R118): a drive event gives
the driver its new state; an edge strobe keeps the comparators' outputs, and a failing evaluated expectation marks the channel among its
vector's fails. -/
def Obligations.EdgesAct : Prop :=
  (∀ (s : State) (ch : Nat) (r : Strobed), (s.chan ch).events = [] → Reaches (.driverEvent ch) s (fun t => t = s) ∧ Reaches (.strobe ch r) s (fun t => t = s)) ∧
  (∀ (s : State) (ch : Nat) (e : EdgeEvent) (rest : List EdgeEvent) (r : Strobed), (s.chan ch).events = e :: rest →
    (e.isStrobe = false → Reaches (.driverEvent ch) s (fun t =>
      (t.chan ch).out = driverAfter e (s.chan ch).out ∧ (t.chan ch).events = rest ∧ (t.chan ch).ctl = .pattern ∧
        (∀ k, k ≠ ch → t.chan k = s.chan k) ∧ t.ctxs = s.ctxs ∧ t.mem = s.mem)) ∧
    (e.isStrobe = false → Reaches (.strobe ch r) s (fun t => t = s)) ∧
    (e.isStrobe = true → Reaches (.driverEvent ch) s (fun t => t = s)) ∧
    (e.isStrobe = true → Reaches (.strobe ch r) s (fun t =>
      (t.chan ch).events = rest ∧ (t.chan ch).cmpH = r.h ∧ (t.chan ch).cmpL = r.l ∧ (t.chan ch).out = (s.chan ch).out ∧
        (∀ k, k ≠ ch → t.chan k = s.chan k) ∧ t.mem = s.mem)) ∧
    (e.isStrobe = true → e.strobe ≠ 3 → ∀ c p, s.owner ch = some c → (s.ctx c).pastLeaf e.leaf = some p → s.evaluated p ch = true →
      expectFails e (s.chan ch).out r = true → Reaches (.strobe ch r) s (fun t =>
        ∃ q ∈ (t.ctx c).results, q.leaf = e.leaf ∧ q.vec = e.vector ∧ ch ∈ q.fails)))

/-- Micro-traps (R195 to R198): CS_CORR counts and goes on; CS_UNCORR, STATE_PARITY and WATCHDOG fence the cluster and take its contexts OFF;
BREAK and ASSIST give the thread to their handler, whose end takes the trap held first or frees the thread. -/
def Clause.MicroTraps : Prop :=
  (∀ (s : State) (c mpc : Nat), c < 16 → s.ctxState c ≠ .off → (s.ctx c).trap = none → Reaches (.csCorr c mpc) s (fun t =>
    t.f (F.UCS_TRAP_LAST_CODE (c / 4)) = 1 ∧ t.f (F.UCS_TRAP_LAST_CTX (c / 4)) = c % 4 ∧ t.ctxs = s.ctxs ∧ t.mem = s.mem ∧ t.fcl.fences = s.fcl.fences)) ∧
  (∀ (s : State) (c mpc : Nat), c < 16 → s.fenced (unitCode 4 (c / 4)) = false →
    let ends := fun (code : Nat) (t : State) => t.fenced (unitCode 4 (c / 4)) = true ∧ t.f (F.UCS_TRAP_LAST_CODE (c / 4)) = code ∧
      (∀ i, i < 4 → t.ctxState (4 * (c / 4) + i) = .off)
    (s.ctxState c ≠ .off → Reaches (.csUncorr c mpc) s (ends 2) ∧ Reaches (.stateParity c) s (ends 3)) ∧
    (((s.ctxState c).playing = true ∨ s.ctxState c = .armed) → Reaches (.microWatchdog c) s (ends 4))) ∧
  (∀ (s : State) (c : Nat), c < 16 → (s.ctx c).trap = none →
    ((s.ctxState c).playing = true → s.flag (F.UCS_BRK_EN (c / 4) (c % 4)) = true →
      s.f (F.RDR_POS_WORD c) = s.f (F.UCS_BRK_WORD (c / 4) (c % 4)) →
      Reaches (.microBreak c) s (fun t => (t.ctx c).trap = some 5 ∧ t.f (F.UCS_TRAP_LAST_CODE (c / 4)) = 5 ∧ t.mem = s.mem ∧ t.chans = s.chans)) ∧
    (s.ctxState c ≠ .off → Reaches (.microAssist c) s (fun t =>
      (t.ctx c).trap = some 6 ∧ t.f (F.UCS_TRAP_LAST_CODE (c / 4)) = 6 ∧ t.mem = s.mem ∧ t.chans = s.chans)) ∧
    Reaches (.trapHandlerEnd c) s (fun t => t = s)) ∧
  (∀ (s : State) (c k : Nat), (s.ctx c).trap = some k →
    ((s.ctx c).trapsHeld = [] → Reaches (.trapHandlerEnd c) s (fun t => (t.ctx c).trap = none ∧ OnlyCtx c s t)) ∧
    (∀ n ns, (s.ctx c).trapsHeld = n :: ns → Reaches (.trapHandlerEnd c) s (fun t => (t.ctx c).trap = some n ∧ (t.ctx c).trapsHeld = ns)))

/-- UCS_CMD (R202 to R205): a reload while a context of the cluster is active is refused BUSY, in a mode that forbids it MODE, and otherwise
takes the four contexts OFF while the cluster loads; its end with an acceptable bundle from the Archive makes the cluster READY and its
contexts IDLE with the bundle's version in force. -/
def Clause.ErrataReloads : Prop :=
  (∀ (s : State) (b : Nat) (w : BusWrite), b < 4 → Admitted s (Reg.UCS_CMD b) w → w.bit 0 = true →
    let q := stored s (Reg.UCS_CMD b) w
    let busy := ∃ i, i < 4 ∧ (q.ctxState (4 * b + i)).active = true
    q.flag (F.UCS_CMD_RELOAD b) = false →
    (busy → Reaches (.ucsReload b w) s (fun t => t.f (F.UCS_STATUS_RESULT b) = 2 ∧ t.ctxs = q.ctxs ∧ t.mem = q.mem)) ∧
    (¬ busy → q.mode ∉ [.idle, .armed, .run, .paused, .characterise] → Reaches (.ucsReload b w) s (fun t =>
      t.f (F.UCS_STATUS_RESULT b) = 3 ∧ t.ctxs = q.ctxs ∧ t.mem = q.mem)) ∧
    (¬ busy → q.mode ∈ [.idle, .armed, .run, .paused, .characterise] → Reaches (.ucsReload b w) s (fun t =>
      t.flag (F.UCS_CMD_RELOAD b) = true ∧ t.f (F.UCS_STATUS_STATE b) = 1 ∧ (∀ i, i < 4 → t.ctxState (4 * b + i) = .off) ∧ t.mem = q.mem))) ∧
  (∀ (s : State) (b : Nat) (v v2 : BundleCheck), s.flag (F.UCS_CMD_RELOAD b) = false → Reaches (.ucsReloadDone b v v2) s (fun t => t = s)) ∧
  (∀ (s : State) (b : Nat) (v v2 : BundleCheck) (p : Nat × Nat), b < 4 → s.flag (F.UCS_CMD_RELOAD b) = true → s.f (F.UCS_STATUS_STATE b) = 1 →
    s.flag (F.UCS_CMD_SOURCE b) = false → s.arch.activeSlot errataBase = some p → s.fenced (unitCode 4 b) = false →
    let bytes := s.arch.bytes p.1 (Nat.min 0xFFF8 (bundleLen (s.arch.bytes p.1 128)))
    s.bundleResult b bytes v false = 1 → Reaches (.ucsReloadDone b v v2) s (fun t =>
      t.f (F.UCS_STATUS_RESULT b) = 1 ∧ t.f (F.UCS_STATUS_STATE b) = 2 ∧ t.flag (F.UCS_CMD_RELOAD b) = false ∧
        t.rd (Reg.UCS_BUNDLE_VER b) = BitVec.ofNat 32 (leAt bytes 0x0C 4) ∧ (∀ i, i < 4 → t.ctxState (4 * b + i) = .idle) ∧ t.mem = s.mem))

/-- Traps of the microcode, and the reload of an errata bundle. -/
def Obligations.MicroTrapsAndErrata : Prop := Clause.MicroTraps ∧ Clause.ErrataReloads

/-! ### The library (08_library_and_catalogue.md, 05_folios_and_leaf_code.md) -/

/-- A write of LIB_CMD_OP with GO while the engine is free, for each of the commands that make it (R227, R234, R235, R645, Table 8-5): a
command that is refused ends at once with its result; NONE and the two INVALIDATEs end DONE, the latter with their entries gone from every
cache; EVICT writes the entry with its bits gone into the table's copies; LOAD holds the engine with the parts that are resident
done. While GO reads 1 a write changes nothing. -/
def Obligations.LibraryCommands : Prop :=
  ∀ (s : State) (w : BusWrite) (c : Instr), c ∈ [.libCmdNone w, .libInvalidate w, .libInvalidateAll w, .libLoad w, .libEvict w] →
    (s.flag F.LIB_CMD_OP_GO = true → AdmittedPlain s Reg.LIB_CMD_OP w → Reaches c s (fun t => t = s)) ∧
    (s.flag F.LIB_CMD_OP_GO = false → Admitted s Reg.LIB_CMD_OP w → w.bit 31 = true → s.lib.cur = none → s.lib.queue = [] →
      let q := stored s Reg.LIB_CMD_OP w
      let cmd : LibCmd := { op := q.f F.LIB_CMD_OP_OP, cn := q.f F.LIB_CMD_CN, tgt := q.f F.LIB_CMD_TGT_TARGETS }
      let ended := fun (t : State) (res : Nat) => t.f F.LIB_CMD_STATUS_RESULT = res ∧ t.f F.LIB_CMD_PARTS_PARTS = 0 ∧
        t.f F.LIB_CMD_FAILS_FAILS = 0 ∧ t.flag F.LIB_CMD_OP_GO = false ∧ t.lib.cur = none
      (∀ res, q.libRefuse cmd = .inl res → Reaches c s (fun t => ended t res ∧ t.mem = q.mem ∧ t.lib.caches = q.lib.caches)) ∧
      (q.libMode = true → cmd.op = 0 → Reaches c s (fun t => ended t 1 ∧ t.mem = q.mem ∧ t.lib.caches = q.lib.caches)) ∧
      (q.libMode = true → cmd.op = 1 → Reaches c s (fun t => ended t 1 ∧ t.mem = q.mem ∧ ∀ r x, x ∈ t.cache r → x.1 ≠ cmd.cn)) ∧
      (q.libMode = true → cmd.op = 2 → Reaches c s (fun t => ended t 1 ∧ t.mem = q.mem ∧ ∀ r, t.cache r = [])) ∧
      (∀ e, q.libRefuse cmd = .inr e → cmd.op = 4 → Reaches c s (fun t => ended t 1 ∧ (∀ r x, x ∈ t.cache r → x.1 ≠ cmd.cn) ∧
        t.mem = (q.putEntry (cmd.cn % 2 ^ q.catK)
          (entryWithRes e (BitVec.ofNat 8 (entryRes e) &&& ~~~(BitVec.ofNat 8 (cmd.tgt % 4))).toNat)).mem)) ∧
      (∀ e, q.libRefuse cmd = .inr e → cmd.op = 3 → Reaches c s (fun t =>
        t.lib.cur = some cmd ∧ t.lib.load.entry = e ∧ t.lib.load.done = resident cmd.tgt e ∧ t.flag F.LIB_CMD_OP_GO = true)))

/-- A LOAD in progress (R231 to R233): with none, its events do nothing; bytes that come bad end it DATA_ERROR, a bad folio header with result 8; a part written good is
done with the folio's bytes at its address, one whose writing fails is failed; a LOAD of one part that makes no progress ends TIMEOUT;
the commit of a LOAD of this device alone ends DONE with the entry's caches dropped, one with members waits for their acknowledgements,
and one that a member does not acknowledge ends PARTIAL. -/
def Clause.LoadProgress : Prop :=
  (∀ s : State, s.lib.cur = none → (∀ part ok, Reaches (.loadPartDone part ok) s (fun t => t = s)) ∧
    (∀ part, Reaches (.loadPartTimeout part) s (fun t => t = s)) ∧ Reaches .loadCommit s (fun t => t = s) ∧
    (∀ m, Reaches (.commitAckTimeout m) s (fun t => t = s))) ∧
  (∀ (s : State) (c : LibCmd) (part : Nat) (bs : List Byte) (bad : Bool), s.lib.cur = some c → s.lib.load.waits c part = true →
    s.loadBytes = some (bs, bad) →
    (∀ ok, bad = true → c.desc = none → s.lib.queue = [] → Reaches (.loadPartDone part ok) s (fun t =>
      t.f F.LIB_CMD_STATUS_RESULT = 7 ∧ t.flag F.LIB_CMD_OP_GO = false ∧ t.lib.cur = none ∧ t.mem = s.mem)) ∧
    (∀ ok, bad = false → s.lib.load.checked = false → folioHeaderOk (bs.take 64) (entryLength s.lib.load.entry) = false → c.desc = none →
      s.lib.queue = [] → Reaches (.loadPartDone part ok) s (fun t =>
        t.f F.LIB_CMD_STATUS_RESULT = 8 ∧ t.flag F.LIB_CMD_OP_GO = false ∧ t.lib.cur = none ∧ t.mem = s.mem)) ∧
    (bad = false → s.lib.load.checked = true → (s.lib.load.done ||| setBitTo s.lib.load.fails part true) &&& c.tgt ≠ c.tgt →
      Reaches (.loadPartDone part false) s (fun t => bitAt t.lib.load.fails part = true ∧ t.lib.cur = some c ∧ t.mem = s.mem)) ∧
    (bad = false → s.lib.load.checked = true → s.lib.load.fails = 0 → part < 2 →
      (s.stkWrite (entryLocal s.lib.load.entry part) 5 bs (fun _ => false)).1 = none →
      Reaches (.loadPartDone part true) s (fun t => bitAt t.lib.load.done part = true ∧ t.lib.cur = some c ∧
        t.mem = (s.stkWrite (entryLocal s.lib.load.entry part) 5 bs (fun _ => false)).2.mem))) ∧
  (∀ (s : State) (c : LibCmd) (part : Nat), s.lib.cur = some c → c.desc = none → s.lib.queue = [] → part < 18 → c.tgt = 2 ^ part →
    s.lib.load.acks = none → s.lib.load.done = 0 → s.lib.load.fails = 0 → s.lib.load.timeouts = 0 → Reaches (.loadPartTimeout part) s (fun t =>
      t.f F.LIB_CMD_STATUS_RESULT = 9 ∧ t.f F.LIB_CMD_FAILS_FAILS = 2 ^ part ∧ t.f F.LIB_CMD_PARTS_PARTS = 0 ∧
        t.flag F.LIB_CMD_OP_GO = false ∧ t.lib.cur = none ∧ t.mem = s.mem)) ∧
  (∀ (s : State) (c : LibCmd), s.lib.cur = some c →
    (s.lib.load.acks.isSome = true ∨ s.lib.load.done &&& c.tgt ≠ c.tgt → Reaches .loadCommit s (fun t => t = s)) ∧
    (s.lib.load.acks = none → s.lib.load.done &&& c.tgt = c.tgt → c.tgt < 4 → c.desc = none → s.lib.queue = [] → Reaches .loadCommit s (fun t =>
      t.f F.LIB_CMD_STATUS_RESULT = 1 ∧ t.f F.LIB_CMD_PARTS_PARTS = c.tgt ∧ t.f F.LIB_CMD_FAILS_FAILS = 0 ∧ t.flag F.LIB_CMD_OP_GO = false ∧
        t.lib.cur = none ∧ ∀ r x, x ∈ t.cache r → x.1 ≠ c.cn)) ∧
    (s.lib.load.acks = none → s.lib.load.done &&& c.tgt = c.tgt → 4 ≤ c.tgt → Reaches .loadCommit s (fun t =>
      t.lib.cur = some c ∧ t.lib.load.acks = some (c.tgt / 4) ∧ t.mem = s.mem))) ∧
  (∀ (s : State) (c : LibCmd) (m left : Nat), m < 16 → s.lib.cur = some c → s.lib.load.acks = some left →
    (bitAt left m = false → Reaches (.commitAckTimeout m) s (fun t => t = s)) ∧
    (bitAt left m = true → c.desc = none → s.lib.queue = [] → Reaches (.commitAckTimeout m) s (fun t =>
      t.f F.LIB_CMD_STATUS_RESULT = 2 ∧ t.f F.LIB_CMD_FAILS_FAILS = 2 ^ (m + 2) ∧ t.flag F.LIB_CMD_OP_GO = false ∧ t.lib.cur = none ∧
        t.mem = s.mem)))

/-- The prefetcher (R220, R221): for an open streamed folio of an active context, with room ahead, a part's stretch takes its place in
the staging ring, without data as yet; a context that is not active, or whose depth is 0, stages nothing. Data that has come good joins its
part, data that came bad leaves the part absent, and an arrival that nothing waits for does nothing. -/
def Clause.Prefetch : Prop :=
  (∀ (s : State) (c cn part off len : Nat) (f : OpenFolio), (s.ctx c).folios.find? (fun f => decide (f.cn = cn)) = some f →
    ((s.ctxState c).active = false ∨ s.f (F.LIB_CTX_PF_DEPTH c) = 0 → Reaches (.prefetchRequest c cn part off len) s (fun t => t = s)) ∧
    ((s.ctxState c).active = true → s.staging c = [] → s.f (F.LIB_CTX_PF_DEPTH c) ≠ 0 → entryStream f.entry = true → s.copies f.entry = [] →
      part ≤ entryLeaves f.entry → off + len ≤ entryLength f.entry → (entryOrigin f.entry + off) / 2 ^ 50 = 2 →
      Reaches (.prefetchRequest c cn part off len) s (fun t =>
        (∃ x, t.staging c = [x] ∧ x.cn = cn ∧ x.leaf = part ∧ x.bytes = none ∧ x.fits f.entry = true) ∧
          (∀ k, k ≠ c → t.staging k = s.staging k) ∧ t.mem = s.mem ∧ t.ctxs = s.ctxs ∧ t.chans = s.chans))) ∧
  (∀ (s : State) (c cn part : Nat),
    let is := fun (q : OriginReq) => q.done && decide (q.ctx = some c ∧ q.cn = cn ∧ q.part = part)
    (s.lib.reqs.find? is = none → Reaches (.stagedDataArrival c cn part) s (fun t => t = s)) ∧
    (∀ q, s.lib.reqs.find? is = some q → q.bad = false → Reaches (.stagedDataArrival c cn part) s (fun t =>
      (∀ x ∈ t.staging c, x.cn = cn → x.leaf = part → x.bytes = some q.bytes) ∧ t.mem = s.mem ∧ t.ctxs = s.ctxs)) ∧
    (∀ q, s.lib.reqs.find? is = some q → q.bad = true → Reaches (.stagedDataArrival c cn part) s (fun t =>
      (∀ x ∈ t.staging c, x.cn ≠ cn ∨ x.leaf ≠ part) ∧ t.mem = s.mem ∧ t.ctxs = s.ctxs)))

/-- CONC_LOAD (R140, R141): refused at once for no bays, for a busy bay, or in Selftest and Safe, and else under way with GO at 1. At its end
an image that reads good and passes its checks comes into force in every named bay, with its ID, and in no other. -/
def Clause.ConcordanceLoad : Prop :=
  (∀ (s : State) (w : BusWrite), s.flag F.LIB_CONC_CMD_GO = true → AdmittedPlain s Reg.LIB_CONC_CMD w →
    Reaches (.concLoad w) s (fun t => t = s)) ∧
  (∀ (s : State) (w : BusWrite), s.flag F.LIB_CONC_CMD_GO = false → Admitted s Reg.LIB_CONC_CMD w → w.bit 0 = true →
    let q := stored s Reg.LIB_CONC_CMD w
    let bays := q.f F.LIB_CONC_CMD_BAYS
    let ends := fun (t : State) (r : Nat) => t.f F.LIB_CONC_STATUS_RESULT = r ∧ t.flag F.LIB_CONC_CMD_GO = false ∧ t.lib = q.lib ∧ t.mem = q.mem
    (bays = 0 → Reaches (.concLoad w) s (fun t => ends t 7)) ∧
    (bays ≠ 0 → q.concBusy bays = true → Reaches (.concLoad w) s (fun t => ends t 2)) ∧
    (bays ≠ 0 → q.concBusy bays = false → (q.mode = .selftest ∨ q.mode = .safe) → Reaches (.concLoad w) s (fun t => ends t 3)) ∧
    (bays ≠ 0 → q.concBusy bays = false → q.mode ≠ .selftest → q.mode ≠ .safe → Reaches (.concLoad w) s (fun t =>
      t.flag F.LIB_CONC_CMD_GO = true ∧ t.lib = { q.lib with concBays := bays } ∧ OnlyRegs [Reg.LIB_CONC_CMD] q t ∧ t.mem = q.mem))) ∧
  (∀ s : State, s.flag F.LIB_CONC_CMD_GO = false → Reaches .concLoadDone s (fun t => t = s)) ∧
  (∀ s : State, s.flag F.LIB_CONC_CMD_GO = true → s.concBusy s.lib.concBays = false → s.mode ≠ .selftest → s.mode ≠ .safe → s.bad = [] →
    let a := s.f F.LIB_CONC_ADDR_HI_ADDR * 2 ^ 32 + s.f F.LIB_CONC_ADDR_LO_ADDR * 64
    let h := s.ldBytes a 64
    let n := 64 + 16 * leAt h 0x0C 2
    localOk a 64 = true → s.stkUp (stackOf a) = true →
    (concHeaderOk h = false → Reaches .concLoadDone s (fun t => t.f F.LIB_CONC_STATUS_RESULT = 5 ∧ t.flag F.LIB_CONC_CMD_GO = false ∧
      t.lib = s.lib ∧ t.mem = s.mem)) ∧
    (concHeaderOk h = true → localOk a n = true → crc32c ((s.ldBytes a n).drop 64) = leAt h 0x10 4 → Reaches .concLoadDone s (fun t =>
      t.f F.LIB_CONC_STATUS_RESULT = 1 ∧ t.flag F.LIB_CONC_CMD_GO = false ∧ t.mem = s.mem ∧
        (∀ b, b < 4 → bitAt s.lib.concBays b = true → t.f (F.LIB_CONC_ID b) = leAt h 8 4 ∧ SMap.get [] t.lib.concs b = s.ldBytes a n) ∧
        (∀ b, b < 4 → bitAt s.lib.concBays b = false → t.f (F.LIB_CONC_ID b) = s.f (F.LIB_CONC_ID b) ∧
          SMap.get [] t.lib.concs b = SMap.get [] s.lib.concs b))))

/-- Loads into the library and the concordance, and the prefetcher. -/
def Obligations.LibraryLoads : Prop := Clause.LoadProgress ∧ Clause.Prefetch ∧ Clause.ConcordanceLoad

/-! ### The stacks (09_stacks_controller.md) -/

/-- A read of one granule (R255, R256, R266): an address outside the stacks answers ADDRESS, a stack out of service FENCED, a clean granule its
bytes with OK, and one that reads uncorrectable outside a window in SYNC answers POISON; no read of these changes a byte. A patrol scrub
that finds a corrected granule counts it and leaves every byte as it reads (R260). -/
def Clause.StackReads : Prop :=
  (∀ (s : State) (a cls die code sym die2 code2 : Nat),
    (localOk a 1 = false → Reaches (.stackRead a cls die code sym die2 code2) s (fun t => t = s.emit (.stk (stackOf a) 3 []))) ∧
    (localOk a 1 = true → s.stkUp (stackOf a) = false → Reaches (.stackRead a cls die code sym die2 code2) s (fun t =>
      t = s.emit (.stk (stackOf a) 2 []))) ∧
    (localOk a 1 = true → s.stkUp (stackOf a) = true → s.badGranule a = false → readOutcome die code = 0 →
      Reaches (.stackRead a cls die code sym die2 code2) s (fun t => t = s.emit (.stk (stackOf a) 0 (s.ldBytes (a / 64 * 64) 64)))) ∧
    (localOk a 1 = true → s.stkUp (stackOf a) = true → s.badGranule a = false → readOutcome die code = 1 ∨ readOutcome die code = 2 →
      Reaches (.stackRead a cls die code sym die2 code2) s (fun t =>
        (∃ l, t.out = l ++ [.stk (stackOf a) 0 (s.ldBytes (a / 64 * 64) 64)]) ∧ t.mem = s.mem ∧ t.bad = s.bad)) ∧
    (localOk a 1 = true → s.stkUp (stackOf a) = true → s.badGranule a = true → s.mirrorSync (offsetOf (a / 64 * 64)) = false →
      Reaches (.stackRead a cls die code sym die2 code2) s (fun t =>
        (∃ l d, t.out = l ++ [.stk (stackOf a) 1 d]) ∧ t.mem = s.mem ∧ t.bad = s.bad))) ∧
  (∀ (s : State) (a die code sym : Nat), s.f F.STK_CFG_SCRUB_H = 0 → Reaches (.scrubPass a die code sym) s (fun t => t = s)) ∧
  (∀ (s : State) (a die code sym : Nat), s.f F.STK_CFG_SCRUB_H ≠ 0 → localOk a 1 = true → s.stkUp (stackOf a) = true → s.badGranule a = false →
    readOutcome die code = 2 → Reaches (.scrubPass a die code sym) s (fun t =>
      t.f (F.STK_CNT_CORR (stackOf a)) = satAdd 0xFFFFFFFF (s.f (F.STK_CNT_CORR (stackOf a))) 1 ∧ (∀ x, t.ldByte x = s.ldByte x) ∧
        t.badGranule a = false ∧ t.chans = s.chans))

/-- A write within one granule (R257, R258, R263): outside every mirror window it stores its bytes at its address and no other byte; inside
one, with both stacks in service, at its twin too; a write that meets three parity errors answers WRITE_ERROR and stores nothing. -/
def Clause.StackWrites : Prop :=
  ∀ (s : State) (a cls tries tries2 : Nat) (data : List Byte), localOk a 1 = true → s.stkUp (stackOf a) = true → s.badGranule a = false →
    let bs := data.take (64 - a % 64)
    (s.windowAt (offsetOf a) = none → tries < 3 → Reaches (.stackWrite a cls data false tries tries2) s (fun t =>
      t.out = s.out ++ [.stk (stackOf a) 0 []] ∧ (∀ i, i < bs.length → t.ldByte (a + i) = bs.getD i 0) ∧
        (∀ x, (x < a ∨ a + bs.length ≤ x) → t.ldByte x = s.ldByte x) ∧ t.badGranule a = false ∧ t.regs = s.regs ∧ t.chans = s.chans)) ∧
    ((s.windowAt (offsetOf a)).isSome = true → s.stkUp (1 - stackOf a) = true → s.badGranule (twin a) = false → tries < 3 → tries2 < 3 →
      Reaches (.stackWrite a cls data false tries tries2) s (fun t =>
        t.out = s.out ++ [.stk (stackOf a) 0 []] ∧ (∀ i, i < bs.length → t.ldByte (a + i) = bs.getD i 0 ∧ t.ldByte (twin a + i) = bs.getD i 0) ∧
          (∀ x, (x < a ∨ a + bs.length ≤ x) → (x < twin a ∨ twin a + bs.length ≤ x) → t.ldByte x = s.ldByte x) ∧ t.regs = s.regs)) ∧
    (s.windowAt (offsetOf a) = none → 3 ≤ tries → Reaches (.stackWrite a cls data false tries tries2) s (fun t =>
      (∃ l, t.out = l ++ [.stk (stackOf a) 4 []]) ∧ t.mem = s.mem ∧ t.bad = s.bad))

/-- Reads and writes of the stacks. -/
def Obligations.StackAccesses : Prop := Clause.StackReads ∧ Clause.StackWrites

/-- The scheduler (R238 to R242, R253, R266): a stack out of service completes every request FENCED; one in a frequency change holds them; an
ACTIVE stack serves without moving a byte, invents no access and leaves the other stack's queue alone. REFRESH_DUE closes the bank's row
and shows what is postponed; the temperature sets HOT and OVERTEMP; the end of the tracker's window clears every tracker and throttle
(R245, R246, R248). -/
def Obligations.StackScheduler : Prop :=
  (∀ (s : State) (st : Nat) (reqs : List (Nat × Nat × Bool)), st < 2 → (∀ r ∈ reqs, localOk (localAddr st r.2.1) 1 = true) →
    let asked := reqs.map (fun r => ({ cls := r.1, off := r.2.1, write := r.2.2 } : StkReq))
    (s.stkUp st = false → Reaches (.stackInterval st reqs) s (fun t =>
      t.out = s.out ++ reqs.map (fun _ => .stk st 2 []) ∧ t.regs = s.regs ∧ t.stks = s.stks ∧ t.mem = s.mem)) ∧
    (s.stkState st = 3 → Reaches (.stackInterval st reqs) s (fun t =>
      (t.stk st).queue = (s.stk st).queue ++ asked ∧ t.regs = s.regs ∧ t.out = s.out ∧ t.mem = s.mem)) ∧
    (s.stkState st = 2 → Reaches (.stackInterval st reqs) s (fun t =>
      (∀ r ∈ (t.stk st).queue, r ∈ (s.stk st).queue ++ asked) ∧ (∀ k, k ≠ st → t.stk k = s.stk k) ∧ t.mem = s.mem ∧ t.bad = s.bad))) ∧
  (∀ (s : State) (st k postponed : Nat), st < 2 → s.stkUp st = true → postponed < 16 → Reaches (.refreshDue st k postponed) s (fun t =>
    ((t.stk st).bank k).openRow = none ∧ (∀ j, j ≠ k → (t.stk st).bank j = (s.stk st).bank j) ∧ t.f (F.STK_REF_POSTPONED st) = postponed ∧
      OnlyRegs [Reg.STK_REF st] s t ∧ t.mem = s.mem)) ∧
  (∀ (s : State) (st : Nat) (temp : Int), st < 2 → s.stkState st ≠ 0 → Reaches (.stackTempRead st temp) s (fun t =>
    t.flag (F.STK_REF_HOT st) = decide (85 < temp) ∧ (95 < temp → t.flag (F.STK_REF_OVERTEMP st) = true) ∧ t.mem = s.mem ∧ t.stks = s.stks)) ∧
  (∀ (s : State) (st : Nat), Reaches (.trackerWindowEnd st) s (fun t =>
    (∀ k, ((t.stk st).bank k).track = [] ∧ ((t.stk st).bank k).throttled = []) ∧ (t.stk st).queue = (s.stk st).queue ∧ t.regs = s.regs ∧
      t.mem = s.mem))

/-- Frequency change and training (R252 to R254, R265): STK_FREQ records a target for the next training, is refused outside Idle or while
something trains, and else starts a change; the change ends with the new set in force, with the old one restored, or with the stack
fenced. Training ends ACTIVE or fenced. -/
def Clause.StackTraining : Prop :=
  (∀ (s : State) (st : Nat) (w : BusWrite), st < 2 → Admitted s (Reg.STK_FREQ st) w → w.bit 8 = true →
    let q := stored s (Reg.STK_FREQ st) w
    (q.flag (F.STK_FREQ_WHEN st) = true → Reaches (.stkFreqGo st w) s (fun t =>
      t.f (F.STK_FREQ_RESULT st) = 1 ∧ (t.stk st).target = some (q.f (F.STK_FREQ_TARGET st)) ∧ OnlyRegs [Reg.STK_FREQ st] q t ∧ t.mem = q.mem)) ∧
    (q.flag (F.STK_FREQ_WHEN st) = false → q.mode ≠ .idle → Reaches (.stkFreqGo st w) s (fun t =>
      t.f (F.STK_FREQ_RESULT st) = 2 ∧ OnlyRegs [Reg.STK_FREQ st] q t ∧ SameBeyondRegs q t)) ∧
    (q.flag (F.STK_FREQ_WHEN st) = false → q.mode = .idle → (q.trainBusy = true ∨ q.armRunning = true) → Reaches (.stkFreqGo st w) s (fun t =>
      t.f (F.STK_FREQ_RESULT st) = 3 ∧ OnlyRegs [Reg.STK_FREQ st] q t ∧ SameBeyondRegs q t)) ∧
    (q.flag (F.STK_FREQ_WHEN st) = false → q.mode = .idle → q.trainBusy = false → q.armRunning = false → q.stkState st = 2 →
      Reaches (.stkFreqGo st w) s (fun t => t.flag (F.STK_FREQ_GO st) = true ∧ t.stkState st = 3 ∧
        (t.stk st).changing = q.f (F.STK_FREQ_TARGET st) ∧ t.mem = q.mem))) ∧
  (∀ (s : State) (st : Nat) (back : Bool), st < 2 →
    (s.flag (F.STK_FREQ_GO st) = false → ∀ ok, Reaches (.freqChangeDone st ok back) s (fun t => t = s)) ∧
    (s.flag (F.STK_FREQ_GO st) = true →
      Reaches (.freqChangeDone st true back) s (fun t => t.f (F.STK_FREQ_ACTIVE st) = (s.stk st).changing % 2 ∧ t.flag (F.STK_FREQ_GO st) = false ∧
        t.f (F.STK_FREQ_RESULT st) = 1 ∧ t.stkState st = 2 ∧ t.mem = s.mem) ∧
      (s.fcl.windows = [] → Reaches (.freqChangeDone st false true) s (fun t => t.flag (F.STK_FREQ_GO st) = false ∧
        t.f (F.STK_FREQ_RESULT st) = 4 ∧ t.stkState st = 2 ∧ t.mem = s.mem)) ∧
      Reaches (.freqChangeDone st false false) s (fun t => t.fenced (unitCode 9 st) = true))) ∧
  (∀ (s : State) (st rfm : Nat) (ok : Bool), st < 2 →
    (s.stkState st ≠ 1 → Reaches (.stackTrainingDone st ok rfm) s (fun t => t = s)) ∧
    (s.stkState st = 1 → Reaches (.stackTrainingDone st true rfm) s (fun t => t.stkState st = 2 ∧ t.f (F.STK_STATE_CAUSE st) = 0 ∧
      (t.stk st).rfm = rfm ∧ (t.stk st).banks = []) ∧ Reaches (.stackTrainingDone st false rfm) s (fun t => t.fenced (unitCode 9 st) = true)))

/-- STK_CTRL (R267, R269): FENCE fences a stack whose service the other can take over, RETRAIN starts its retraining, each with its refusals;
CLR_CNT clears the stack's five counters and nothing else; the retraining ends ACTIVE or fenced again. -/
def Clause.StackControl : Prop :=
  (∀ (s : State) (st : Nat) (w : BusWrite) (c : Instr), c ∈ [.stkFence st w, .stkRetrain st w, .stkClrCnt st w] → st < 2 →
    AdmittedPlain s (Reg.STK_CTRL st) w →
    let other := s.fenced (unitCode 9 (1 - st)) || s.stkRetraining (1 - st)
    (w.bit 2 = true → w.bit 0 = false → w.bit 1 = false → Reaches c s (fun t =>
      t.f (F.STK_CNT_DIE st) = 0 ∧ t.f (F.STK_CNT_CORR st) = 0 ∧ t.f (F.STK_CNT_UNC st) = 0 ∧ t.f (F.STK_CNT_DIRREF st) = 0 ∧
        t.f (F.STK_CNT_THROTTLE st) = 0 ∧ SameBeyondRegs s t ∧
        OnlyRegs [Reg.STK_CNT_DIE st, Reg.STK_CNT_CORR st, Reg.STK_CNT_UNC st, Reg.STK_CNT_DIRREF st, Reg.STK_CNT_THROTTLE st] s t)) ∧
    (w.bit 2 = false → w.bit 0 = true → w.bit 1 = false →
      (other = true ∨ s.stkServiceOk st = false → Reaches c s (fun t =>
        t.f (F.STK_STATE_RESULT st) = 2 ∧ OnlyRegs [Reg.STK_STATE st] s t ∧ SameBeyondRegs s t)) ∧
      (other = false → s.stkServiceOk st = true → Reaches c s (fun t =>
        t.f (F.STK_STATE_RESULT st) = 1 ∧ t.fenced (unitCode 9 st) = true ∧ t.mem = s.mem))) ∧
    (w.bit 2 = false → w.bit 0 = false → w.bit 1 = true →
      (other = false → s.trainBusy = true → Reaches c s (fun t =>
        t.f (F.STK_STATE_RESULT st) = 3 ∧ OnlyRegs [Reg.STK_STATE st] s t ∧ SameBeyondRegs s t)) ∧
      (other = false → s.trainBusy = false → s.stkServiceOk st = true → Reaches c s (fun t =>
        t.stkState st = 4 ∧ t.fenced (unitCode 9 st) = false ∧ (t.stk st).queue = []))) ∧
    (w.bit 0 = true → w.bit 1 = true → Reaches c s (fun t => t.f (F.STK_STATE_RESULT st) = 2 ∧ t.fcl = s.fcl ∧ t.mem = s.mem))) ∧
  (∀ (s : State) (st : Nat) (ok : Bool), st < 2 →
    (s.stkRetraining st = false → Reaches (.stackRetrainDone st ok) s (fun t => t = s)) ∧
    (s.stkRetraining st = true → Reaches (.stackRetrainDone st true) s (fun t => t.stkState st = 2 ∧ t.f (F.STK_STATE_RESULT st) = 1 ∧ t.mem = s.mem) ∧
      Reaches (.stackRetrainDone st false) s (fun t => t.f (F.STK_STATE_RESULT st) = 4 ∧ t.fenced (unitCode 9 st) = true)))

/-- Training, frequency change, fencing and retraining of a stack. -/
def Obligations.StackService : Prop := Clause.StackTraining ∧ Clause.StackControl

/-- Mirror windows (R262, R263) and the controller's log (R261): a change of EN clears the window's status; the end of the copy leaves every
byte of the window on stack 1 as it is on stack 0, every other byte as it was, and the window in SYNC; CLR clears DROPPED alone. -/
def Obligations.MirrorWindows : Prop :=
  (∀ (s : State) (win : Nat) (w : BusWrite), win < 8 → Admitted s (Reg.STK_MIR_BASE win) w →
    let q := stored s (Reg.STK_MIR_BASE win) w
    (s.flag (F.STK_MIR_BASE_EN win) ≠ q.flag (F.STK_MIR_BASE_EN win) → Reaches (.mirrorEnable win w) s (fun t =>
      t.rd (Reg.STK_MIR_STATUS win) = 0 ∧ OnlyRegs [Reg.STK_MIR_STATUS win] q t ∧ SameBeyondRegs q t)) ∧
    (s.flag (F.STK_MIR_BASE_EN win) = q.flag (F.STK_MIR_BASE_EN win) → Reaches (.mirrorEnable win w) s (fun t => t = q))) ∧
  (∀ (s : State) (win : Nat), win < 8 → Canonical s → (∀ p ∈ s.mem, p.1 < 2 ^ 41) → s.bad = [] → s.stkUp 0 = true → s.stkUp 1 = true →
    s.flag (F.STK_MIR_BASE_EN win) = true → s.flag (F.STK_MIR_STATUS_SYNC win) = false →
    let b := s.f (F.STK_MIR_BASE_BASE win) * 2097152
    let e := b + s.f (F.STK_MIR_SIZE_SIZE win) * 2097152
    Reaches (.mirrorSyncDone win) s (fun t =>
      (∀ off, b ≤ off → off < e → off < 2 ^ 40 → t.ldByte (localAddr 1 off) = s.ldByte off) ∧
        (∀ a, a < 2 ^ 41 → (stackOf a = 0 ∨ offsetOf a < b ∨ e ≤ offsetOf a) → t.ldByte a = s.ldByte a) ∧
        t.flag (F.STK_MIR_STATUS_SYNC win) = true ∧ t.chans = s.chans)) ∧
  (∀ (s : State) (win : Nat), (s.flag (F.STK_MIR_BASE_EN win) = false ∨ s.stkUp 0 = false ∨ s.stkUp 1 = false) →
    Reaches (.mirrorSyncDone win) s (fun t => t = s)) ∧
  (∀ (s : State) (w : BusWrite), AdmittedPlain s Reg.STK_LOG_STATUS w → w.bit 31 = true → Reaches (.stkLogClr w) s (fun t =>
    t.f F.STK_LOG_STATUS_DROPPED = 0 ∧ OnlyRegs [Reg.STK_LOG_STATUS] s t ∧ SameBeyondRegs s t))

/-! ### The Ledger (10_ledger.md) -/

/-- RECORD_STORED (R274, R276, R298, R299): the oldest record of a stream's buffer is stored at the ring's write position and WR passes it, no
other byte of the stacks changing; one whose write failed sets WRITE_ERR; a fenced slice loses what is buffered and leaves WR. -/
def Clause.RecordsStored : Prop :=
  (∀ (s : State) (k : Nat) (failed : Bool), (s.stream k).buf = [] → Reaches (.recordStored k failed) s (fun t => t = s)) ∧
  (∀ (s : State) (k : Nat) (r : List Byte) (rest : List (List Byte)), k < 84 → (s.stream k).buf = r :: rest → s.fenced (unitCode 5 (k / 21)) = false →
    s.stkUp (stackOf (s.strBase k + s.strWr k % s.strSize k)) = true →
    let a := s.strBase k + s.strWr k % s.strSize k
    ((∀ i, i < 8 → s.flag (F.STK_MIR_BASE_EN i) = false) → s.bad = [] → r ≠ [] → localOk a r.length = true →
      Reaches (.recordStored k false) s (fun t =>
        (t.stream k).buf = rest ∧ t.strWr k = (s.strWr k + r.length) % 2 ^ 32 ∧ (∀ i, i < r.length → t.ldByte (a + i) = r.getD i 0) ∧
          (∀ x, (x < a ∨ a + r.length ≤ x) → t.ldByte x = s.ldByte x) ∧ t.chans = s.chans)) ∧
    Reaches (.recordStored k true) s (fun t => t.strWr k = (s.strWr k + r.length) % 2 ^ 32 ∧
      t.flag (F.LDG_STR_STATUS_WRITE_ERR (k / 21) (k % 21)) = true ∧ t.mem = s.mem)) ∧
  (∀ (s : State) (k : Nat) (failed : Bool), k < 84 → (s.stream k).buf ≠ [] → s.fenced (unitCode 5 (k / 21)) = true →
    Reaches (.recordStored k failed) s (fun t => (t.stream k).buf = [] ∧ (t.stream k).adm = s.strWr k ∧ t.strWr k = s.strWr k ∧ t.mem = s.mem))

/-- The Ledger's registers (R272, R274, R279, R291, R293, R300, R301): setting a stream's EN starts it at 0; the drainer's pointer takes a value
that frees bytes and ignores a bad one with DR_ERR; a quota below the level puts its site over quota; a consuming read of the fail
counter latches the drop count and takes the saturation flags, a peek changes nothing; the counters load; FF_CLR clears the first-fail
registers. -/
def Clause.LedgerRegisters : Prop :=
  (∀ (s : State) (k : Nat) (w : BusWrite), k < 84 → Admitted s (Reg.LDG_STR_CFG (k / 21) (k % 21)) w → s.strEn k = false →
    (stored s (Reg.LDG_STR_CFG (k / 21) (k % 21)) w).strEn k = true → Reaches (.ldgStrEnable k w) s (fun t =>
      t.strEn k = true ∧ t.strWr k = 0 ∧ t.strDr k = 0 ∧ t.rd (Reg.LDG_STR_SEQ (k / 21) (k % 21)) = 0 ∧ t.stream k = {} ∧
        (∀ j, j ≠ k → t.stream j = s.stream j) ∧ t.mem = s.mem)) ∧
  (∀ (s : State) (k : Nat) (w : BusWrite), k < 84 → AdmittedPlain s (Reg.LDG_STR_DR (k / 21) (k % 21)) w →
    let bad := w.data.toNat % 8 ≠ 0 ∨ (s.strWr k + 2 ^ 32 - s.strDr k) % 2 ^ 32 < (s.strWr k + 2 ^ 32 - w.data.toNat) % 2 ^ 32
    (bad → Reaches (.ldgStrDrWrite k w) s (fun t => t.flag (F.LDG_STR_STATUS_DR_ERR (k / 21) (k % 21)) = true ∧
      OnlyRegs [Reg.LDG_STR_STATUS (k / 21) (k % 21)] s t ∧ SameBeyondRegs s t)) ∧
    (¬ bad → Reaches (.ldgStrDrWrite k w) s (fun t => t.strDr k = w.data.toNat ∧ t.strWr k = s.strWr k ∧ t.mem = s.mem))) ∧
  (∀ (s : State) (site : Nat) (w : BusWrite), site < 64 → Admitted s (Reg.LDG_SITE_QUOTA site) w →
    let q := stored s (Reg.LDG_SITE_QUOTA site) w
    (q.quota site < q.strLevel (strOfSite site) → Reaches (.ldgSiteQuotaWrite site w) s (fun t =>
      t.flag (F.LDG_SITE_STATUS_OVER site) = true ∧ t.mem = s.mem)) ∧
    (q.strLevel (strOfSite site) < q.quota site → Reaches (.ldgSiteQuotaWrite site w) s (fun t =>
      t.flag (F.LDG_SITE_STATUS_OVER site) = false ∧ t.mem = s.mem))) ∧
  (∀ (s : State) (site : Nat), site < 64 →
    Reaches (.ldgSiteFailRead site true) s (fun t => t = s.emit (.answer (Reg.LDG_SITE_FAIL site) (s.f (F.LDG_SITE_FAIL_FAIL site)))) ∧
    Reaches (.ldgSiteFailRead site false) s (fun t =>
      t.out = s.out ++ [.answer (Reg.LDG_SITE_FAIL site) (s.f (F.LDG_SITE_FAIL_FAIL site))] ∧
        t.f (F.LDG_SITE_DROP_DROP site) = (s.siteCount site).drop % 2 ^ 32 ∧ t.flag (F.LDG_SITE_SNAP_FAIL_SAT site) = (s.siteCount site).failSat ∧
        t.flag (F.LDG_SITE_SNAP_DROP_SAT site) = (s.siteCount site).dropSat ∧
        t.siteCount site = { s.siteCount site with failSat := false, dropSat := false } ∧
        OnlyRegs [Reg.LDG_SITE_DROP site, Reg.LDG_SITE_SNAP site] s t ∧ t.mem = s.mem)) ∧
  (∀ (s : State) (site : Nat) (w : BusWrite), site < 64 → AdmittedPlain s (Reg.LDG_SITE_FAIL site) w → Reaches (.ldgSiteFailWrite site w) s (fun t =>
    t.rd (Reg.LDG_SITE_FAIL site) = w.data ∧ OnlyRegs [Reg.LDG_SITE_FAIL site] s t ∧ SameBeyondRegs s t)) ∧
  (∀ (s : State) (site : Nat) (w : BusWrite), site < 64 → AdmittedPlain s (Reg.LDG_SITE_DROP site) w → Reaches (.ldgSiteDropWrite site w) s (fun t =>
    (t.siteCount site).drop = w.data.toNat ∧ (∀ j, j ≠ site → t.siteCount j = s.siteCount j) ∧ t.regs = s.regs ∧ t.mem = s.mem)) ∧
  (∀ (s : State) (site : Nat) (w : BusWrite), site < 64 → Admitted s (Reg.LDG_SITE_STATUS site) w → w.bit 3 = true → Reaches (.ffClr site w) s (fun t =>
    t.rd (Reg.LDG_FF_CN site) = 0 ∧ t.rd (Reg.LDG_FF_FLEAF site) = 0 ∧ t.rd (Reg.LDG_FF_POS site) = 0 ∧
      OnlyRegs [Reg.LDG_FF_CN site, Reg.LDG_FF_FLEAF site, Reg.LDG_FF_LEAF_LO site, Reg.LDG_FF_LEAF_HI site, Reg.LDG_FF_POS site]
        (stored s (Reg.LDG_SITE_STATUS site) w) t ∧ t.mem = s.mem))

/-- The Ledger: records stored, and its registers. -/
def Obligations.LedgerStreams : Prop := Clause.RecordsStored ∧ Clause.LedgerRegisters

/-! ### PMUs and decimation (11_pmu_and_decimation.md) -/

/-- The PMU of a channel (R304, R306 to R312, R314): on a channel that no context owns a write of its registers takes effect at once and
settles what it changes, and a write of the mode lets a stopped PMU force again once what stopped it has gone; on a channel of an active
context a force code waits for the leaf boundary. A sense route that changes settles its channels; an open sense line of a forcing PMU is shown and
noted once; the clamp is shown as it engages. -/
def Clause.Pmus : Prop :=
  ∀ (s : State) (ch : Nat), ch < 256 →
    (∀ w, Admitted s (Reg.PMU_CTRL ch) w → s.owner ch = none →
      let q := stored s (Reg.PMU_CTRL ch) w
      Reaches (.pmuCtrlWrite ch w) s (fun t => (t.pmu ch).ctrl = q.rd (Reg.PMU_CTRL ch) ∧
        ((s.pmu ch).ctrl ≠ q.rd (Reg.PMU_CTRL ch) → (t.pmu ch).settling = true) ∧
        (s.chFenced ch = false → s.mode ≠ .safe → s.mode ≠ .selftest → (t.pmu ch).stopped = false) ∧
        (∀ k, k ≠ ch → t.pmu k = s.pmu k) ∧ t.regs = q.regs ∧ t.mem = q.mem ∧ t.ctxs = q.ctxs)) ∧
    (∀ w, Admitted s (Reg.PMU_FORCE ch) w →
      let q := stored s (Reg.PMU_FORCE ch) w
      (s.owner ch = none → Reaches (.pmuForceWrite ch w) s (fun t => (t.pmu ch).force = q.rd (Reg.PMU_FORCE ch) ∧
        ((s.pmu ch).force ≠ q.rd (Reg.PMU_FORCE ch) → (t.pmu ch).settling = true) ∧ (∀ k, k ≠ ch → t.pmu k = s.pmu k) ∧ t.regs = q.regs)) ∧
      (∀ c, s.owner ch = some c → (s.ctxState c).active = true → Reaches (.pmuForceWrite ch w) s (fun t => t.pmus = s.pmus ∧
        (t.ctx c).due = (s.ctx c).due ++ [(1, .pmu ch)] ∧ t.regs = q.regs))) ∧
    (∀ w, Admitted s (Reg.PMU_CLAMP ch) w → s.owner ch = none → Reaches (.pmuClampWrite ch w) s (fun t =>
      (t.pmu ch).clamp = (stored s (Reg.PMU_CLAMP ch) w).rd (Reg.PMU_CLAMP ch) ∧ (∀ k, k ≠ ch → t.pmu k = s.pmu k) ∧ t.mem = s.mem)) ∧
    ((s.pmuForcing ch && s.senseRoute ch && !s.flag (F.PMU_STATUS_SENSE_OPEN ch)) = true → Reaches (.senseOpen ch) s (fun t =>
      t.flag (F.PMU_STATUS_SENSE_OPEN ch) = true ∧ t.pmus = s.pmus ∧ t.chans = s.chans ∧ t.mem = s.mem)) ∧
    ((s.pmuForcing ch && s.senseRoute ch && !s.flag (F.PMU_STATUS_SENSE_OPEN ch)) = false → Reaches (.senseOpen ch) s (fun t => t = s)) ∧
    (Reaches (.pmuSettled ch) s (fun t => t.pmu ch = { s.pmu ch with settling := false } ∧ (∀ k, k ≠ ch → t.pmu k = s.pmu k) ∧ t.regs = s.regs)) ∧
    (∀ engaged, Reaches (.pmuClampEngage ch engaged) s (fun t =>
      (t.pmu ch).clampNow = (engaged && s.pmuForcing ch) ∧ ((engaged && s.pmuForcing ch) = true → t.flag (F.PMU_STATUS_CLAMP ch) = true) ∧
        OnlyRegs [Reg.PMU_STATUS ch] s t ∧ t.mem = s.mem))

/-- Sense routes and decimation (R309, R312, R316, R319 to R323, R326): FLT_CH restarts a chain that it enables or changes; a sample at a grid count of the
chain's decimation is the word of Table 11-6 in FLT_LAST, and at any other count nothing but the grid moves; SWAP waits for a grid count of the
largest decimation, and then the other bank is in force. -/
def Clause.Decimation : Prop :=
  (∀ (s : State) (b k : Nat) (w : BusWrite), b < 4 → k < 4 → Admitted s (Reg.PMU_SENSE b k) w →
    let q := stored s (Reg.PMU_SENSE b k) w
    (q.rd (Reg.PMU_SENSE b k) = s.rd (Reg.PMU_SENSE b k) → Reaches (.pmuSenseWrite b k w) s (fun t => t = q)) ∧
    (q.rd (Reg.PMU_SENSE b k) ≠ s.rd (Reg.PMU_SENSE b k) → Reaches (.pmuSenseWrite b k w) s (fun t =>
      (t.pmu (64 * b + s.f (F.PMU_SENSE_CHANNEL b k))).settling = true ∧ (t.pmu (64 * b + q.f (F.PMU_SENSE_CHANNEL b k))).settling = true ∧
        t.regs = q.regs ∧ t.mem = q.mem))) ∧
  (∀ (s : State) (ch : Nat) (w : BusWrite), ch < 256 → Admitted s (Reg.FLT_CH ch) w → s.owner ch = none →
    let q := stored s (Reg.FLT_CH ch) w
    Reaches (.fltChWrite ch w) s (fun t => (t.pmu ch).flt = q.rd (Reg.FLT_CH ch) ∧ (∀ k, k ≠ ch → t.pmu k = s.pmu k) ∧
      ((s.pmu ch).flt ≠ q.rd (Reg.FLT_CH ch) → q.flag (F.FLT_CH_EN ch) = true → (t.pmu ch).restart = 26) ∧ t.mem = q.mem)) ∧
  (∀ (s : State) (ch g : Nat) (value : Int) (overload clamped settling : Bool), ch < 256 → s.domOn (domPmu (bayOfCh ch)) = true →
    (g % decimation (s.fltPreset ch) ≠ 0 → Reaches (.decimationSample ch g value overload clamped settling) s (fun t =>
      t.f (F.FLT_GRID_N (bayOfCh ch)) = g % 65536 ∧ OnlyRegs [Reg.FLT_GRID (bayOfCh ch)] s t ∧ SameBeyondRegs s t)) ∧
    (g % decimation (s.fltPreset ch) = 0 → s.fltEn ch = true → s.fenced (unitCode 6 (bayOfCh ch)) = false →
      Reaches (.decimationSample ch g value overload clamped settling) s (fun t =>
        let valid := decide (s.pmuMode ch ≠ 0) && !(s.pmu ch).stopped && decide ((s.pmu ch).restart = 0)
        t.rd (Reg.FLT_LAST ch) = BitVec.ofNat 32 (sampleWord value valid (clamped || (s.pmu ch).clampNow) overload (settling || (s.pmu ch).settling)
          (if measuresVoltage (s.pmuMode ch) then 0xF else s.pmuRange ch)) ∧
          (t.pmu ch).restart = (s.pmu ch).restart - 1 ∧ t.mem = s.mem ∧ t.ctxs = s.ctxs))) ∧
  (∀ (s : State) (b : Nat) (w : BusWrite), b < 4 → Admitted s (Reg.FLT_BANK b) w → Reaches (.fltBankSwap b w) s (fun t =>
    let q := stored s (Reg.FLT_BANK b) w
    (w.bit 31 = true → t.flag (F.FLT_BANK_PENDING b) = true ∧ OnlyRegs [Reg.FLT_BANK b] q t ∧ SameBeyondRegs q t) ∧ (w.bit 31 = false → t = q))) ∧
  (∀ (s : State) (b g : Nat), b < 4 →
    ((s.flag (F.FLT_BANK_PENDING b) = false ∨ g % s.nMax b ≠ 0) → Reaches (.bankSwapApply b g) s (fun t => t = s)) ∧
    (s.flag (F.FLT_BANK_PENDING b) = true → g % s.nMax b = 0 → Reaches (.bankSwapApply b g) s (fun t =>
      t.flag (F.FLT_BANK_ACTIVE b) = !s.flag (F.FLT_BANK_ACTIVE b) ∧ t.flag (F.FLT_BANK_PENDING b) = false ∧ t.pmus = s.pmus ∧ t.mem = s.mem)))

/-- The PMUs, their sense routes and the decimation chains. -/
def Obligations.PmuAndDecimation : Prop := Clause.Pmus ∧ Clause.Decimation

/-! ### Acquisition (12_acquisition.md) -/

/-- ARM, STOP and the steps of an acquisition engine (R334, R335, R337, R338, R341, R346, R351, R353): ARM from IDLE or DONE gives the first refusal of
Table 12-5, or clears the engine and enters ARMED in S0; STOP of an ARMED engine leaves DONE with cause HOST, and is ignored elsewhere; a sample
is one step that raises the sample index, counts an excluded sample, and leaves by the first transition that holds; the timer's step leaves by its
transition; a hold-off of ticks ends; and a read of ACQ_SIDX_LO latches one step's counts. -/
def Obligations.AcquisitionEngines : Prop :=
  ∀ (s : State) (e : Nat), e < 8 →
    let k := s.f (F.ACQ_STATUS_TSTATE e)
    let lone := ∀ t, t < 4 → (s.trOn e k t = true ↔ t = 0)
    let plain := s.f (F.ACQ_TR_CTRL_ACTIONS e k 0) = 0 ∧ s.flag (F.ACQ_STATE_REDUCE e k) = false ∧ (s.acq e).hold = 0
    (∀ w, Admitted s (Reg.ACQ_CTRL e) w → w.bit 0 = true →
      let q := stored s (Reg.ACQ_CTRL e) w
      let able := q.f (F.ACQ_STATUS_STATE e) = 0 ∨ q.f (F.ACQ_STATUS_STATE e) = 2
      (¬ able → Reaches (.acqArm e w) s (fun t => t = q)) ∧
      (able → q.acqArmResult e ≠ 1 → Reaches (.acqArm e w) s (fun t =>
        t.f (F.ACQ_STATUS_RESULT e) = q.acqArmResult e ∧ OnlyRegs [Reg.ACQ_STATUS e] q t ∧ SameBeyondRegs q t)) ∧
      (able → q.acqArmResult e = 1 → Reaches (.acqArm e w) s (fun t =>
        t.f (F.ACQ_STATUS_RESULT e) = 1 ∧ t.f (F.ACQ_STATUS_STATE e) = 1 ∧ t.f (F.ACQ_STATUS_TSTATE e) = 0 ∧ t.f (F.ACQ_STATUS_CAUSE e) = 0 ∧
          t.rd (Reg.ACQ_TRIGS e) = 0 ∧ t.rd (Reg.ACQ_VIOL e) = 0 ∧ t.rd (Reg.ACQ_GAP e) = 0 ∧ t.rd (Reg.ACQ_EXCL e) = 0 ∧ (t.acq e).sidx = 0 ∧
          (t.acq e).waiting = [] ∧ OnlyRegs [Reg.ACQ_STATUS e, Reg.ACQ_TRIGS e, Reg.ACQ_VIOL e, Reg.ACQ_GAP e, Reg.ACQ_EXCL e] q t ∧ t.mem = q.mem))) ∧
    (∀ w, Admitted s (Reg.ACQ_CTRL e) w → w.bit 1 = true →
      let q := stored s (Reg.ACQ_CTRL e) w
      (q.acqArmed e = false → Reaches (.acqStop e w) s (fun t => t = q)) ∧
      (q.acqArmed e = true → Reaches (.acqStop e w) s (fun t => t.f (F.ACQ_STATUS_STATE e) = 2 ∧ t.f (F.ACQ_STATUS_CAUSE e) = 3 ∧
        (t.acq e).waiting = [] ∧ (t.acq e).maskOn = false ∧ t.mem = q.mem ∧ t.chans = q.chans))) ∧
    ((s.acq e).waiting = [] ∨ s.acqArmed e = false → Reaches (.acqSampleStep e) s (fun t => t = s)) ∧
    (∀ smp rest, (s.acq e).waiting = smp :: rest → s.acqArmed e = true → (s.acq e).maskOn = false → lone → plain →
      s.trPred e k 0 = 0 → s.trQual e k 0 = 0 → Reaches (.acqSampleStep e) s (fun t =>
        t.f (F.ACQ_STATUS_TSTATE e) = s.f (F.ACQ_TR_CTRL_NEXT e k 0) ∧ (t.acq e).sidx = ((s.acq e).sidx + 1) % 2 ^ 48 ∧ (t.acq e).waiting = rest ∧
          t.f (F.ACQ_EXCL e) = satAdd 0xFFFFFFFF (s.f (F.ACQ_EXCL e)) (b2n (s.acqExcluded e smp)) ∧ (t.acq e).timer = 0 ∧ (t.acq e).latches = 0 ∧
          t.f (F.ACQ_STATUS_STATE e) = 1 ∧ t.ldg = s.ldg ∧ t.ctxs = s.ctxs ∧ t.mem = s.mem)) ∧
    (∀ smp rest, (s.acq e).waiting = smp :: rest → s.acqArmed e = true → (s.acq e).maskOn = false → (∀ t, t < 4 → s.trOn e k t = false) →
      s.flag (F.ACQ_STATE_REDUCE e k) = false → (s.acq e).hold = 0 → Reaches (.acqSampleStep e) s (fun t =>
        t.f (F.ACQ_STATUS_TSTATE e) = k ∧ (t.acq e).sidx = ((s.acq e).sidx + 1) % 2 ^ 48 ∧ (t.acq e).c0 = (s.acq e).c0 ∧
          (t.acq e).c1 = (s.acq e).c1 ∧ (t.acq e).waiting = rest ∧ t.ldg = s.ldg ∧ t.mem = s.mem)) ∧
    (s.timerDue e k = none ∨ s.acqArmed e = false → Reaches (.acqTimerStep e) s (fun t => t = s)) ∧
    (s.acqArmed e = true → lone → plain → s.trPred e k 0 = 0 → s.trQual e k 0 = 3 → (s.acq e).timer ≤ s.trN e k 0 → Reaches (.acqTimerStep e) s (fun t =>
      t.f (F.ACQ_STATUS_TSTATE e) = s.f (F.ACQ_TR_CTRL_NEXT e k 0) ∧ (t.acq e).timer = 0 ∧ (t.acq e).sidx = (s.acq e).sidx ∧
        t.f (F.ACQ_STATUS_STATE e) = 1 ∧ t.ldg = s.ldg ∧ t.mem = s.mem)) ∧
    (s.f (F.ACQ_HOLDOFF_MODE e) = 1 → Reaches (.holdoffEnd e) s (fun t => (t.acq e).hold = 0 ∧ t.flag (F.ACQ_STATUS_HOLDOFF e) = false ∧
      OnlyRegs [Reg.ACQ_STATUS e] s t ∧ t.mem = s.mem)) ∧
    (s.f (F.ACQ_HOLDOFF_MODE e) ≠ 1 → Reaches (.holdoffEnd e) s (fun t => t = s)) ∧
    (Reaches (.acqSidxRead e) s (fun t => t.rd (Reg.ACQ_SIDX_LO e) = BitVec.ofNat 32 (s.acq e).sidx ∧
      t.f (F.ACQ_SIDX_HI_HI e) = (s.acq e).sidx / 2 ^ 32 % 65536 ∧ t.flag (F.ACQ_SIDX_HI_WRAP e) = (s.acq e).swrap ∧
      t.rd (Reg.ACQ_CNT0 e) = BitVec.ofNat 32 (s.acq e).c0 ∧ t.rd (Reg.ACQ_CNT1 e) = BitVec.ofNat 32 (s.acq e).c1 ∧
      t.rd (Reg.ACQ_TIMER e) = BitVec.ofNat 32 (s.acq e).timer ∧ (t.acq e).swrap = false ∧
      t.out = s.out ++ [.answer (Reg.ACQ_SIDX_LO e) ((s.acq e).sidx % 2 ^ 32)] ∧ t.mem = s.mem))

/-! ### Time-interval measurement (13_time_interval.md) -/

/-- The TIMs (R358 to R370): ARM gives the first refusal of Table 13-4 or clears the TIM and enters ARMED; STOP writes a set that is complete and
leaves DONE with cause HOST; a start event of an idle measurement starts it at its stamp, a second one is counted, one within 800 ps of the last is
missed, a stop event adds its interval; a timeout ends the measurement, the gate's end makes the fit; a complete set is written with TIM_RES_SEQ and
every context's latch, and stays ARMED under REPEAT alone; a read of TIM_RES_SEQ latches the set, a peek does not. -/
def Obligations.IntervalMeasurement : Prop :=
  ∀ (s : State) (m : Nat), m < 4 →
    let x := s.tim m
    (∀ w, Admitted s (Reg.TIM_CTRL m) w → w.bit 0 = true →
      let q := stored s (Reg.TIM_CTRL m) w
      let able := q.f (F.TIM_STATUS_STATE m) = 0 ∨ q.f (F.TIM_STATUS_STATE m) = 2
      (¬ able → Reaches (.timArm m w) s (fun t => t = q)) ∧
      (able → q.timArmResult m ≠ 1 → Reaches (.timArm m w) s (fun t =>
        t.f (F.TIM_STATUS_RESULT m) = q.timArmResult m ∧ OnlyRegs [Reg.TIM_STATUS m] q t ∧ SameBeyondRegs q t)) ∧
      (able → q.timArmResult m = 1 → Reaches (.timArm m w) s (fun t =>
        t.f (F.TIM_STATUS_RESULT m) = 1 ∧ t.f (F.TIM_STATUS_STATE m) = 1 ∧ t.f (F.TIM_STATUS_CAUSE m) = 0 ∧ t.rd (Reg.TIM_RES_SEQ m) = 0 ∧
          t.rd (Reg.TIM_MISSED m) = 0 ∧ (t.tim m).running = false ∧ (t.tim m).ready = none ∧ (t.tim m).res = x.res ∧
          OnlyRegs [Reg.TIM_STATUS m, Reg.TIM_RES_SEQ m, Reg.TIM_MISSED m] q t ∧ t.mem = q.mem))) ∧
    (∀ w, Admitted s (Reg.TIM_CTRL m) w → w.bit 1 = true →
      let q := stored s (Reg.TIM_CTRL m) w
      (q.timArmed m = false → Reaches (.timStop m w) s (fun t => t = q)) ∧
      (q.timArmed m = true → Reaches (.timStop m w) s (fun t => t.f (F.TIM_STATUS_STATE m) = 2 ∧ t.f (F.TIM_STATUS_CAUSE m) = 1 ∧
        t.rd (Reg.TIM_RES_SEQ m) = q.rd (Reg.TIM_RES_SEQ m) + (if x.ready = none then 0 else 1) ∧ (t.tim m).running = false ∧
        t.mem = q.mem ∧ t.chans = q.chans))) ∧
    (∀ time start stop, s.timArmed m = false → Reaches (.timStamp m time start stop) s (fun t => t = s)) ∧
    (∀ time, s.timArmed m = true → s.flag (F.TIM_CFG_MODE m) = false → x.ready = none →
      (x.running = false → x.lastStart = none → Reaches (.timStamp m time true false) s (fun t =>
        (t.tim m).running = true ∧ (t.tim m).start = s.timStampOf m (s.f (F.TIM_START_SRC_SRC m)) (s.f (F.TIM_START_SRC_INDEX m)) time ∧
          (t.tim m).ivl = [] ∧ (t.tim m).lastStart = some time ∧ t.f (F.TIM_STATUS_STOPS m) = 0 ∧ OnlyRegs [Reg.TIM_STATUS m] s t ∧ t.mem = s.mem)) ∧
      (x.running = true → x.lastStart = none → Reaches (.timStamp m time true false) s (fun t =>
        t.f (F.TIM_STATUS_START_OVR m) = satAdd 15 (s.f (F.TIM_STATUS_START_OVR m)) 1 ∧ (t.tim m).start = x.start ∧ (t.tim m).ivl = x.ivl ∧
          OnlyRegs [Reg.TIM_STATUS m] s t ∧ t.mem = s.mem)) ∧
      (∀ u, x.lastStart = some u → time - u < 10486 → Reaches (.timStamp m time true false) s (fun t =>
        t.f (F.TIM_MISSED m) = satAdd 0xFFFFFFFF (s.f (F.TIM_MISSED m)) 1 ∧ (t.tim m).running = x.running ∧ (t.tim m).start = x.start ∧
          OnlyRegs [Reg.TIM_MISSED m] s t ∧ t.mem = s.mem)) ∧
      (x.running = true → x.lastStop = none → s.f (F.TIM_TIMEOUT_US m) = 0 → x.ivl.length + 1 < max 1 (s.f (F.TIM_CFG_NSTOP m)) →
        let d := (s.timStampOf m (s.f (F.TIM_STOP_SRC_SRC m)) (s.f (F.TIM_STOP_SRC_INDEX m)) time + 2 ^ 64 - x.start) % 2 ^ 64
        s.f (F.TIM_HOLDOFF_SU m) ≤ d → d < 2 ^ 63 → Reaches (.timStamp m time false true) s (fun t =>
          (t.tim m).ivl = x.ivl ++ [min d (2 ^ 31 - 1)] ∧ (t.tim m).running = true ∧ t.f (F.TIM_STATUS_STOPS m) = x.ivl.length + 1 ∧
            (t.tim m).ready = none ∧ OnlyRegs [Reg.TIM_STATUS m] s t ∧ t.mem = s.mem))) ∧
    (∀ time, s.timArmed m = true → s.flag (F.TIM_CFG_MODE m) = true → x.ready = none → x.running = false → x.lastStart = none →
      Reaches (.timStamp m time true false) s (fun t => (t.tim m).running = true ∧ (t.tim m).events = 1 ∧ (t.tim m).n = 1 ∧ t.regs = s.regs ∧
        t.mem = s.mem)) ∧
    ((s.timArmed m && x.running && !s.flag (F.TIM_CFG_MODE m) && decide (s.f (F.TIM_TIMEOUT_US m) ≠ 0)) = false →
      Reaches (.timMeasureTimeout m) s (fun t => t = s)) ∧
    ((s.timArmed m && x.running && !s.flag (F.TIM_CFG_MODE m) && decide (s.f (F.TIM_TIMEOUT_US m) ≠ 0)) = true →
      Reaches (.timMeasureTimeout m) s (fun t => (t.tim m).running = false ∧ t.f (F.TIM_STATUS_STOPS m) = 0 ∧ (t.tim m).done = x.done + 1 ∧
        (s.f (F.TIM_N_N m) ≤ x.done + 1 → (t.tim m).ready.isSome = true) ∧ OnlyRegs [Reg.TIM_STATUS m] s t ∧ t.mem = s.mem)) ∧
    ((s.timArmed m && x.running && s.flag (F.TIM_CFG_MODE m)) = false → Reaches (.timGateClose m) s (fun t => t = s)) ∧
    ((s.timArmed m && x.running && s.flag (F.TIM_CFG_MODE m)) = true → Reaches (.timGateClose m) s (fun t => (t.tim m).running = false ∧
      (t.tim m).ready = some (x.freqResult (2 ^ s.f (F.TIM_CFG_PS m))) ∧ t.regs = s.regs ∧ t.mem = s.mem)) ∧
    (s.timArmed m = false ∨ x.ready = none → Reaches (.timResultWrite m) s (fun t => t = s)) ∧
    (∀ r, s.timArmed m = true → x.ready = some r → Reaches (.timResultWrite m) s (fun t => t.rd (Reg.TIM_RES_SEQ m) = s.rd (Reg.TIM_RES_SEQ m) + 1 ∧
      (t.tim m).res = { r with flags := setBitTo r.flags 0 (!x.latched) } ∧ (t.tim m).ready = none ∧ (t.tim m).latched = false ∧
      (∀ c, c < 16 → bitAt (t.ctx c).tim m = true) ∧ t.f (F.TIM_STATUS_STATE m) = (if s.flag (F.TIM_CFG_REPEAT m) then 1 else 2) ∧ t.mem = s.mem)) ∧
    (Reaches (.timResSeqRead m true) s (fun t => t = s.emit (.answer (Reg.TIM_RES_SEQ m) (s.rd (Reg.TIM_RES_SEQ m)).toNat))) ∧
    (Reaches (.timResSeqRead m false) s (fun t => t.out = s.out ++ [.answer (Reg.TIM_RES_SEQ m) (s.rd (Reg.TIM_RES_SEQ m)).toNat] ∧
      t.rd (Reg.TIM_RES_N m) = BitVec.ofNat 32 x.res.n ∧ t.rd (Reg.TIM_RES_MEAN_LO m) = BitVec.ofNat 32 x.res.mean ∧
      t.rd (Reg.TIM_RES_SDEV m) = BitVec.ofNat 32 x.res.sdev ∧ t.rd (Reg.TIM_RES_MIN m) = BitVec.ofNat 32 x.res.min ∧
      t.rd (Reg.TIM_RES_MAX m) = BitVec.ofNat 32 x.res.max ∧ t.rd (Reg.TIM_RES_FLAGS m) = BitVec.ofNat 32 x.res.flags ∧
      t.rd (Reg.TIM_RES_MEAN_HI m) = BitVec.ofNat 32 (x.res.mean / 2 ^ 32) ∧ t.rd (Reg.TIM_RES_PERIOD_LO m) = BitVec.ofNat 32 x.res.period ∧
      t.rd (Reg.TIM_RES_PERIOD_HI m) = BitVec.ofNat 32 (x.res.period / 2 ^ 32) ∧ t.rd (Reg.TIM_RES_FREQ_LO m) = BitVec.ofNat 32 x.res.freq ∧
      t.rd (Reg.TIM_RES_FREQ_HI m) = BitVec.ofNat 32 (x.res.freq / 2 ^ 32) ∧
      (∀ i, i < 15 → t.rd (Reg.TIM_IVL m (i + 1)) = BitVec.ofNat 32 (x.res.ivl.getD i 0)) ∧
      (t.tim m).latched = true ∧ t.mem = s.mem))

/-! ### Fabric ports, DUT lanes and frames (14_weafy_lanes.md) -/

/-- Rows on a port (R380 to R383, R385, R391, R393): a lane's lock and its loss are shown, and a loss retrains a port in UP; ALIGN shows each
lane's deskew, FILLER and IDLE the fillers inserted and deleted; a row error is counted and asks for a replay; CREDIT takes what the
partner has freed and drops the acknowledged frames; ECHO is answered, or sets the latency. -/
def Clause.PortRows : Prop :=
  ∀ (s : State) (p : Nat), p < 4 →
    (∀ l, l < 8 →
      (s.portEnabled p = false → Reaches (.laneLock p l) s (fun t => t = s)) ∧
      (s.portEnabled p = true → Reaches (.laneLock p l) s (fun t => t.flag (F.LNK_LANE_STATUS_LOCK p l) = true ∧
        bitAt (t.f (F.LNK_PORT_STATUS_LOCKED p)) l = true ∧ OnlyRegs [Reg.LNK_LANE_STATUS p l, Reg.LNK_PORT_STATUS p] s t ∧ SameBeyondRegs s t)) ∧
      (s.flag (F.LNK_LANE_STATUS_LOCK p l) = false → Reaches (.laneLockLost p l) s (fun t => t = s)) ∧
      (s.flag (F.LNK_LANE_STATUS_LOCK p l) = true → s.portState p ≠ 2 → Reaches (.laneLockLost p l) s (fun t =>
        t.flag (F.LNK_LANE_STATUS_LOCK p l) = false ∧ t.flag (F.LNK_LANE_STATUS_LOST p l) = true ∧
          bitAt (t.f (F.LNK_PORT_STATUS_LOCKED p)) l = false ∧ t.ports = s.ports ∧ t.mem = s.mem)) ∧
      (s.flag (F.LNK_LANE_STATUS_LOCK p l) = true → s.portState p = 2 → s.fcl.windows = [] → Reaches (.laneLockLost p l) s (fun t =>
        t.flag (F.LNK_LANE_STATUS_LOCK p l) = false ∧ t.portState p = 1 ∧ (t.port p).step = 2 ∧ (t.port p).retraining = true ∧
          (t.port p).queue = (s.port p).queue ∧ (t.port p).replay = (s.port p).replay))) ∧
    (∀ skews, (s.portState p = 1 ∨ s.portState p = 2) → Reaches (.rowAlign p skews) s (fun t =>
      (∀ l, l < 8 → t.f (F.LNK_LANE_STATUS_SKEW p l) = min (skews.getD l 0) 15) ∧ t.portState p = s.portState p ∧ t.mem = s.mem)) ∧
    (∀ skews, s.portState p ≠ 1 → s.portState p ≠ 2 → Reaches (.rowAlign p skews) s (fun t => t = s)) ∧
    (∀ deleted inserted, s.portState p = 2 →
      Reaches (.rowFiller p deleted inserted) s (fun t =>
        t.f (F.LNK_PORT_FILL_DEL p) = satAdd 0xFFFFFFFF (s.f (F.LNK_PORT_FILL_DEL p)) (b2n deleted) ∧
          t.f (F.LNK_PORT_FILL_INS p) = satAdd 0xFFFFFFFF (s.f (F.LNK_PORT_FILL_INS p)) (b2n inserted) ∧
          OnlyRegs [Reg.LNK_PORT_FILL_DEL p, Reg.LNK_PORT_FILL_INS p] s t ∧ SameBeyondRegs s t) ∧
      Reaches (.rowIdle p deleted) s (fun t =>
        t.f (F.LNK_PORT_FILL_DEL p) = satAdd 0xFFFFFFFF (s.f (F.LNK_PORT_FILL_DEL p)) (b2n deleted) ∧
          OnlyRegs [Reg.LNK_PORT_FILL_DEL p] s t ∧ SameBeyondRegs s t)) ∧
    (s.portState p = 2 → Reaches (.rowError p) s (fun t =>
      t.f (F.LNK_PORT_ROWERR p) = satAdd 0xFFFFFFFF (s.f (F.LNK_PORT_ROWERR p)) 1 ∧ (t.port p).nak = true ∧
        t.out = s.out ++ [.row p 0x55 (2 ^ 16 + ((s.port p).expect + 65535) % 65536)] ∧ OnlyRegs [Reg.LNK_PORT_ROWERR p] s t ∧ t.mem = s.mem)) ∧
    (∀ freed ack nak, (s.portState p = 2 ∨ s.portState p = 3) → Reaches (.rowCredit p freed ack nak) s (fun t =>
      (t.port p).credited = true ∧ (t.port p).freedFar = freed ∧ (∃ l, (t.port p).replay = ackFrames ack (s.port p).replay ++ l) ∧
        (∀ k, k ≠ p → t.port k = s.port k) ∧ t.mem = s.mem ∧ t.chans = s.chans)) ∧
    (∀ reply time roundTrip, s.portState p = 2 → Reaches (.rowEcho p reply time roundTrip) s (fun t =>
      (reply = true → t.f (F.LNK_PORT_LAT_LAT p) = min 0xFFFF roundTrip ∧ OnlyRegs [Reg.LNK_PORT_LAT p] s t ∧ SameBeyondRegs s t) ∧
        (reply = false → t = s.emit (.row p 0x66 (2 ^ 64 + time))))) ∧
    (s.portState p ∉ [1, 2, 3] → ∀ deleted inserted freed ack nak reply time rt,
      Reaches (.rowFiller p deleted inserted) s (fun t => t = s) ∧ Reaches (.rowIdle p deleted) s (fun t => t = s) ∧
        Reaches (.rowError p) s (fun t => t = s) ∧ Reaches (.rowCredit p freed ack nak) s (fun t => t = s) ∧
        Reaches (.rowEcho p reply time rt) s (fun t => t = s))

/-- Bring-up of a port (R384, Table 14-3): another version ends it; a proposal is answered with the lower rate; the sixteenth ACCEPT starts
training at the agreed rate; no partner leaves the port DOWN; a retry proposes anew; training that ends with no bad lane brings the port UP,
and with one it goes a rate lower or, at the lowest, DOWN. A port that is not enabled does none of this. -/
def Clause.PortBringUp : Prop :=
  ∀ (s : State) (p : Nat), p < 4 →
    (∀ st mr rate peer id ver bad, s.portEnabled p = false →
      Reaches (.rowNeg p ver st mr rate peer id) s (fun t => t = s) ∧ Reaches (.noPartner p) s (fun t => t = s) ∧
        Reaches (.bringupRetry p) s (fun t => t = s) ∧ Reaches (.portTrainDone p bad) s (fun t => t = s)) ∧
    (∀ st mr rate peer id ver, s.portEnabled p = true → ((s.port p).step = 1 ∨ (s.port p).step = 2) →
      (ver ≠ 1 → Reaches (.rowNeg p ver st mr rate peer id) s (fun t =>
        t.f (F.LNK_PORT_STATUS_RESULT p) = 6 ∧ t.portState p = 0 ∧ (t.port p).step = 1 ∧ t.mem = s.mem)) ∧
      (Reaches (.rowNeg p 1 0 mr rate peer id) s (fun t =>
        let agreed := max 1 (min (s.maxRate p) (min 4 mr) - (s.port p).lowered)
        t.portState p = 1 ∧ (t.port p).step = 2 ∧ (t.port p).rate = agreed ∧ (t.port p).partnerMax = some mr ∧
          t.out.getLast? = some (.row p 0x4B agreed) ∧ t.rd (Reg.LNK_PORT_PEER_LO p) = BitVec.ofNat 32 id ∧ t.mem = s.mem)) ∧
      (st ≠ 0 → (s.port p).partnerMax.isSome = true → 15 ≤ (s.port p).accepts → (s.port p).rate ≤ 4 →
        Reaches (.rowNeg p 1 st mr rate peer id) s (fun t => (t.port p).step = 3 ∧ t.f (F.LNK_PORT_STATUS_RATE p) = (s.port p).rate ∧
          t.portState p = 1 ∧ t.mem = s.mem)) ∧
      (st ≠ 0 → (s.port p).accepts < 15 → Reaches (.rowNeg p 1 st mr rate peer id) s (fun t =>
        (t.port p).step = 2 ∧ (t.port p).accepts = (s.port p).accepts + 1 ∧ t.portState p = 1 ∧ t.mem = s.mem))) ∧
    (s.portEnabled p = true → ((s.port p).step = 1 ∨ (s.port p).step = 2) → (s.port p).partnerMax = none → Reaches (.noPartner p) s (fun t =>
      t.f (F.LNK_PORT_STATUS_RESULT p) = 3 ∧ t.portState p = 0 ∧ (t.port p).step = 1 ∧ t.mem = s.mem)) ∧
    (s.portEnabled p = true → s.portState p = 0 → Reaches (.bringupRetry p) s (fun t =>
      (t.port p).step = 1 ∧ (t.port p).lowered = 0 ∧ t.out = s.out ++ [.row p 0x4B (s.maxRate p)] ∧ t.regs = s.regs ∧ t.mem = s.mem)) ∧
    (s.portEnabled p = true → (s.port p).step = 3 → (s.port p).badLanes = none →
      (Reaches (.portTrainDone p 0) s (fun t => t.f (F.LNK_PORT_STATUS_RESULT p) = 1 ∧ t.portState p = 2 ∧ (t.port p).step = 5 ∧
        (t.port p).lowered = 0 ∧ t.mem = s.mem ∧ t.chans = s.chans)) ∧
      (∀ bad, bad ≠ 0 → 1 < (s.port p).rate → Reaches (.portTrainDone p bad) s (fun t => (t.port p).step = 2 ∧
        (t.port p).lowered = (s.port p).lowered + 1 ∧ t.portState p = s.portState p ∧ t.regs = s.regs ∧ t.mem = s.mem)) ∧
      (∀ bad, bad ≠ 0 → (s.port p).rate ≤ 1 → Reaches (.portTrainDone p bad) s (fun t =>
        (t.f (F.LNK_PORT_STATUS_RESULT p) = 4 ∨ t.f (F.LNK_PORT_STATUS_RESULT p) = 5) ∧ t.portState p = 0 ∧ (t.port p).step = 1 ∧
          (t.port p).lowered = 0 ∧ t.mem = s.mem)))

/-- Rows and the bring-up of a fabric port. -/
def Obligations.PortLadder : Prop := Clause.PortRows ∧ Clause.PortBringUp

/-- Writes of a port's registers (R386, R387, R395, R525): RETRAIN restarts a port in UP, FENCE fences one, each refused with RESULT 2 where
Table 2-17 or the chip's budget forbids it; CLEAR takes a fenced port out of its fence to DOWN; a counter takes any write as 0. -/
def Clause.PortCommands : Prop :=
  (∀ (s : State) (p : Nat) (w : BusWrite) (c : Instr), p < 4 → c ∈ [.lnkPortRetrain p w, .lnkPortFence p w, .lnkPortClear p w] →
    Admitted s (Reg.LNK_PORT_CTRL p) w → w.bit 31 = s.flag (F.LNK_PORT_CTRL_EN p) →
    let q := stored s (Reg.LNK_PORT_CTRL p) w
    let u := unitCode 0xA p
    (w.bit 0 = true → w.bit 1 = false → w.bit 2 = false → q.portState p = 2 →
      let ok := q.portServiceOk p && decide (q.fenceCount 0xA + 1 ≤ 2)
      (ok = true → Reaches c s (fun t => t.portState p = 1 ∧ (t.port p).step = 2 ∧ (t.port p).queue = (q.port p).queue ∧ t.mem = q.mem ∧
        t.fcl = q.fcl)) ∧
      (ok = false → Reaches c s (fun t => t.f (F.LNK_PORT_STATUS_RESULT p) = 2 ∧ OnlyRegs [Reg.LNK_PORT_STATUS p] q t ∧ SameBeyondRegs q t))) ∧
    (w.bit 0 = false → w.bit 1 = true → w.bit 2 = false → q.portState p ≠ 4 → q.fenced u = false →
      let ok := q.portServiceOk p && decide (q.fenceCount 0xA + b2n (!q.portRetraining p) ≤ 2)
      (ok = true → Reaches c s (fun t => t.fenced u = true ∧ t.portState p = 4 ∧ (t.port p).step = 0 ∧ t.mem = q.mem)) ∧
      (ok = false → Reaches c s (fun t => t.f (F.LNK_PORT_STATUS_RESULT p) = 2 ∧ OnlyRegs [Reg.LNK_PORT_STATUS p] q t ∧ SameBeyondRegs q t))) ∧
    (w.bit 0 = false → w.bit 1 = false → w.bit 2 = true → q.portState p = 4 → Reaches c s (fun t =>
      t.fenced u = false ∧ t.portState p = 0 ∧ (t.port p).step = b2n (w.bit 31) ∧ t.mem = q.mem)) ∧
    (w.bit 0 = false → w.bit 1 = false → (w.bit 2 = false ∨ q.portState p ≠ 4) → Reaches c s (fun t => t = q))) ∧
  (∀ (s : State) (p k : Nat) (w : BusWrite), p < 4 → k < 6 → AdmittedPlain s (Reg.LNK_PORT_CRC p + 4 * k) w →
    Reaches (.lnkPortCountWrite p k w) s (fun t => t.rd (Reg.LNK_PORT_CRC p + 4 * k) = 0 ∧ OnlyRegs [Reg.LNK_PORT_CRC p + 4 * k] s t ∧
      SameBeyondRegs s t))

/-- DUT lanes (R396, R400, R402, R404): a slip search starts on a receiver that is locked, and ends with the slip found or the one before; a write
of the error counter clears both counts; the read of the bits latches both counts; the locks read as they are reported. -/
def Clause.DutLanes : Prop :=
  ∀ (s : State) (j : Nat), j < 16 →
    (∀ w, Admitted s (Reg.LNK_DL_SEARCH j) w → w.bit 31 = true → s.flag (F.LNK_DL_SEARCH_GO j) = false →
      let q := stored s (Reg.LNK_DL_SEARCH j) w
      let able := q.f (F.LNK_DL_CFG_RX_MODE j) ∈ [1, 6] ∧ q.flag (F.LNK_DL_STATUS_CDR_LOCK j) = true
      (able → Reaches (.lnkDlSearch j w) s (fun t => t.flag (F.LNK_DL_SEARCH_GO j) = true ∧
        (t.dlane j).slipBefore = q.f (F.LNK_DL_SLIP_SLIP j) ∧ OnlyRegs [Reg.LNK_DL_SEARCH j] q t ∧ t.mem = q.mem)) ∧
      (¬ able → Reaches (.lnkDlSearch j w) s (fun t => t.f (F.LNK_DL_SEARCH_RESULT j) = 4 ∧ t.flag (F.LNK_DL_SEARCH_GO j) = false ∧
        OnlyRegs [Reg.LNK_DL_SEARCH j] q t ∧ SameBeyondRegs q t))) ∧
    (∀ found noData, s.flag (F.LNK_DL_SEARCH_GO j) = false → Reaches (.searchDone j found noData) s (fun t => t = s)) ∧
    (s.flag (F.LNK_DL_SEARCH_GO j) = true →
      (∀ k, k ≤ s.f (F.LNK_DL_SEARCH_MAX j) → Reaches (.searchDone j (some k) false) s (fun t => t.flag (F.LNK_DL_SEARCH_GO j) = false ∧
        t.f (F.LNK_DL_SEARCH_RESULT j) = 1 ∧ t.f (F.LNK_DL_SLIP_SLIP j) = k ∧ t.mem = s.mem)) ∧
      (∀ noData, (s.dlane j).slipBefore < 4096 → Reaches (.searchDone j none noData) s (fun t => t.flag (F.LNK_DL_SEARCH_GO j) = false ∧
        t.f (F.LNK_DL_SEARCH_RESULT j) = (if noData then 3 else 2) ∧ t.f (F.LNK_DL_SLIP_SLIP j) = (s.dlane j).slipBefore ∧ t.mem = s.mem))) ∧
    (∀ w, AdmittedPlain s (Reg.LNK_DL_ERR j) w → Reaches (.lnkDlErrWrite j w) s (fun t => t.rd (Reg.LNK_DL_ERR j) = 0 ∧ (t.dlane j).bits = 0 ∧
      (t.dlane j).errs = 0 ∧ OnlyRegs [Reg.LNK_DL_ERR j] s t ∧ t.mem = s.mem)) ∧
    (∀ bits errs, Reaches (.lnkDlBitsRead j bits errs) s (fun t =>
      let n := ((s.dlane j).bits + bits) % 2 ^ 48
      (t.dlane j).bits = n ∧ (t.dlane j).wrap = false ∧ t.out = s.out ++ [.answer (Reg.LNK_DL_BITS_LO j) (n % 2 ^ 32)] ∧
        t.f (F.LNK_DL_BITS_HI_HI j) = n / 2 ^ 32 ∧
        t.flag (F.LNK_DL_BITS_HI_WRAP j) = ((s.dlane j).wrap || decide (2 ^ 48 ≤ (s.dlane j).bits + bits)) ∧
        (s.flag (F.LNK_DL_SEARCH_GO j) = false → (s.dlane j).stopped = false →
          t.rd (Reg.LNK_DL_ERR j) = BitVec.ofNat 32 (satAdd 0xFFFFFFFF (s.dlane j).errs errs)) ∧
        OnlyRegs [Reg.LNK_DL_BITS_LO j, Reg.LNK_DL_BITS_HI j, Reg.LNK_DL_ERR j] s t ∧ t.mem = s.mem)) ∧
    (s.domOn (46 + j / 8) = true → Reaches (.cdrLock j) s (fun t =>
      t.flag (F.LNK_DL_STATUS_CDR_LOCK j) = true ∧ OnlyRegs [Reg.LNK_DL_STATUS j] s t ∧ SameBeyondRegs s t)) ∧
    (Reaches (.cdrLockLost j) s (fun t => t.flag (F.LNK_DL_STATUS_CDR_LOCK j) = false ∧
      (s.f (F.LNK_DL_CFG_RX_MODE j) = 6 → t.flag (F.LNK_DL_STATUS_UNLOCK j) = true) ∧ OnlyRegs [Reg.LNK_DL_STATUS j] s t ∧ SameBeyondRegs s t)) ∧
    (∀ lock, s.f (F.LNK_DL_CFG_RX_MODE j) ∈ [2, 3, 4, 5] → s.domOn (46 + j / 8) = true → Reaches (.prbsLock j lock) s (fun t =>
      t.flag (F.LNK_DL_STATUS_PRBS_LOCK j) = lock ∧ OnlyRegs [Reg.LNK_DL_STATUS j] s t ∧ SameBeyondRegs s t)) ∧
    (s.domOn (46 + j / 8) = false → ∀ lock, Reaches (.cdrLock j) s (fun t => t = s) ∧ Reaches (.prbsLock j lock) s (fun t => t = s))

/-- The commands of the fabric ports and the DUT lanes. -/
def Obligations.LaneCommands : Prop := Clause.PortCommands ∧ Clause.DutLanes

/-- The frames of the library, KEEPALIVE, and those of no known type. -/
def bulkFrames (p : Nat) (f : Frame) : List Instr :=
  [.frameLibRead p f, .frameLibData p f, .frameLibWrite p f, .frameLibAck p f]

/-- A frame received (R231, R388, R391, R393): a port that is not UP takes none of the library's, and one that is not in KEEPALIVE either none of
these at all; one out of order is discarded; one with a
bad check word is counted and asks for a replay, and acts on nothing; one in order with both check words good is acknowledged, and
KEEPALIVE does no more, an unknown type is counted. A LIB_WRITE for this device stores its data, LIB_DATA joins the request of its TAG, LIB_ACK ends a
member's part, and LIB_READ stores nothing. -/
def Obligations.FramesReceived : Prop :=
  ∀ (s : State) (p : Nat) (f : Frame), p < 4 →
    (s.portState p ≠ 2 → ∀ c ∈ bulkFrames p f, Reaches c s (fun t => t = s)) ∧
    (s.portState p ≠ 2 → s.portState p ≠ 3 → Reaches (.frameKeepalive p f) s (fun t => t = s) ∧
      Reaches (.frameTypeUnknown p f) s (fun t => t = s)) ∧
    (s.portState p = 2 → f.hcrcOk = true → f.fcrcOk = true → f.seq ≠ (s.port p).expect →
      ∀ c ∈ bulkFrames p f ++ [.frameKeepalive p f, .frameTypeUnknown p f], Reaches c s (fun t => t = s)) ∧
    (s.portState p = 2 → f.fcrcOk = false → (s.port p).failures < 3 →
      ∀ c ∈ bulkFrames p f ++ [.frameKeepalive p f, .frameTypeUnknown p f], Reaches c s (fun t =>
        t.f (F.LNK_PORT_CRC p) = satAdd 0xFFFFFFFF (s.f (F.LNK_PORT_CRC p)) 1 ∧ (t.port p).failures = (s.port p).failures + 1 ∧
          (t.port p).nak = true ∧ (t.port p).expect = (s.port p).expect ∧ t.mem = s.mem ∧ t.lib = s.lib ∧
          t.out = s.out ++ [.row p 0x55 (2 ^ 16 + ((s.port p).expect + 65535) % 65536)])) ∧
    (s.portState p = 2 → f.hcrcOk = true → f.fcrcOk = true → f.seq = (s.port p).expect → f.seq < 65536 →
      Reaches (.frameKeepalive p f) s (fun t => (t.port p).expect = (f.seq + 1) % 65536 ∧ (t.port p).nak = false ∧ t.regs = s.regs ∧
        t.out = s.out ++ [.row p 0x55 f.seq] ∧ t.mem = s.mem) ∧
      Reaches (.frameTypeUnknown p f) s (fun t => (t.port p).expect = (f.seq + 1) % 65536 ∧
        t.f (F.LNK_PORT_BAD p) = satAdd 0xFFFFFFFF (s.f (F.LNK_PORT_BAD p)) 1 ∧ t.out = s.out ++ [.row p 0x55 f.seq] ∧ t.mem = s.mem) ∧
      (f.dst = s.f F.GRP_CFG_SELF →
        Reaches (.frameLibWrite p f) s (fun t => (t.port p).expect = (f.seq + 1) % 65536 ∧
          t.mem = (s.stkWrite (leAt f.payload 0 8 % 2 ^ 41) 5 (f.payload.drop 16) (fun _ => false)).2.mem) ∧
        (s.bad = [] → Reaches (.frameLibRead p f) s (fun t => (t.port p).expect = (f.seq + 1) % 65536 ∧ t.mem = s.mem ∧ t.lib = s.lib)) ∧
        Reaches (.frameLibData p f) s (fun t => (t.port p).expect = (f.seq + 1) % 65536 ∧ t.mem = s.mem ∧
          (∀ r ∈ s.lib.reqs, r.tag = f.tag → r.done = false → r.addr / 2 ^ 50 = 1 → r.bytes.length = 64 * bitsAt f.arg 0 24 →
            ∃ r' ∈ t.lib.reqs, r'.tag = r.tag ∧ r'.bytes = r.bytes ++ f.payload.take (min 1024 (r.len - r.bytes.length)) ∧
              r'.bad = (r.bad || decide (bitsAt f.arg 24 8 ≠ 0)))) ∧
        (s.lib.cur = none → s.lib.inParts = [] → Reaches (.frameLibAck p f) s (fun t =>
          (t.port p).expect = (f.seq + 1) % 65536 ∧ t.mem = s.mem ∧ t.lib = s.lib)) ∧
        (∀ c, s.lib.cur = some c → f.tag = s.lib.load.tag → f.src < 16 → bitAt (c.tgt / 4) f.src = true → s.lib.load.acks = none →
          s.lib.load.fails = 0 → bitAt s.lib.load.sent (f.src + 2) = true → s.lib.load.waits c (f.src + 2) = true → bitsAt f.arg 24 8 = 0 →
          Reaches (.frameLibAck p f) s (fun t => bitAt t.lib.load.done (f.src + 2) = true ∧ t.lib.cur = some c ∧ t.mem = s.mem))))

/-! ### Lockstep groups (15_lockstep_groups.md) and the time base (13_time_interval.md) -/

/-- Of the command bits of GRP_CTRL a write sets exactly one. -/
def onlyBit (w : BusWrite) (i : Nat) : Prop := ∀ j, j < 6 → (w.bit j = true ↔ j = i)

/-- No context of the group plays. -/
def groupQuiet (s : State) : Prop := ∀ c, c < 16 → s.grpCtx c = true → (s.ctxState c).playing = false

/-- GRP_CTRL (R415, R418, R424, R426, R433, R434): START, RESUME, CONFIRM and DECLINE away from the sync master set CMD_ERR and do no more; at the
sync master each acts in the states that take it, with RESULT 1, and is refused with RESULT 3 in every other; ARM asks every member and waits for
them; DISARM ends the group run where no context of the group still plays. -/
def Obligations.GroupCommands : Prop :=
  ∀ (s : State) (w : BusWrite), AdmittedPlain s Reg.GRP_CTRL w →
    let master := s.flag F.GRP_CFG_EN && s.grpRoot
    (∀ (c : Instr) (hops : List (Nat × Nat × Nat)) (i : Nat), c ∈ [.grpStart w, .grpResume w hops, .grpConfirm w, .grpDecline w] →
      i ∈ [1, 2, 4, 5] → onlyBit w i → master = false → Reaches c s (fun t =>
        t.flag F.GRP_STATUS_CMD_ERR = true ∧ OnlyRegs [Reg.GRP_STATUS] s t ∧ SameBeyondRegs s t)) ∧
    (onlyBit w 1 → master = true →
      (s.grpState = 2 → Reaches (.grpStart w) s (fun t => t.f F.GRP_STATUS_RESULT = 1 ∧ t.grp = { s.grp with startReq := true } ∧
        OnlyRegs [Reg.GRP_STATUS] s t ∧ t.ctxs = s.ctxs ∧ t.mem = s.mem)) ∧
      (s.grpState ≠ 2 → Reaches (.grpStart w) s (fun t => t.f F.GRP_STATUS_RESULT = 3 ∧ OnlyRegs [Reg.GRP_STATUS] s t ∧ SameBeyondRegs s t))) ∧
    (∀ hops, onlyBit w 2 → master = true →
      let able := (s.grpState = 4 ∨ s.grpState = 5) ∧ s.grp.divergent = false ∧ s.grp.lost = 0
      (¬ able → Reaches (.grpResume w hops) s (fun t => t.f F.GRP_STATUS_RESULT = 3 ∧ OnlyRegs [Reg.GRP_STATUS] s t ∧ SameBeyondRegs s t)) ∧
      (able → hops = [] → Reaches (.grpResume w hops) s (fun t => t.f F.GRP_STATUS_RESULT = 1 ∧ t.grp.resumeReq = true ∧ t.grp.withheld = [] ∧
        t.grpState = s.grpState ∧ t.mem = s.mem))) ∧
    (onlyBit w 4 → master = true →
      (s.grpState ≠ 6 → Reaches (.grpConfirm w) s (fun t => t.f F.GRP_STATUS_RESULT = 3 ∧ OnlyRegs [Reg.GRP_STATUS] s t ∧ SameBeyondRegs s t)) ∧
      (s.grpState = 6 → Reaches (.grpConfirm w) s (fun t => t.f F.GRP_STATUS_RESULT = 1 ∧ t.grpState = 4 ∧ t.grp.lost = 0 ∧
        (∀ m, m < 16 → bitAt (t.f F.GRP_MEMBERS_M) m = (bitAt (s.f F.GRP_MEMBERS_M) m && !bitAt s.grp.lost m)) ∧ t.mem = s.mem))) ∧
    (onlyBit w 5 → master = true →
      (s.grpState ≠ 6 → Reaches (.grpDecline w) s (fun t => t.f F.GRP_STATUS_RESULT = 3 ∧ OnlyRegs [Reg.GRP_STATUS] s t ∧ SameBeyondRegs s t)) ∧
      (s.grpState = 6 → Reaches (.grpDecline w) s (fun t => t.f F.GRP_STATUS_RESULT = 1 ∧ t.grpState = 7 ∧ t.mem = s.mem))) ∧
    (onlyBit w 3 →
      (groupQuiet s → Reaches (.grpDisarm w) s (fun t => t.grpState = 0 ∧ t.f F.GRP_STATUS_CAUSE = 0 ∧ t.grp.phase = 0 ∧ t.grp.align = none ∧
        t.grp.lost = 0 ∧ t.grp.downs = [] ∧ t.mem = s.mem)) ∧
      (¬ groupQuiet s → Reaches (.grpDisarm w) s (fun t => t.grpState = s.grpState ∧ t.grp = s.grp ∧ t.ctxs = s.ctxs ∧ t.mem = s.mem))) ∧
    (∀ sync v, onlyBit w 0 →
      (master = false → Reaches (.grpArm w sync v) s (fun t => t = s)) ∧
      (master = true → s.grpState ≠ 0 → s.grpState ≠ 7 → Reaches (.grpArm w sync v) s (fun t =>
        t.f F.GRP_STATUS_RESULT = 3 ∧ OnlyRegs [Reg.GRP_STATUS] s t ∧ SameBeyondRegs s t)) ∧
      (master = true → (s.grpState = 0 ∨ s.grpState = 7) → (∃ m, m < 16 ∧ bitAt (s.f F.GRP_MEMBERS_M) m = true ∧ m ≠ s.f F.GRP_CFG_SELF) →
        s.grp.left = 0 → Reaches (.grpArm w sync v) s (fun t => t.grpState = 1 ∧ t.f F.GRP_STATUS_RESULT = 1 ∧ t.grp.phase = 1 ∧
          t.grp.answers.map (fun a => a.member) = [s.f F.GRP_CFG_SELF] ∧
          t.ctxs = s.ctxs ∧ t.mem = s.mem)))

/-- A frame arrives in order with both check words good on a port in UP. -/
def arrives (s : State) (p : Nat) (f : Frame) : Prop :=
  p < 4 ∧ s.portState p = 2 ∧ f.hcrcOk = true ∧ f.fcrcOk = true ∧ f.seq = (s.port p).expect

/-- The frames of the group. -/
def IsGroupFrame (p : Nat) (f : Frame) (c : Instr) : Prop :=
  c ∈ [.framePrepare p f false, .frameReady p f {}, .frameRefuse p f {}, .frameCommit p f false [], .frameAbort p f, .frameConfirm p f,
   .frameDecline p f, .frameDisarm p f, .frameHeartbeat p f, .frameSummary p f, .frameTrigger p f]

/-- Frames of the group (R406, R415, R416, R419, R428, R431, R433, R434): one that does not come on a port of the tree is acknowledged and does no
more. PREPARE makes a member READY or ends its Arm; READY and REFUSE reach the sync master, which decides with the last of them; COMMIT arms a member that is READY, ABORT ends its Arm with the reason; a DOWN summary is held, a child's waits to be combined;
CONFIRM and DECLINE end a split, DISARM the run; TRIGGER sets its latch in every context, HEARTBEAT hears a member again where the group is
not live. -/
def Obligations.GroupFrames : Prop :=
  (∀ (s : State) (p : Nat) (f : Frame), arrives s p f → s.onTree p = false → ∀ c, IsGroupFrame p f c → Reaches c s (fun t =>
    t.grp = s.grp ∧ t.ctxs = s.ctxs ∧ t.mem = s.mem ∧ (t.port p).expect = (f.seq + 1) % 65536)) ∧
  (∀ (s : State) (p : Nat) (f : Frame), arrives s p f → s.onTree p = true →
    (∀ sync, s.grpRoot = true ∨ (s.grpState ≠ 0 ∧ s.grpState ≠ 7) → Reaches (.framePrepare p f sync) s (fun t => t.grp = s.grp ∧ t.ctxs = s.ctxs)) ∧
    (∀ sync, s.grpRoot = false → (s.grpState = 0 ∨ s.grpState = 7) → Reaches (.framePrepare p f sync) s (fun t =>
      t.grp.master = f.src ∧ t.mem = s.mem ∧ ((t.grpState = 1 ∧ t.grp.phase = 2) ∨ (t.grpState = 0 ∧ t.grp.phase = 0)))) ∧
    (∀ v, s.grpRoot = false → Reaches (.frameReady p f v) s (fun t => t.ctxs = s.ctxs ∧ t.mem = s.mem ∧
      t.grp = { s.grp with siteMaps := (f.src, (f.payload.drop 16).take 128) :: s.grp.siteMaps.filter (fun q => decide (q.1 ≠ f.src)) }) ∧
      Reaches (.frameRefuse p f v) s (fun t => t.grp = s.grp ∧ t.ctxs = s.ctxs ∧ t.mem = s.mem)) ∧
    (∀ v, s.grpRoot = true → s.grp.phase = 1 → (s.grp.answers.any (fun a => decide (a.member = f.src))) = false →
      (∃ m ∈ s.grpMembers, m ≠ f.src ∧ (s.grp.answers.any (fun a => decide (a.member = m))) = false) →
      Reaches (.frameReady p f v) s (fun t => t.grp.phase = 1 ∧ t.grpState = s.grpState ∧ t.ctxs = s.ctxs ∧
        t.grp.answers.map (fun a => (a.member, a.digest)) = s.grp.answers.map (fun a => (a.member, a.digest)) ++ [(f.src, leAt f.payload 0 4)])) ∧
    (∀ v, s.grpRoot = true → s.grp.phase = 1 → (s.grp.answers.any (fun a => decide (a.member = f.src))) = false →
      (∀ m ∈ s.grpMembers, m = f.src ∨ (s.grp.answers.any (fun a => decide (a.member = m))) = true) →
      (∀ a ∈ s.grp.answers, a.refuse = none) → leAt f.payload 1 1 < 16 → leAt f.payload 0 1 ≠ 2 →
      Reaches (.frameRefuse p f v) s (fun t => t.grpState = 0 ∧ t.grp.phase = 0 ∧ t.f F.GRP_ARM_STATUS_REASON = leAt f.payload 0 1 ∧
        t.f F.GRP_ARM_STATUS_MEMBER = leAt f.payload 1 1 ∧ t.f F.GRP_ARM_STATUS_DETAIL = leAt f.payload 2 2 ∧ t.mem = s.mem)) ∧
    (∀ late lats,
      (s.grp.phase ≠ 2 → Reaches (.frameCommit p f late lats) s (fun t => t.grp = s.grp ∧ t.ctxs = s.ctxs ∧ t.mem = s.mem)) ∧
      (s.grp.phase = 2 → Reaches (.frameCommit p f late lats) s (fun t => t.grpState = 2 ∧ t.f F.GRP_STATUS_CAUSE = 0 ∧
        t.f F.GRP_ARM_STATUS_REASON = 1 ∧ t.grp.phase = 0 ∧ t.grp.align = some (if late then 1 else 2) ∧ t.mem = s.mem))) ∧
    (s.grpRoot = true → Reaches (.frameAbort p f) s (fun t => t.grp = s.grp ∧ t.ctxs = s.ctxs ∧ t.mem = s.mem)) ∧
    (s.grpRoot = false → s.grp.phase = 2 → Reaches (.frameAbort p f) s (fun t => t.grpState = 0 ∧ t.grp.phase = 0 ∧
      t.f F.GRP_ARM_STATUS_REASON = leAt f.payload 0 1 ∧ t.f F.GRP_ARM_STATUS_DETAIL = leAt f.payload 2 2 ∧ t.mem = s.mem)) ∧
    (s.grpState ≠ 6 → Reaches (.frameConfirm p f) s (fun t => t.grp = s.grp ∧ t.ctxs = s.ctxs) ∧
      Reaches (.frameDecline p f) s (fun t => t.grp = s.grp ∧ t.ctxs = s.ctxs)) ∧
    (s.grpState = 6 → Reaches (.frameConfirm p f) s (fun t => t.grpState = 4 ∧ t.grp.lost = 0 ∧ t.mem = s.mem) ∧
      Reaches (.frameDecline p f) s (fun t => t.grpState = 7 ∧ t.mem = s.mem)) ∧
    (groupQuiet s → Reaches (.frameDisarm p f) s (fun t => t.grpState = 0 ∧ t.grp.phase = 0 ∧ t.grp.align = none ∧ t.mem = s.mem)) ∧
    (¬ groupQuiet s → Reaches (.frameDisarm p f) s (fun t => t.grp = s.grp ∧ t.ctxs = s.ctxs ∧ t.mem = s.mem)) ∧
    (Reaches (.frameHeartbeat p f) s (fun t => t.ctxs = s.ctxs ∧ t.mem = s.mem ∧
      t.grp = if s.grpLive then s.grp else { s.grp with lost := setBitTo s.grp.lost f.src false })) ∧
    (s.grpLive = true → bitAt f.tag 15 = true → s.f (F.GRP_PORT_ROLE p) = 1 → Reaches (.frameSummary p f) s (fun t =>
      t.grp.downs = (f.arg, f.tag) :: s.grp.downs.take 4096 ∧ t.grpState = s.grpState ∧ t.mem = s.mem)) ∧
    (s.grpLive = true → bitAt f.tag 15 = false → s.f (F.GRP_PORT_ROLE p) = 2 → (s.grp.own.find? (fun q => decide (q.1 = f.arg))) = none →
      Reaches (.frameSummary p f) s (fun t => t.grp = { s.grp with kids := s.grp.kids ++ [(f.arg, p, f.tag)] } ∧ t.ctxs = s.ctxs ∧ t.mem = s.mem)) ∧
    (Reaches (.frameTrigger p f) s (fun t => (∀ c, c < 16 → bitAt (t.ctx c).fabric (f.arg % 16) = true) ∧ t.grp = s.grp ∧ t.chans = s.chans ∧ t.mem = s.mem)))

/-- The group's own events (R409, R410, R415, R417, R428, R431 to R433, Tables 15-5 and 15-7): a member that does not answer, and a COMMIT that
does not come, end the Arm; a pulse of SYNC_IN is counted and counts the alignment down, SYNC_OUT drives only with OUT_EN, the alignment
takes place at its pulse alone; a heartbeat is counted; a member is lost once, which splits a group that runs or, with the sync master lost,
stops it; a split without CONFIRM ends the run; a fabric trigger sets its latch in every context. -/
def Clause.GroupEvents : Prop :=
  ∀ s : State,
    (∀ m, s.grpMembers.find? (fun m => !s.grp.answers.any (fun a => decide (a.member = m))) = some m → s.grpRoot = true → s.grp.phase = 1 → m < 16 →
      Reaches .prepareNoReply s (fun t => t.grpState = 0 ∧ t.grp.phase = 0 ∧ t.f F.GRP_ARM_STATUS_REASON = 3 ∧ t.f F.GRP_ARM_STATUS_MEMBER = m ∧
        t.mem = s.mem)) ∧
    ((s.grpRoot = false ∨ s.grp.phase ≠ 1) → Reaches .prepareNoReply s (fun t => t = s)) ∧
    (s.grp.phase = 2 → Reaches .noCommit s (fun t => t.grpState = 0 ∧ t.grp.phase = 0 ∧ t.f F.GRP_ARM_STATUS_REASON = 0xB ∧
      t.f F.GRP_ARM_STATUS_MEMBER = s.f F.GRP_CFG_SELF ∧ t.mem = s.mem)) ∧
    (s.grp.phase ≠ 2 → Reaches .noCommit s (fun t => t = s)) ∧
    (∀ stamp, Reaches (.syncInPulse stamp) s (fun t => t.grp.pulses = s.grp.pulses + 1 ∧ t.grp.stamp = stamp ∧
      t.grp.align = s.grp.align.map (fun n => n - 1) ∧ t.regs = s.regs ∧ t.ctxs = s.ctxs ∧ t.mem = s.mem)) ∧
    (Reaches .syncOutPulse s (fun t => t = if s.flag F.GRP_SYNC_OUT_EN then s.emit .syncOut else s)) ∧
    (s.grp.align ≠ some 0 → Reaches .groupAlign s (fun t => t = s)) ∧
    (s.grp.align = some 0 → Reaches .groupAlign s (fun t => t.grp.align = none ∧ t.mem = s.mem)) ∧
    (s.grp.align = some 0 → (∀ c, c < 16 → s.ctxState c ≠ .armed) → Reaches .groupAlign s (fun t => t.grp = { s.grp with align := none } ∧
      t.regs = s.regs ∧ t.ctxs = s.ctxs ∧ t.mem = s.mem)) ∧
    (s.flag F.GRP_CFG_EN = true → Reaches .heartbeatSend s (fun t => t.grp = { s.grp with beats := (s.grp.beats + 1) % 2 ^ 32 } ∧
      t.ctxs = s.ctxs ∧ t.mem = s.mem)) ∧
    (s.flag F.GRP_CFG_EN = false → Reaches .heartbeatSend s (fun t => t = s)) ∧
    (∀ m, (s.flag F.GRP_CFG_EN = false ∨ m ∉ s.grpMembers ∨ m = s.f F.GRP_CFG_SELF ∨ bitAt s.grp.lost m = true) →
      Reaches (.memberLost m) s (fun t => t = s)) ∧
    (∀ m, s.flag F.GRP_CFG_EN = true → m ∈ s.grpMembers → m ≠ s.f F.GRP_CFG_SELF → bitAt s.grp.lost m = false →
      let runs := s.grpLive = true ∧ ∃ c, c < 16 ∧ s.grpCtx c = true ∧ (s.ctxState c).active = true
      (¬ runs → Reaches (.memberLost m) s (fun t => t.grp = { s.grp with lost := setBitTo s.grp.lost m true } ∧ t.ctxs = s.ctxs ∧ t.mem = s.mem)) ∧
      (runs → m = s.grp.master → Reaches (.memberLost m) s (fun t => t.grpState = 7 ∧ t.f F.GRP_STATUS_CAUSE = 2 ∧ bitAt t.grp.lost m = true ∧
        t.mem = s.mem)) ∧
      (runs → bitAt (setBitTo s.grp.lost m true) s.grp.master = false → Reaches (.memberLost m) s (fun t => t.grpState = 6 ∧
        t.f F.GRP_STATUS_CAUSE = 2 ∧ bitAt t.grp.lost m = true ∧ t.mem = s.mem))) ∧
    (s.grpState ≠ 6 → Reaches .splitTimeout s (fun t => t = s)) ∧
    (s.grpState = 6 → Reaches .splitTimeout s (fun t => t.grpState = 7 ∧ t.mem = s.mem)) ∧
    (∀ i, i < 16 → s.flag (F.GRP_FTRIG_EN i) = false → Reaches (.fabricTriggerSource i) s (fun t => t = s)) ∧
    (∀ i, i < 16 → s.flag (F.GRP_FTRIG_EN i) = true → Reaches (.fabricTriggerSource i) s (fun t =>
      (∀ c, c < 16 → bitAt (t.ctx c).fabric i = true) ∧ t.grp = s.grp ∧ t.chans = s.chans ∧ t.mem = s.mem)) ∧
    (∀ w, AdmittedPlain s Reg.GRP_FTRIG_SW w → Reaches (.grpFtrigSw w) s (fun t =>
      (∀ i, i < 16 → w.bit i = true → ∀ c, c < 16 → bitAt (t.ctx c).fabric i = true) ∧ t.grp = s.grp ∧ t.mem = s.mem))

/-- Holdover of the time base (R36, R372 to R374): its entry is counted and asks a group that runs here to stop, its exit ends it, and neither
happens twice; in holdover the oscillator's terms stay, outside it each second's terms come in, with XO_VALID after 1,000 s and AGE_VALID after
24 h; a write of a term makes it valid. -/
def Clause.TimeBase : Prop :=
  (∀ s : State, s.flag F.TIM_TB_STATUS_HOLDOVER = true → Reaches .holdoverEntry s (fun t => t = s) ∧
    Reaches .holdoverExit s (fun t => t.flag F.TIM_TB_STATUS_HOLDOVER = false ∧ t.grp = s.grp ∧ t.mem = s.mem) ∧
    (∀ off age, Reaches (.xoUpdate off age) s (fun t => t = s))) ∧
  (∀ s : State, s.flag F.TIM_TB_STATUS_HOLDOVER = false → Reaches .holdoverExit s (fun t => t = s) ∧
    Reaches .holdoverEntry s (fun t => t.flag F.TIM_TB_STATUS_HOLDOVER = true ∧
      t.f F.TIM_TB_STATUS_HOLD_CNT = (s.f F.TIM_TB_STATUS_HOLD_CNT + 1) % 65536 ∧ t.ctxs = s.ctxs ∧ t.mem = s.mem ∧
      ((s.grpLive = true ∧ ∃ c, c < 16 ∧ s.grpCtx c = true ∧ (s.ctxState c).active = true) →
        t.grp.stopReq = true ∧ t.f F.GRP_STATUS_CAUSE = 4)) ∧
    (∀ off age, Reaches (.xoUpdate off age) s (fun t => t.rd Reg.TIM_XO_OFF = off ∧ t.rd Reg.TIM_XO_AGE = age ∧
      t.tb.xoSecs = min 1000 (s.tb.xoSecs + 1) ∧ t.tb.ageSecs = min 86400 (s.tb.ageSecs + 1) ∧
      (1000 ≤ s.tb.xoSecs + 1 → t.flag F.TIM_TB_STATUS_XO_VALID = true) ∧ (86400 ≤ s.tb.ageSecs + 1 → t.flag F.TIM_TB_STATUS_AGE_VALID = true) ∧
      OnlyRegs [Reg.TIM_XO_OFF, Reg.TIM_XO_AGE, Reg.TIM_TB_STATUS] s t ∧ t.mem = s.mem))) ∧
  (∀ (s : State) (age : Bool) (w : BusWrite), Admitted s (if age then Reg.TIM_XO_AGE else Reg.TIM_XO_OFF) w → Reaches (.timXoWrite age w) s (fun t =>
    let q := stored s (if age then Reg.TIM_XO_AGE else Reg.TIM_XO_OFF) w
    t.flag (if age then F.TIM_TB_STATUS_AGE_VALID else F.TIM_TB_STATUS_XO_VALID) = true ∧ OnlyRegs [Reg.TIM_TB_STATUS] q t ∧ SameBeyondRegs q t))

/-- Events of the group and of the time base. -/
def Obligations.GroupAndTimeBase : Prop := Clause.GroupEvents ∧ Clause.TimeBase

/-! ### Rings, descriptors and the host port (16_host_rings_and_dma.md) -/

/-- What a ring's next descriptor is, with the Burcel's count in it. -/
def nextDesc (s : State) (r : Nat) (bytes : List Byte) : Desc := { bytes := bytes, seq := s.ringCount r, since := s.now }

/-- The entry at the Burcel's count is read with the right PHASE, and a completion entry can be reserved for it. -/
def entryTaken (s : State) (r : Nat) (bytes : List Byte) : Prop :=
  r < 256 ∧ s.descDue r = true ∧ bytes.length = 64 ∧ (nextDesc s r bytes).flags % 2 = s.phaseOf r (s.ringCount r) ∧
    ((nextDesc s r bytes).op = 0x20 ∨ s.roomFor r = true) ∧ s.f (F.HST_RING_CFG_CRING r) ≠ r

/-- Descriptors as they are read (R440 to R448, R453, R459, R461): a ring with none due reads none; one that is taken advances the Burcel's
count; a NOP ends at once, an invalid one ends INVALID, a transfer waits for its channel or ends with the status of its range, a LIBCMD joins the
library's queue, an answer of a pattern server joins its request or is counted; the third stale re-read stops the ring. -/
def Clause.DescriptorsStart : Prop :=
  (∀ (s : State) (r : Nat) (bytes data : List Byte) (ok : Bool), s.descDue r = false →
    Reaches (.descNop r bytes) s (fun t => t = s) ∧ Reaches (.descCopy r bytes) s (fun t => t = s) ∧ Reaches (.descFill r bytes) s (fun t => t = s) ∧
      Reaches (.descCompare r bytes) s (fun t => t = s) ∧ Reaches (.descLibcmd r bytes) s (fun t => t = s) ∧
      Reaches (.descOriginData r bytes data ok) s (fun t => t = s) ∧ Reaches (.staleReread r) s (fun t => t = s)) ∧
  (∀ (s : State) (r : Nat) (bytes : List Byte), entryTaken s r bytes →
    let d := nextDesc s r bytes
    let cr := s.f (F.HST_RING_CFG_CRING r)
    let onward := fun (t : State) => t.ringCount r = (s.ringCount r + 1) % 65536 ∧ t.mem = s.mem ∧ t.ctxs = s.ctxs
    let ends := fun (c : Instr) (status : Nat) => s.ringRuns cr = false → Reaches c s (fun t => onward t ∧ (t.ring r).desc = none ∧
      (t.ring cr).backlog = (s.ring cr).backlog ++ [(completion status r d 0 0, decide (status ≠ 0) || bitAt d.flags 2)])
    (d.op = 0 → s.descInvalid r d = false → bitAt d.flags 1 = true → ends (.descNop r bytes) 0) ∧
    (d.op = 0 → s.descInvalid r d = false → bitAt d.flags 1 = false → Reaches (.descNop r bytes) s (fun t => onward t ∧ (t.ring r).desc = none ∧
      t.out = s.out)) ∧
    (d.op ∉ [0, 1, 2, 3, 0x10, 0x20] → ends (.descNop r bytes) 0x0A) ∧
    (∀ c, (c = .descCopy r bytes ∧ d.op = 1 ∨ c = .descFill r bytes ∧ d.op = 2 ∨ c = .descCompare r bytes ∧ d.op = 3) →
      (s.descInvalid r d = true → ends c 0x0A) ∧
      (s.descInvalid r d = false → s.rangeFail d ≠ 0 → ends c (s.rangeFail d)) ∧
      (s.descInvalid r d = false → s.rangeFail d = 0 → Reaches c s (fun t => onward t ∧
        (t.ring r).desc.map (fun x => (x.bytes, x.seq)) = some (bytes, s.ringCount r)))) ∧
    (d.op = 0x10 → s.descInvalid r d = true → ends (.descLibcmd r bytes) 0x0A) ∧
    (d.op = 0x10 → s.descInvalid r d = false → s.lib.cur.isSome = true → Reaches (.descLibcmd r bytes) s (fun t => onward t ∧ (t.ring r).desc = some d ∧
      t.lib.queue = s.lib.queue ++ [{ op := leAt bytes 0x10 1, cn := leAt bytes 0x14 4, tgt := bitsAt d.dst 0 18, desc := some r }])) ∧
    (∀ data ok, d.op = 0x20 → s.descInvalid r d = false → s.lib.reqs = [] → Reaches (.descOriginData r bytes data ok) s (fun t => onward t ∧
      (t.ring r).desc = none ∧ t.lib = s.lib)) ∧
    (∀ (data : List Byte) (q : OriginReq), d.op = 0x20 → s.descInvalid r d = false → s.lib.reqs = [q] → q.tag = d.tag → q.addr / 2 ^ 50 = 2 →
      q.done = false → q.waiting = false → s.flag (F.HST_ORIGIN_EN (bitsAt q.addr 46 4)) = true → s.f (F.HST_ORIGIN_RESPONSE (bitsAt q.addr 46 4)) = r →
      d.len = q.len → leAt bytes 0x20 1 % 2 = 0 → data.length = q.len → Reaches (.descOriginData r bytes data true) s (fun t => onward t ∧
        t.lib.reqs = [{ q with bytes := data, bad := false, done := true }] ∧ (t.ring r).desc = none))) ∧
  (∀ (s : State) (r : Nat), r < 256 → s.descDue r = true →
    ((s.ring r).rereads < 2 → Reaches (.staleReread r) s (fun t => (t.ring r).rereads = (s.ring r).rereads + 1 ∧ (∀ k, k ≠ r → t.ring k = s.ring k) ∧
      t.regs = s.regs ∧ t.mem = s.mem)) ∧
    (2 ≤ (s.ring r).rereads → Reaches (.staleReread r) s (fun t => t.ringRuns r = false ∧ t.f (F.HST_RING_STATUS_STOP r) = 1 ∧
      t.f (F.HST_RING_STATUS_STATE r) = 3 ∧ t.mem = s.mem)))

/-- Descriptors as they end (R447, R459 to R465): a ring with none in progress, or one whose transfer does not run, ends none; a LIBCMD ends
with its command; a FILL stores its pattern by address, a COPY between stacks stores the bytes of its source, a COMPARE stores nothing; a host
read's timeout ends a running transfer that reads the host and no other. -/
def Clause.DescriptorsEnd : Prop :=
  (∀ (s : State) (r off : Nat) (src dst : List Byte) (poison : List Nat) (fail : Option (Nat × Nat)),
    ((s.ring r).desc = none → Reaches (.descriptorComplete r src dst poison fail) s (fun t => t = s) ∧
      Reaches (.hostReadTimeout r off src) s (fun t => t = s)) ∧
    (∀ d, (s.ring r).desc = some d →
      (d.op ≠ 0x10 → d.running = false → Reaches (.descriptorComplete r src dst poison fail) s (fun t => t = s) ∧
        Reaches (.hostReadTimeout r off src) s (fun t => t = s)) ∧
      (d.op = 2 → Reaches (.hostReadTimeout r off src) s (fun t => t = s)) ∧
      (d.op = 0x10 → s.lib.ended.find? (fun e => decide (e.1 = r)) = none →
        Reaches (.descriptorComplete r src dst poison fail) s (fun t => t = s)) ∧
      (∀ e, d.op = 0x10 → s.lib.ended.find? (fun e => decide (e.1 = r)) = some e →
        Reaches (.descriptorComplete r src dst poison fail) s (fun t => (t.ring r).desc = none ∧ (∀ x ∈ t.lib.ended, x.1 ≠ r) ∧ t.mem = s.mem)) ∧
      (d.op = 2 → d.running = true → d.dstLib = true → Reaches (.descriptorComplete r src dst poison fail) s (fun t =>
        (t.ring r).desc = none ∧ t.mem = (s.stkWrite d.dst 5 ((List.range d.len).map (fun i => (swapBytes d.swap d.fill).getD ((d.dst + i) % 8) 0))
          (fun _ => false)).2.mem)) ∧
      (d.op = 1 → d.running = true → d.srcLib = true → d.dstLib = true → d.swap = 0 → s.bad = [] → localOk d.src d.len = true → localOk d.src 1 = true →
        s.stkUp (stackOf d.src) = true → ¬ (d.src < d.dst + d.len ∧ d.dst < d.src + d.len) →
        Reaches (.descriptorComplete r src dst poison fail) s (fun t => (t.ring r).desc = none ∧
          t.mem = (s.stkWrite d.dst 5 (s.ldBytes d.src d.len) (fun _ => false)).2.mem)) ∧
      (d.op = 3 → d.running = true → s.bad = [] → Reaches (.descriptorComplete r src dst poison fail) s (fun t =>
        (t.ring r).desc = none ∧ t.mem = s.mem ∧ t.chans = s.chans)) ∧
      (d.op = 1 → d.running = true → d.srcLib = false → d.dstLib = true → off < d.len → src.length = d.len → d.swap = 0 →
        Reaches (.hostReadTimeout r off src) s (fun t => (t.ring r).desc = none ∧
          t.mem = (s.stkWrite d.dst 5 (src.take off) (fun _ => false)).2.mem))))

/-- The descriptors of the rings. -/
def Obligations.Descriptors : Prop := Clause.DescriptorsStart ∧ Clause.DescriptorsEnd

/-- A doorbell (R441): one of a disabled ring is ignored; on a SUBMIT ring a tail within the ring's entries ahead of the Burcel's count is the host's
count, and one further ahead stops the ring with STOP = DOORBELL; on a COMPLETE or REQUEST ring a head at or behind the count is the host's, and one
ahead of it stops the ring; HST_RING_DB shows the value. Requests that wait for an entry are those of host origins (R452). -/
def Obligations.Doorbells : Prop :=
  ∀ (s : State) (r v : Nat), r < 256 →
    ((s.mode = .cold ∨ s.mode = .standby ∨ s.ringRuns r = false) → Reaches (.doorbell r v) s (fun t => t = s)) ∧
    (s.mode ≠ .cold → s.mode ≠ .standby → s.ringRuns r = true →
      let h := v % 65536
      let c := s.ringCount r
      (s.ringKind r = 0 → (h + 65536 - c) % 65536 ≤ s.ringEntries r → Reaches (.doorbell r v) s (fun t => (t.ring r).host = h ∧
        t.f (F.HST_RING_DB_DB r) = h ∧ OnlyRegs [Reg.HST_RING_DB r] s t ∧ t.mem = s.mem)) ∧
      (s.ringKind r ≠ 0 → (c + 65536 - h) % 65536 ≤ s.ringEntries r → (∀ q ∈ s.lib.reqs, q.waiting = true → 2 ≤ q.addr / 2 ^ 50) →
        Reaches (.doorbell r v) s (fun t => (t.ring r).host = h ∧ t.f (F.HST_RING_DB_DB r) = h ∧ t.ringRuns r = true ∧ t.mem = s.mem)) ∧
      ((if s.ringKind r = 0 then s.ringEntries r < (h + 65536 - c) % 65536 else s.ringEntries r < (c + 65536 - h) % 65536) →
        Reaches (.doorbell r v) s (fun t => t.ringRuns r = false ∧ t.f (F.HST_RING_STATUS_STOP r) = 2 ∧ t.f (F.HST_RING_DB_DB r) = h ∧ t.hp = s.hp ∧
          t.mem = s.mem)))

/-- The rings' other commands (R439, R440, R446, R451): EN starts a ring at its count or stops it with cause HOST; the time of R451 sends the
message of entries not signalled. -/
def Clause.RingCommands : Prop :=
  ∀ (s : State) (r : Nat), r < 256 →
    (∀ w, Admitted s (Reg.HST_RING_CFG r) w →
      let q := stored s (Reg.HST_RING_CFG r) w
      (s.ringRuns r = q.ringRuns r → Reaches (.ringEnable r w) s (fun t => t = q)) ∧
      (s.ringRuns r = false → q.ringRuns r = true → Reaches (.ringEnable r w) s (fun t => t.f (F.HST_RING_STATUS_STATE r) = 1 ∧
        t.f (F.HST_RING_STATUS_STOP r) = 0 ∧ (t.ring r).host = q.ringCount r ∧ (t.ring r).rereads = 0 ∧ t.mem = q.mem)) ∧
      (s.ringRuns r = true → q.ringRuns r = false → Reaches (.ringEnable r w) s (fun t => t.f (F.HST_RING_STATUS_STOP r) = 4 ∧
        t.f (F.HST_RING_STATUS_STATE r) = (if (s.ring r).desc.isSome then 2 else 3) ∧ t.ringRuns r = false ∧ t.hp = q.hp ∧ t.mem = q.mem))) ∧
    ((s.f (F.HST_RING_IRQ_TIME r) = 0 ∨ (s.ring r).unsig = 0) → Reaches (.ringIrqTime r) s (fun t => t = s)) ∧
    (s.f (F.HST_RING_IRQ_TIME r) ≠ 0 → (s.ring r).unsig ≠ 0 → s.msixFree (s.f (F.HST_RING_CFG_MSIX r)) = true → Reaches (.ringIrqTime r) s (fun t =>
      (t.ring r).unsig = 0 ∧ t.out = s.out ++ [.msi (s.f (F.HST_RING_CFG_MSIX r))] ∧ t.regs = s.regs ∧ t.mem = s.mem))

/-- The link, BAR4 and configuration space (R60, R435, R438, R466): a lost link, a hot reset and a function-level reset stop every ring, drop
what was in progress and clear configuration space, and leave the stacks and the Burcel's counts; a link that comes up shows its width and rate,
and takes Boot past step 2; BAR4 reads and writes the stack behind its window; a configuration request reads or writes a dword, or is answered
Retry before Boot's step 2. -/
def Clause.HostLink : Prop :=
  ∀ s : State,
    (s.flag F.HST_LINK_DL_UP = false → Reaches .linkDown s (fun t => t = s)) ∧
    (s.mode = .cold → Reaches .hotReset s (fun t => t = s) ∧ Reaches .functionLevelReset s (fun t => t = s) ∧
      (∀ width rate, Reaches (.hostLinkUp width rate) s (fun t => t = s)) ∧ (∀ d wr, Reaches (.configurationRequest d wr) s (fun t => t = s))) ∧
    (∀ c ∈ [Instr.linkDown, .hotReset, .functionLevelReset], (c = .linkDown → s.flag F.HST_LINK_DL_UP = true) →
      (c ≠ .linkDown → s.mode ≠ .cold) → Reaches c s (fun t =>
      (∀ r, r < 256 → t.ringRuns r = false ∧ t.ringCount r = s.ringCount r) ∧ (∀ r, (t.ring r).desc = none) ∧ t.hp.cfg = [] ∧ t.mem = s.mem ∧
        t.chans = s.chans ∧ (c = .linkDown → t.rd Reg.HST_LINK = 0) ∧ (c ≠ .linkDown → t.rd Reg.HST_LINK = s.rd Reg.HST_LINK))) ∧
    (∀ width rate, s.mode ≠ .cold → Reaches (.hostLinkUp width rate) s (fun t => t.flag F.HST_LINK_DL_UP = true ∧
      t.f F.HST_LINK_WIDTH = width % 32 ∧ t.f F.HST_LINK_RATE = rate % 8 ∧
      t.f F.SYS_BOOT_STATUS_STEP = (if s.mode = .boot ∧ s.f F.SYS_BOOT_STATUS_STEP < 2 then 2 else s.f F.SYS_BOOT_STATUS_STEP) ∧ t.mem = s.mem)) ∧
    (∀ off n wr ep, (s.mode = .cold ∨ s.mode = .standby ∨ s.flag F.HST_CFG_BAR4 = false ∨ 0x1000000000 ≤ off) →
      Reaches (.bar4Access off n wr ep) s (fun t => t = s)) ∧
    (∀ off n ep, s.mode ≠ .cold → s.mode ≠ .standby → s.flag F.HST_CFG_BAR4 = true → off < 0x1000000000 →
      let a := localAddr (s.f F.HST_BAR4_WIN_STACK) (s.f F.HST_BAR4_WIN_BASE * 0x40000000 + off)
      (∀ bs, Reaches (.bar4Access off n (some bs) ep) s (fun t => t = (s.stkWrite a 5 bs (fun _ => ep)).2)) ∧
      (localOk a 1 = true → localOk a n = true → s.stkUp (stackOf a) = true → s.bad = [] → Reaches (.bar4Access off n none ep) s (fun t =>
        t = s.emit (.tlp 0 (s.ldBytes a n)))) ∧
      ((localOk a 1 = false ∨ s.stkUp (stackOf a) = false) → Reaches (.bar4Access off n none ep) s (fun t => t = s.emit (.tlp 2 [])))) ∧
    (∀ d wr, s.mode = .boot → s.f F.SYS_BOOT_STATUS_STEP < 2 → Reaches (.configurationRequest d wr) s (fun t => t = s.emit .crs)) ∧
    (∀ d, s.mode ≠ .cold → s.mode ≠ .boot →
      Reaches (.configurationRequest d none) s (fun t => t = s.emit (.tlp 0 (leBytes ((s.cfgShape d).1 ||| (s.cfgDword d &&& (s.cfgShape d).2)) 4))) ∧
      (∀ v : Word, d ≠ 32 → Reaches (.configurationRequest d (some v)) s (fun t =>
        SMap.get 0 t.hp.cfg d = v &&& BitVec.ofNat 32 (s.cfgShape d).2 ∧ (∀ k, k ≠ d → SMap.get 0 t.hp.cfg k = SMap.get 0 s.hp.cfg k) ∧
          t.regs = s.regs ∧ t.out = s.out ∧ t.mem = s.mem)))

/-- The enabling and the messages of the rings, and the host's link and windows. -/
def Obligations.RingsAndLink : Prop := Clause.RingCommands ∧ Clause.HostLink

/-! ### The work scheduler and the scratchpads (17_clerks.md) -/

/-- An item as the scheduler holds it once it is enqueued (R468, R474 to R476). -/
def placed (s : State) (x : WorkItem) : WorkItem :=
  { x with id := s.wks.nextId, place := if s.wks.tick < x.due then 0 else 1, list := x.prio, since := s.wks.tick,
           pos := if x.ordered then SMap.get 0 s.wks.pos x.flow else 0 }

/-- Enqueued: the item is the newest; it waits at the tail of its list, or in the delay list until its DUE; an ORDERED one takes the next position
of its flow (R474 to R476). -/
def Enqueued (s t : State) (x : WorkItem) : Prop :=
  t.wks.items = s.wks.items ++ [placed s x] ∧ t.wks.nextId = s.wks.nextId + 1 ∧
    (s.wks.tick < x.due → t.wks.delay = s.wks.delay ++ [s.wks.nextId] ∧ t.wks.ready = s.wks.ready) ∧
    (x.due ≤ s.wks.tick → t.wks.delay = s.wks.delay ∧ t.readyList x.prio = s.readyList x.prio ++ [s.wks.nextId] ∧
      ∀ j, j ≠ x.prio → t.readyList j = s.readyList j) ∧
    (x.ordered = true → SMap.get 0 t.wks.pos x.flow = SMap.get 0 s.wks.pos x.flow + 1) ∧ (x.ordered = false → t.wks.pos = s.wks.pos)

/-- The item the host has written (Table 17-1). -/
def hostWork (b : List Byte) : WorkItem :=
  { id := 0, kind := leAt b 0 1, prio := leAt b 1 1 % 8, ordered := bitAt (leAt b 1 1) 3, flow := leAt b 2 2, tag := leAt b 4 4,
    arg := leAt b 8 8, due := leAt b 0x10 8, origin := 1 }

/-- Submission by the host (R473, R477): without GO nothing happens; an item is INVALID, DISABLED, FULL or ACCEPTED, and only an accepted one is
enqueued. -/
def Clause.WorkSubmit : Prop :=
  ∀ (s : State) (w : BusWrite), Admitted s Reg.WKS_HOST_SUBMIT w →
    let q := stored s Reg.WKS_HOST_SUBMIT w
    let b := q.hostItem
    let x := hostWork b
    let invalid := x.kind ∉ [2, 3, 4, 6] ∨ 16 ≤ leAt b 1 1 ∨ 4096 ≤ x.flow ∨ 2 ^ 48 ≤ x.due ∨ leAt b 0x19 7 ≠ 0 ∨ x.flow < 128
    let disabled := q.flag F.WKS_CTRL_EN = false ∨ q.domOn 49 = false
    let full := 16384 - 256 ≤ q.readyCount ∨ (q.wks.tick < x.due ∧ 1024 ≤ q.wks.delay.length) ∨ (x.ordered = true ∧ 256 ≤ q.flowCount x.flow)
    let answers := fun (r : Nat) => Reaches (.wksHostSubmit w) s (fun t => t.f F.WKS_HOST_SUBMIT_RESULT = r ∧ t.flag F.WKS_HOST_SUBMIT_GO = false ∧
      OnlyRegs [Reg.WKS_HOST_SUBMIT] q t ∧ t.mem = q.mem ∧ (r ≠ 1 → t.wks = q.wks) ∧ (r = 1 → Enqueued q t x))
    (w.bit 31 = false → Reaches (.wksHostSubmit w) s (fun t => OnlyRegs [Reg.WKS_HOST_SUBMIT] q t ∧ SameBeyondRegs q t)) ∧
    (w.bit 31 = true → invalid → answers 2) ∧ (w.bit 31 = true → ¬ invalid → disabled → answers 4) ∧
    (w.bit 31 = true → ¬ invalid → ¬ disabled → full → answers 3) ∧ (w.bit 31 = true → ¬ invalid → ¬ disabled → ¬ full → answers 1)

/-- Enqueueing of DRAINs, dispatch, ageing, the tick and the scheduler's control (R470, R474 to R476, R480, R481). -/
def Clause.WorkSchedule : Prop :=
  (∀ (s : State) (k : Nat), k < 84 →
    let n := gap32 (s.claimEnd k) (s.strWr k)
    let arg := k / 21 + 4 * (k % 21)
    let flow := 32 * (k / 21) + k % 21
    let wanted := bitAt (s.rd (Reg.WKS_DRAIN_EN (k / 21))).toNat (k % 21) = true ∧ s.domOn 49 = true ∧ n ≠ 0 ∧
      (∀ x ∈ s.wks.items, x.kind = 1 → x.arg % 128 = arg → 2 ≤ x.place) ∧
      (1024 * Nat.max 1 (s.f F.WKS_DRAIN_THR_THR) ≤ n ∨ (∃ r ∈ s.unclaimed k, recKind (s.recordAt k r.1) = 0x0C) ∨
        SMap.get 0 s.wks.lastDrain k + 1000 ≤ s.wks.tick) ∧ s.readyCount < 16384 - 256 ∧ s.flowCount flow < 256
    (wanted → Reaches (.drainEnqueue k) s (fun t => Enqueued s t { id := 0, kind := 1, prio := 4, ordered := true, flow := flow, arg := arg } ∧
      t.regs = s.regs ∧ t.mem = s.mem)) ∧
    (¬ wanted → Reaches (.drainEnqueue k) s (fun t => t = s))) ∧
  (∀ (s : State) (i : Nat), i < 16 →
    let free := s.f F.WKS_STATUS_STATE = 1 ∧ s.domOn 49 = true ∧ s.runs i = none ∧ s.fenced (unitCode 0xC i) = false ∧
      bitAt (s.f F.DBG_CLK_STATUS_HALTED) i = false
    let first := fun (j : Nat) => ((s.readyList j).filterMap s.item).find? s.dispatchable
    (¬ free → Reaches (.workDispatch i) s (fun t => t = s)) ∧
    (free → (∀ j, j < 8 → first j = none) → Reaches (.workDispatch i) s (fun t => t = s)) ∧
    (∀ (j : Nat) (x : WorkItem), free → j < 8 → (∀ j', j < j' → j' < 8 → first j' = none) → first j = some x → x.list = j →
      Reaches (.workDispatch i) s (fun t => t.item x.id = some { x with
          place := 2, clerk := i, ran := 0, claim := if x.kind = 1 ∧ x.claim = none then some (s.claimOf x) else x.claim } ∧
        t.readyList j = (s.readyList j).filter (fun n => decide (n ≠ x.id)) ∧ (∀ j', j' ≠ j → t.readyList j' = s.readyList j') ∧
        SMap.get 0 t.wks.waitMax j = Nat.max (s.wks.tick - x.since) (SMap.get 0 s.wks.waitMax j) ∧ t.regs = s.regs ∧ t.mem = s.mem))) ∧
  (∀ (s : State) (n : Nat) (x : WorkItem), s.item n = some x →
    let aged := x.place = 1 ∧ x.list < 7 ∧ x.since + 1000 ≤ s.wks.tick
    (aged → Reaches (.workAgePromote n) s (fun t => t.item n = some { x with list := x.list + 1, since := s.wks.tick } ∧
      t.readyList (x.list + 1) = s.readyList (x.list + 1) ++ [n] ∧
      t.readyList x.list = (s.readyList x.list).filter (fun m => decide (m ≠ n)) ∧ t.regs = s.regs)) ∧
    (¬ aged → Reaches (.workAgePromote n) s (fun t => t = s))) ∧
  (∀ s : State,
    ((s.mode = .cold ∨ s.mode = .boot) → Reaches .delayListTick s (fun t => t = s)) ∧
    (s.mode ≠ .cold → s.mode ≠ .boot → Reaches .delayListTick s (fun t => t.wks.tick = (s.wks.tick + 1) % 2 ^ 48 ∧ t.regs = s.regs ∧ t.mem = s.mem ∧
      (∀ n ∈ s.wks.delay, ∀ x, s.item n = some x →
        (x.due ≤ (s.wks.tick + 1) % 2 ^ 48 → n ∉ t.wks.delay ∧ n ∈ t.readyList x.prio ∧ (t.item n).map (fun y => y.place) = some 1) ∧
        ((s.wks.tick + 1) % 2 ^ 48 < x.due → n ∈ t.wks.delay)) ∧
      (∀ n x, s.item n = some x → x.place = 2 → (t.item n).map (fun y => y.ran) =
        some (if bitAt (s.f F.DBG_CLK_STATUS_HALTED) x.clerk then x.ran else x.ran + 1)))) ∧
    (Reaches .wksTickRead s (fun t => t.f F.WKS_TICK_HI_HI = s.wks.tick / 2 ^ 32 % 65536 ∧
      t.out = s.out ++ [.answer Reg.WKS_TICK_LO (s.wks.tick % 2 ^ 32)] ∧ OnlyRegs [Reg.WKS_TICK_HI] s t ∧ t.wks = s.wks)) ∧
    (∀ w, Admitted s Reg.WKS_CTRL w →
      let q := stored s Reg.WKS_CTRL w
      let st := q.f F.WKS_STATUS_STATE
      (st = 0 → Reaches (.wksCtrlWrite w) s (fun t => t = q)) ∧
      (st ≠ 0 → q.flag F.WKS_CTRL_EN = true → Reaches (.wksCtrlWrite w) s (fun t => t.f F.WKS_STATUS_STATE = 1 ∧ OnlyRegs [Reg.WKS_STATUS] q t ∧ SameBeyondRegs q t)) ∧
      (st = 1 → q.flag F.WKS_CTRL_EN = false → Reaches (.wksCtrlWrite w) s (fun t =>
        t.f F.WKS_STATUS_STATE = (if ∃ x ∈ q.wks.items, x.place = 2 then 2 else 3) ∧ t.wks = q.wks ∧ t.mem = q.mem))))

/-- Submission, enqueueing and dispatch of work. -/
def Obligations.WorkScheduler : Prop := Clause.WorkSubmit ∧ Clause.WorkSchedule

/-- Clerk i runs an item of a kind, and its number names that item. -/
def AtWork (s : State) (i kind : Nat) (x : WorkItem) : Prop :=
  s.runsKind i kind = some x ∧ s.item x.id = some x ∧ s.f F.WKS_STATUS_STATE ≠ 2

/-- The item is complete with a result and its outputs held; nothing else of the register map or the stacks has changed. -/
def Completed (s t : State) (i : Nat) (x : WorkItem) (result : Nat) (outs : List (List Byte)) : Prop :=
  t.item x.id = some { x with place := 3, result := result, outs := outs } ∧ SMap.get 0 t.wks.done i = SMap.get 0 s.wks.done i + 1 ∧
    t.regs = s.regs ∧ t.mem = s.mem

/-- What the clerks run (R469, R472, R484, Table 17-3): a clerk that runs no item of the kind completes none; a DRAIN copies the records of its claim,
or ends FENCED; a DIGEST, BIN or STATS without its input ends NO_INPUT, and else yields its record; a FLUSH completes. -/
def Clause.WorkRuns : Prop :=
  (∀ (s : State) (i : Nat),
    (s.runsKind i 1 = none → Reaches (.itemDrain i) s (fun t => t = s)) ∧ (s.runsKind i 2 = none → Reaches (.itemDigest i) s (fun t => t = s)) ∧
    (s.runsKind i 3 = none → Reaches (.itemBin i) s (fun t => t = s)) ∧ (s.runsKind i 4 = none → Reaches (.itemStats i) s (fun t => t = s)) ∧
    (s.runsKind i 6 = none → Reaches (.itemFlush i) s (fun t => t = s))) ∧
  (∀ (s : State) (i p e : Nat) (x : WorkItem), AtWork s i 1 x → x.claim = some (p, e) →
    let k := x.stream
    let rs : List (Nat × Nat) := s.recordsFrom k e (gap32 p e / 16 + 1) p
    let at_ := fun (r : Nat × Nat) => s.strBase k + r.1 % s.strSize k
    (s.bad = [] → (∀ r ∈ rs, localOk (at_ r) 1 = true ∧ localOk (at_ r) r.2 = true ∧ s.stkUp (stackOf (at_ r)) = true) →
      Reaches (.itemDrain i) s (fun t => Completed s t i x 0 ((rs.map (fun r => s.ldBytes (at_ r) r.2)).filter (fun b => decide (recKind b ≠ 0))))) ∧
    (rs ≠ [] → (∀ r ∈ rs, s.stkUp (stackOf (at_ r)) = false) → Reaches (.itemDrain i) s (fun t => Completed s t i x 4 []))) ∧
  (∀ (s : State) (i : Nat) (x : WorkItem), AtWork s i 2 x →
    let site := x.arg % 64
    (s.lastRun site = none → Reaches (.itemDigest i) s (fun t => Completed s t i x 3 [])) ∧
    (∀ leaf st prev, s.lastRun site = some (leaf, st, prev) →
      let rs := s.runRecords site leaf prev
      let copy := fun (l : Nat) => ((s.siteCount site).runEnds.find? (fun q => decide (q.1 = l))).map (fun q => q.2)
      let count : Nat := (copy leaf).getD 0
      Reaches (.itemDigest i) s (fun t => ∃ r, Completed s t i x 0 [r] ∧ r.length = 96 ∧ recKind r = 0x81 ∧ recLeaf r = leaf % 2 ^ 48 ∧
        leAt r 0x10 4 = (if count = 0xFFFFFFFF then 0xFFFFFFFF else (count - (prev.bind copy).getD 0) % 2 ^ 32) ∧
        leAt r 0x14 4 = (rs.filter (fun r => decide (recKind r = 1 ∨ recKind r = 2))).length % 2 ^ 32 ∧
        (SMap.get none t.wks.digest site).isSome = true))) ∧
  (∀ (s : State) (i : Nat) (x : WorkItem), AtWork s i 3 x →
    let site := x.arg % 64
    ((s.lastRun site = none ∨ SMap.get none s.wks.digest site = none) → Reaches (.itemBin i) s (fun t => Completed s t i x 3 [])) ∧
    (∀ leaf st prev fails dropped, s.lastRun site = some (leaf, st, prev) → SMap.get none s.wks.digest site = some (fails, dropped) →
      let cut := st ≠ 0 ∨ ∃ r ∈ s.runRecords site leaf prev, recKind r = 9
      Reaches (.itemBin i) s (fun t => ∃ r, Completed s t i x 0 [r] ∧ r.length = 48 ∧ recKind r = 0x82 ∧ recLeaf r = leaf % 2 ^ 48 ∧
        leAt r 0x14 4 = fails % 2 ^ 32 ∧
        (cut → leAt r 0x10 1 = x.arg / 2 ^ 24 % 256 ∧ leAt r 0x11 1 = 2) ∧
        (¬ cut → (fails ≠ 0 ∨ dropped ≠ 0) → leAt r 0x10 1 = x.arg / 2 ^ 16 % 256 ∧ leAt r 0x11 1 = 1) ∧
        (¬ cut → fails = 0 → dropped = 0 → leAt r 0x10 1 = x.arg / 2 ^ 8 % 256 ∧ leAt r 0x11 1 = 0)))) ∧
  (∀ (s : State) (i : Nat) (x : WorkItem), AtWork s i 4 x →
    let key := statKey x.stream (x.arg / 256 % 256) (x.arg / 65536 % 2)
    let a := SMap.get {} s.wks.stats key
    (a.n = 0 → Reaches (.itemStats i) s (fun t => Completed s t i x 3 [])) ∧
    (a.n ≠ 0 → Reaches (.itemStats i) s (fun t => ∃ r, Completed s t i x 0 [r] ∧ r.length = 72 ∧ recKind r = 0x83 ∧ leAt r 0x10 4 = a.n % 2 ^ 32 ∧
      leAt r 0x14 4 = unsigned 32 a.low ∧ leAt r 0x18 4 = unsigned 32 a.high ∧ leAt r 0x20 8 = unsigned 64 a.sum ∧
      leAt r 0x28 16 = unsigned 128 a.sq ∧ SMap.get {} t.wks.stats key = {}))) ∧
  (∀ (s : State) (i : Nat) (x : WorkItem), AtWork s i 6 x → Reaches (.itemFlush i) s (fun t => Completed s t i x 0 []))

/-- Release, the watchdog, batches and the counts (R473, R475, R479, R482, R483, R485): an item that is not complete, or behind an earlier position of its
flow, is not released; one whose output does not fit waits; a released one leaves the scheduler, a DRAIN with its DR at the end of its claim and a host's
with its completion entry. -/
def Clause.WorkEnds : Prop :=
  (∀ (s : State) (n : Nat), s.item n = none → Reaches (.workRelease n) s (fun t => t = s) ∧ Reaches (.workAgePromote n) s (fun t => t = s)) ∧
  (∀ (s : State) (n : Nat) (x : WorkItem), s.item n = some x →
    let earlier := x.ordered = true ∧ ∃ y ∈ s.wks.items, y.ordered = true ∧ y.flow = x.flow ∧ y.pos < x.pos
    let gone := fun (t : State) => t.wks.items = s.wks.items.filter (fun y => decide (y.id ≠ n)) ∧ t.mem = s.mem
    let d := x.channel
    let room := fun (r : List Byte) => s.flag (F.WKS_DLOG_CFG_EN d) = true ∧
      gap32 (s.rd (Reg.WKS_DLOG_RD d)).toNat (s.dlogWr d) + s.dlogPad d r.length + r.length ≤ s.dlogSize d
    ((x.place ≠ 3 ∨ earlier) → Reaches (.workRelease n) s (fun t => t = s)) ∧
    (x.place = 3 → ¬ earlier →
      (x.outs = [] → x.kind ∉ [1, 5, 6] → (x.origin ≠ 1 ∨ s.flag F.WKS_HOST_CRING_EN = false) →
        Reaches (.workRelease n) s (fun t => gone t ∧ t.regs = s.regs)) ∧
      (∀ p e, x.outs = [] → x.kind = 1 → x.origin ≠ 1 → x.claim = some (p, e) → x.stream < 84 → e < 2 ^ 32 → Reaches (.workRelease n) s (fun t =>
        gone t ∧ t.strDr x.stream = e)) ∧
      (x.outs = [] → x.kind ∉ [1, 5, 6] → x.origin = 1 → s.flag F.WKS_HOST_CRING_EN = true → s.ringRuns (s.f F.WKS_HOST_CRING_RING) = false →
        Reaches (.workRelease n) s (fun t => gone t ∧ (t.ring (s.f F.WKS_HOST_CRING_RING)).backlog = (s.ring (s.f F.WKS_HOST_CRING_RING)).backlog ++
          [(leBytes 0 2 ++ leBytes 0xFF 1 ++ leBytes 0x31 1 ++ leBytes x.tag 4 ++ leBytes x.result 1 ++ List.replicate 23 0, false)])) ∧
      (∀ r rest, x.outs = r :: rest → x.kind ≠ 1 → ¬ room r → Reaches (.workRelease n) s (fun t => t.item n = some x ∧ t.regs = s.regs ∧
        t.mem = s.mem ∧ t.hp = s.hp)) ∧
      (∀ r, x.outs = [r] → x.kind ∈ [2, 3, 4] → x.origin ≠ 1 → d < 4 → room r → Reaches (.workRelease n) s (fun t => gone t ∧
        t.rd (Reg.WKS_DLOG_WR d) = BitVec.ofNat 32 (s.dlogWr d + s.dlogPad d r.length + r.length) ∧ OnlyRegs [Reg.WKS_DLOG_WR d] s t ∧
        (SMap.get {} t.wks.dlog d).start.isSome = true)))) ∧
  (∀ (s : State) (i : Nat), i < 16 →
    (s.runs i = none → Reaches (.workWatchdog i) s (fun t => t = s)) ∧
    (∀ x, s.runs i = some x →
      (x.ran < 50 → Reaches (.workWatchdog i) s (fun t => t = s)) ∧
      (50 ≤ x.ran → s.item x.id = some x → s.recovering (unitCode 0xC i) = false → s.overBudget 0xC = false →
        (x.tries = 0 → Reaches (.workWatchdog i) s (fun t => t.item x.id = some { x with tries := 1, place := 1, ran := 0, since := s.wks.tick } ∧
          t.readyList x.list = x.id :: s.readyList x.list ∧ t.mem = s.mem)) ∧
        (x.tries ≠ 0 → x.kind ≠ 1 → Reaches (.workWatchdog i) s (fun t => t.item x.id = some { x with place := 3, result := 1, outs := [] } ∧
          t.mem = s.mem))))) ∧
  (∀ (s : State) (d : Nat), d < 4 →
    ((SMap.get {} s.wks.dlog d).start = none → Reaches (.batchAnnounce d) s (fun t => t = s)) ∧
    (∀ start since, (SMap.get {} s.wks.dlog d).start = some (start, since) →
      let due := 1024 * Nat.max 1 (s.f (F.WKS_DLOG_CFG_BATCH d)) ≤ gap32 start (s.dlogWr d) ∨ since + 100 ≤ s.wks.tick
      (¬ due → Reaches (.batchAnnounce d) s (fun t => t = s)) ∧
      (due → s.ringRuns (s.f (F.WKS_DLOG_CFG_CRING d)) = false → Reaches (.batchAnnounce d) s (fun t =>
        let k := (SMap.get {} s.wks.dlog d).count + 1
        SMap.get {} t.wks.dlog d = { start := none, count := k % 65536 } ∧ t.mem = s.mem ∧
        (t.ring (s.f (F.WKS_DLOG_CFG_CRING d))).backlog = (s.ring (s.f (F.WKS_DLOG_CFG_CRING d))).backlog ++
          [(leBytes 0 2 ++ leBytes 0xFF 1 ++ leBytes 0x30 1 ++ leBytes d 4 ++ leBytes (s.dlogWr d) 8 ++ leBytes start 8 ++ leBytes k 2 ++
            List.replicate 6 0, false)])))) ∧
  (∀ (s : State) (w : BusWrite), AdmittedPlain s Reg.WKS_OBS_CTRL w →
    (w.bit 0 = false → Reaches (.wksObsSnap w) s (fun t => t = s)) ∧
    (w.bit 0 = true → Reaches (.wksObsSnap w) s (fun t =>
      let shown := fun (n : Nat) => if n ≤ 0x7FFFFFFF then n else 0xFFFFFFFF
      (∀ j, j < 8 → t.f (F.WKS_WAIT_MAX j) = shown (SMap.get 0 s.wks.waitMax j)) ∧
      (∀ i, i < 16 → t.f (F.WKS_CORE_BUSY i) = shown (SMap.get 0 s.wks.busy i) ∧ t.f (F.WKS_CORE_ITEMS i) = shown (SMap.get 0 s.wks.done i)) ∧
      t.wks = { s.wks with waitMax := [], busy := [], done := [] } ∧ t.mem = s.mem)))

/-- The work the clerks run, and its release. -/
def Obligations.WorkResults : Prop := Clause.WorkRuns ∧ Clause.WorkEnds

/-- The command is the one of its operation of the window. -/
def IsWindow (c : Instr) (w : BusWrite) (op ecc : Nat) : Prop :=
  (c = .spdRead w ecc ∧ op = 0) ∨ (c = .spdWrite w ∧ op = 1) ∨ (c = .spdAdd w ecc ∧ op = 2) ∨ (c = .spdSwap w ecc ∧ op = 3)

/-- The window (R486 to R488): without GO nothing happens; a fenced bank, one that is not ON and a write to the firmware's bank are refused
with nothing written; READ, WRITE, ADD and SWAP of a clean or corrected word; an uncorrectable word is counted and nothing is stored. -/
def Clause.SpdWindow : Prop :=
  ∀ (s : State) (w : BusWrite) (c : Instr) (op ecc : Nat), IsWindow c w op ecc → Admitted s Reg.SPD_WIN_OP w →
    let q := stored s Reg.SPD_WIN_OP w
    let a := q.f F.SPD_WIN_ADDR_ADDR
    let k := a / 32768
    q.f F.SPD_WIN_OP_OP = op →
    (w.bit 31 = false → Reaches c s (fun t => OnlyRegs [Reg.SPD_WIN_OP] q t ∧ SameBeyondRegs q t)) ∧
    (w.bit 31 = true →
      (q.bankState k = 4 → Reaches c s (fun t => t.f F.SPD_WIN_OP_RESULT = 2 ∧ OnlyRegs [Reg.SPD_WIN_OP] q t ∧ SameBeyondRegs q t)) ∧
      (q.bankState k ≠ 4 → q.bankState k ≠ 2 → Reaches c s (fun t => t.f F.SPD_WIN_OP_RESULT = 1 ∧ (op = 0 → t.winData = 0) ∧
        (op ≠ 0 → t.winData = q.winData) ∧ SameBeyondRegs q t)) ∧
      (q.bankState k = 2 → op ≠ 0 → q.flag (F.SPD_BANK_USE k) = true → Reaches c s (fun t => t.f F.SPD_WIN_OP_RESULT = 3 ∧
        OnlyRegs [Reg.SPD_WIN_OP] q t ∧ SameBeyondRegs q t)) ∧
      (q.bankState k = 2 → q.flag (F.SPD_BANK_USE k) = false → (op = 1 ∨ ecc < 2) → Reaches c s (fun t => t.f F.SPD_WIN_OP_RESULT = 0 ∧
        t.spdWord a = (match op with
          | 0 => q.spdWord a
          | 2 => q.spdWord a + q.winData
          | _ => q.winData) ∧
        (∀ a', a' ≠ a → t.spdWord a' = q.spdWord a') ∧ t.winData = (if op = 1 then q.winData else q.spdWord a) ∧
        t.f F.SPD_CNT_CORR = (if op ≠ 1 ∧ ecc = 1 then satAdd 0xFFFFFFFF (q.f F.SPD_CNT_CORR) 1 else q.f F.SPD_CNT_CORR) ∧ t.mem = q.mem)) ∧
      (q.bankState k = 2 → (op = 0 ∨ q.flag (F.SPD_BANK_USE k) = false) → op ≠ 1 → ecc = 2 → q.recovering (unitCode 0xD k) = false →
        q.overBudget 0xD = false → Reaches c s (fun t => t.f F.SPD_WIN_OP_RESULT = 4 ∧ t.wks.spd = q.wks.spd ∧
          t.f F.SPD_CNT_UNC = satAdd 0xFFFFFFFF (q.f F.SPD_CNT_UNC) 1 ∧ t.mem = q.mem)))

/-- Banks and marches (R486, R489 to R492): a request of a power state is refused on a bank in use or under a march, and else starts a
transition, at whose end the bank is in that state, with zeros after OFF; a march starts where R491 allows it, is refused elsewhere, and ends PASS, or
FAIL with its bank fenced; a counter takes any write as 0. -/
def Clause.SpdBanks : Prop :=
  (∀ (s : State) (k : Nat) (w : BusWrite), k < 64 → Admitted s (Reg.SPD_BANK k) w →
    let q := stored s (Reg.SPD_BANK k) w
    let goal := bankTarget (q.f (F.SPD_BANK_REQ k))
    let refused := fun (e : Nat) => Reaches (.spdBankReq k w) s (fun t => t.f (F.SPD_BANK_ERR k) = e ∧ t.bankState k = q.bankState k ∧
      OnlyRegs [Reg.SPD_BANK k] q t ∧ SameBeyondRegs q t)
    ((goal = bankTarget (s.f (F.SPD_BANK_REQ k)) ∨ q.bankState k = 4) → Reaches (.spdBankReq k w) s (fun t => t = q)) ∧
    (goal ≠ bankTarget (s.f (F.SPD_BANK_REQ k)) → q.bankState k ≠ 4 →
      (q.wks.march.map (fun m => m.bank) = some k → refused 2) ∧
      (q.wks.march.map (fun m => m.bank) ≠ some k → goal ≠ 2 → q.flag (F.SPD_BANK_USE k) = true → refused 1) ∧
      (q.wks.march.map (fun m => m.bank) ≠ some k → (goal = 2 ∨ q.flag (F.SPD_BANK_USE k) = false) → q.bankState k ≠ goal →
        Reaches (.spdBankReq k w) s (fun t => t.f (F.SPD_BANK_ERR k) = 0 ∧ t.bankState k = 1 ∧ SMap.get none t.wks.target k = some goal ∧
          t.wks.spd = q.wks.spd ∧ t.mem = q.mem)) ∧
      (q.wks.march.map (fun m => m.bank) ≠ some k → (goal = 2 ∨ q.flag (F.SPD_BANK_USE k) = false) → q.bankState k = goal →
        SMap.get none q.wks.target k = none → refused 0))) ∧
  (∀ (s : State) (k : Nat), k < 64 →
    (SMap.get none s.wks.target k = none → Reaches (.bankTransitionDone k) s (fun t => t = s)) ∧
    (∀ g, SMap.get none s.wks.target k = some g → g < 8 → Reaches (.bankTransitionDone k) s (fun t => t.bankState k = g ∧
      SMap.get none t.wks.target k = none ∧ OnlyRegs [Reg.SPD_BANK k] s t ∧ t.mem = s.mem ∧
      (∀ a, t.spdWord a = if g = 0 ∧ a / 32768 = k then 0 else s.spdWord a)))) ∧
  (∀ (s : State) (w : BusWrite), Admitted s Reg.SPD_MARCH w →
    let q := stored s Reg.SPD_MARCH w
    let k := q.f F.SPD_MARCH_BANK
    let off := q.bankState k ≠ 2 ∨ q.wks.march.isSome = true ∨ (q.flag F.SPD_MARCH_MODE = true ∧ q.flag (F.SPD_BANK_USE k) = true)
    (w.bit 31 = false → Reaches (.spdMarch w) s (fun t => OnlyRegs [Reg.SPD_MARCH] q t ∧ SameBeyondRegs q t)) ∧
    (w.bit 31 = true → off → Reaches (.spdMarch w) s (fun t => t.f F.SPD_MARCH_STATUS_RESULT = 3 ∧ t.wks = q.wks ∧ t.mem = q.mem)) ∧
    (w.bit 31 = true → ¬ off → Reaches (.spdMarch w) s (fun t => t.flag F.SPD_MARCH_STATUS_BUSY = true ∧ t.f F.SPD_MARCH_STATUS_RESULT = 0 ∧
      t.wks = { q.wks with march := some { bank := k, alg := q.f F.SPD_MARCH_ALG, destructive := q.flag F.SPD_MARCH_MODE } } ∧ t.mem = q.mem))) ∧
  (∀ (s : State) (seg : Nat), seg < 256 →
    (s.wks.march = none → ∀ fail, Reaches (.marchDone seg fail) s (fun t => t = s)) ∧
    (∀ m, s.wks.march = some m →
      (Reaches (.marchDone seg none) s (fun t => t.f F.SPD_MARCH_STATUS_RESULT = 1 ∧ t.f F.SPD_MARCH_STATUS_SEG = seg ∧
        t.flag F.SPD_MARCH_STATUS_BUSY = false ∧ t.wks.march = none ∧ t.mem = s.mem ∧
        (∀ a, t.spdWord a = if m.destructive = true ∧ a / 32768 = m.bank then 0 else s.spdWord a))) ∧
      (∀ a, m.bank < 64 → a < 2 ^ 24 → s.fenced (unitCode 0xD m.bank) = false → s.recovering (unitCode 0xD m.bank) = false →
        s.fenceCount 0xD < 16 → Reaches (.marchDone seg (some a)) s (fun t => t.f F.SPD_MARCH_STATUS_RESULT = 2 ∧ t.f F.SPD_MARCH_FAIL_ADDR = a ∧
          t.bankState m.bank = 4 ∧ t.fenced (unitCode 0xD m.bank) = true ∧ t.wks.march = none ∧ t.wks.spd = s.wks.spd ∧ t.mem = s.mem)))) ∧
  (∀ (s : State) (unc : Bool) (w : BusWrite),
    let a := if unc then Reg.SPD_CNT_UNC else Reg.SPD_CNT_CORR
    AdmittedPlain s a w → Reaches (.spdCntWrite unc w) s (fun t => t.rd a = 0 ∧ OnlyRegs [a] s t ∧ SameBeyondRegs s t))

/-- The scratchpad banks and their window. -/
def Obligations.Scratchpads : Prop := Clause.SpdWindow ∧ Clause.SpdBanks

/-! ### Network time and the meter (18_time_and_metering.md) -/

/-- A frame arrives in order with both its check words good on a port in UP (R391). -/
def InOrder (s : State) (p : Nat) (f : Frame) : Prop :=
  p < 4 ∧ s.portState p = 2 ∧ f.hcrcOk = true ∧ f.fcrcOk = true ∧ f.seq = (s.port p).expect

/-- Network time takes the frame: its version and domain are right, its message is of the kind, and it is no replay (R500). -/
def PtpTaken (s : State) (f : Frame) (kind : Nat) : Prop :=
  s.flag F.NTM_CFG_EN = true ∧ leAt (f.payload.drop 16) 1 1 % 16 = 2 ∧ leAt (f.payload.drop 16) 4 1 = s.f F.NTM_CFG_DOMAIN ∧
    f.arg % 16 = kind ∧ bitAt f.arg 31 = false

/-- A PTP frame of a kind with its stamp stands in the port's queue or has left it (R499, R502). -/
def PtpSent (t : State) (p kind stamp : Nat) : Prop :=
  ∃ f, (f ∈ (t.port p).queue ∨ f ∈ (t.port p).replay) ∧ f.vc = 3 ∧ f.kind = 1 ∧ f.arg = kind ∧ f.payload.take 12 = stampBytes stamp

/-- What the servo does with an offset θ, in 2⁻¹⁶ ns, and the interval 2⁻ⁿ s (R504, R506): it shows θ in whole ns; beyond STEP_THR it steps the clock by −θ and
clears its sum, else it adds θ to the sum and sets the rate to the nearest step of 2⁻⁴⁰, at most 500 ppm; an offset of 200 ns or more is
ACQUIRING, the sixteenth below 50 ns LOCKED, and the one that ends HOLDOVER ACQUIRING. `clk` is the clock after a step. -/
def Served (s t : State) (theta : Int) (n : Nat) (clk : Clock) : Prop :=
  t.rd Reg.NTM_OFFSET = BitVec.ofNat 32 (unsigned 32 ((2 * theta + 65536) / 131072)) ∧
  (s.f F.NTM_SERVO_STEP_THR * 65536000 < theta.natAbs → t.clk = clk ∧ t.flag F.NTM_STATUS_STEPPED = true ∧ t.ntm.sigma = 0 ∧
    t.rd Reg.NTM_ADJ = s.rd Reg.NTM_ADJ) ∧
  (theta.natAbs ≤ s.f F.NTM_SERVO_STEP_THR * 65536000 → t.clk = s.clk ∧ t.ntm.sigma = s.ntm.sigma + theta ∧
    ∃ r : Int, (2 * (r * 16777216000000000 + (16 * s.f F.NTM_SERVO_KP * theta + s.f F.NTM_SERVO_KI * (s.ntm.sigma + theta)) * 2 ^ n * 2 ^ 40)).natAbs ≤
        16777216000000000 ∧
      t.rd Reg.NTM_ADJ = BitVec.ofNat 32 (unsigned 32 (max (-549755814) (min 549755814 r)))) ∧
  (s.ntmState = 3 → t.ntmState = 1) ∧ (200 * 65536 ≤ theta.natAbs → t.ntmState = 1) ∧
  (s.ntmState ≠ 3 → theta.natAbs < 50 * 65536 → 15 ≤ s.ntm.good → t.ntmState = 2) ∧
  (s.ntmState ≠ 3 → theta.natAbs < 50 * 65536 → t.ntm.good = s.ntm.good + 1)

/-- The clock's own commands (R493, R495, R496, R508): SET loads the clock unless its nanoseconds are out of range, STEP moves it; a consuming read
latches it and a peek does not; SEC wraps to 0; PPS_OUT follows NS where it is enabled. -/
def Clause.LocalClock : Prop :=
  ∀ s : State,
    (∀ (c : Instr) (w : BusWrite), c ∈ [.ntmSet w, .ntmStep w] → AdmittedPlain s Reg.NTM_SET_CTRL w →
      let q := s.useGate Reg.NTM_SET_CTRL w.master
      let ns := s.f F.NTM_SET_NS_NS
      let g := Nat.max s.meter.g s.localNs
      let seen := fun (t : State) => (s.flag F.MTR_CFG_EN = false → t.meter = s.meter) ∧ (s.flag F.MTR_CFG_EN = true → t.meter.g = g ∧
        (t.localNs < g → s.meter.regress = none → t.meter.regress = some (g / 1000000000, t.clk.sec)) ∧
        (g ≤ t.localNs → t.meter.regress = s.meter.regress))
      (w.bit 0 = false → w.bit 1 = false → Reaches c s (fun t => t = q)) ∧
      (w.bit 0 = true → w.bit 1 = false → 1000000000 ≤ ns → Reaches c s (fun t => t.flag F.NTM_STATUS_SET_ERR = true ∧ t.clk = s.clk ∧
        t.meter = s.meter ∧ OnlyRegs [Reg.NTM_STATUS] s t)) ∧
      (w.bit 0 = true → w.bit 1 = false → ns < 1000000000 → Reaches c s (fun t =>
        t.clk = { sec := s.f F.NTM_SET_SEC_HI_SEC * 2 ^ 32 + (s.rd Reg.NTM_SET_SEC_LO).toNat, ns := ns, sub := 0, frac := 0 } ∧
        t.flag F.NTM_STATUS_STEPPED = true ∧ seen t ∧ OnlyRegs [Reg.NTM_STATUS] s t ∧ t.ntm = s.ntm ∧ t.mem = s.mem)) ∧
      (w.bit 0 = false → w.bit 1 = true → Reaches c s (fun t => t.clk = s.clk.shift (signed 32 (s.rd Reg.NTM_STEP).toNat * 65536) ∧
        t.flag F.NTM_STATUS_STEPPED = true ∧ seen t ∧ OnlyRegs [Reg.NTM_STATUS] s t ∧ t.ntm = s.ntm ∧ t.mem = s.mem))) ∧
    (Reaches (.ntmTimeRead true) s (fun t => t = s.emit (.answer Reg.NTM_TIME_NS s.clk.ns))) ∧
    (Reaches (.ntmTimeRead false) s (fun t => t.out = s.out ++ [.answer Reg.NTM_TIME_NS s.clk.ns] ∧ t.f F.NTM_TIME_SUB_SUB = s.clk.sub % 65536 ∧
      t.rd Reg.NTM_TIME_SEC_LO = BitVec.ofNat 32 s.clk.sec ∧ t.f F.NTM_TIME_SEC_HI_SEC = s.clk.sec / 2 ^ 32 % 65536 ∧
      t.flag F.NTM_STATUS_SNAP_WRAP = s.ntm.wrapped ∧ t.ntm.wrapped = false ∧ t.clk = s.clk ∧
      OnlyRegs [Reg.NTM_TIME_SUB, Reg.NTM_TIME_SEC_LO, Reg.NTM_TIME_SEC_HI, Reg.NTM_STATUS] s t ∧ t.mem = s.mem)) ∧
    (s.clk.sec = 2 ^ 48 - 1 → Reaches .clockWrap s (fun t => t.clk.sec = 0 ∧ t.clk.ns = 0 ∧ t.flag F.NTM_STATUS_WRAP = true ∧ t.ntm.wrapped = true ∧
      OnlyRegs [Reg.NTM_STATUS] s t ∧ t.mem = s.mem)) ∧
    (s.clk.sec ≠ 2 ^ 48 - 1 → Reaches .clockWrap s (fun t => t = s)) ∧
    (∀ high, let v := high && s.flag F.NTM_CFG_PPS_OUT_EN && decide (s.mode ≠ .cold)
      (v = s.ntm.pps → Reaches (.ppsOut high) s (fun t => t = s)) ∧
      (v ≠ s.ntm.pps → Reaches (.ppsOut high) s (fun t => t.ntm.pps = v ∧ t.out = s.out ++ [.ppsOut v] ∧ t.regs = s.regs ∧ t.clk = s.clk)))

/-- PTP on the fabric (R498 to R506): a port that is not UP takes no message; one of another version or domain or a replayed one is counted and does nothing;
Sync on the SLAVE port serves the servo, and on another port nothing; Pdelay_Req is answered with the turnaround, and on a DISABLED port not; Pdelay_Resp
loads the path or moves it by a sixteenth; Announce stores the grandmaster; Sync, Announce and Pdelay_Req are sent in the states of
Table 18-2; PPS_IN serves a grandmaster's servo, which leaves SEC; HOLDOVER fixes the rate. -/
def Clause.PrecisionTime : Prop :=
  (∀ (s : State) (p : Nat) (f : Frame) (x : Nat), s.portState p ≠ 2 → s.portState p ≠ 3 →
    Reaches (.syncMsg p f x) s (fun t => t = s) ∧ Reaches (.pdelayReq p f x) s (fun t => t = s) ∧ Reaches (.pdelayResp p f x) s (fun t => t = s) ∧
      Reaches (.announce p f) s (fun t => t = s)) ∧
  (∀ (s : State) (p : Nat) (f : Frame) (x : Nat), InOrder s p f → s.flag F.NTM_CFG_EN = true →
    (leAt (f.payload.drop 16) 1 1 % 16 ≠ 2 ∨ leAt (f.payload.drop 16) 4 1 ≠ s.f F.NTM_CFG_DOMAIN ∨ f.arg % 16 ∉ [0, 2, 3, 0xB] ∨ bitAt f.arg 31 = true) →
    ∀ c ∈ [Instr.syncMsg p f x, .pdelayReq p f x, .pdelayResp p f x, .announce p f], Reaches c s (fun t =>
      t.f (F.NTM_PORT_STATUS_DISCARD p) = satAdd 0xFFFF (s.f (F.NTM_PORT_STATUS_DISCARD p)) 1 ∧ OnlyRegs [Reg.NTM_PORT_STATUS p] s t ∧
        t.clk = s.clk ∧ t.ntm = s.ntm ∧ (t.port p).queue = (s.port p).queue)) ∧
  (∀ (s : State) (p : Nat) (f : Frame) (x : Nat), InOrder s p f →
    (PtpTaken s f 0 →
      (s.ntmPort p ≠ 2 → Reaches (.syncMsg p f x) s (fun t => t.clk = s.clk ∧ t.ntm = s.ntm ∧ t.regs = s.regs)) ∧
      (s.ntmPort p = 2 →
        let theta : Int := x - stampOf f.payload - s.f (F.NTM_PORT_PATH p) - signed 64 (beAt (f.payload.drop 16) 8 8)
        Reaches (.syncMsg p f x) s (fun t => Served s t theta (s.f F.NTM_CFG_SYNC_LOG) (s.clk.shift (-theta))))) ∧
    (PtpTaken s f 2 →
      (s.ntmPort p = 0 → Reaches (.pdelayReq p f x) s (fun t => (t.port p).queue = (s.port p).queue ∧ t.regs = s.regs)) ∧
      (s.ntmPort p ≠ 0 → Reaches (.pdelayReq p f x) s (fun t => PtpSent t p 3 x ∧ t.clk = s.clk ∧ t.ntm = s.ntm))) ∧
    (PtpTaken s f 3 →
      (SMap.get none s.ntm.asked p = none → Reaches (.pdelayResp p f x) s (fun t => t.ntm = s.ntm ∧ t.regs = s.regs)) ∧
      (∀ t1 : Nat, SMap.get none s.ntm.asked p = some t1 →
        let d : Int := ((x : Int) - t1 - stampOf f.payload) / 2
        let old : Int := s.f (F.NTM_PORT_PATH p)
        Reaches (.pdelayResp p f x) s (fun t => SMap.get none t.ntm.asked p = none ∧ OnlyRegs [Reg.NTM_PORT_PATH p] s t ∧
          SMap.get false t.ntm.loaded p = true ∧
          t.f (F.NTM_PORT_PATH p) = unsigned 32 (if SMap.get false s.ntm.loaded p then old + (d - old) / 16 else d)))) ∧
    (PtpTaken s f 0xB →
      let id := beAt (f.payload.drop 16) 53 8
      (s.ntmPort p = 3 → Reaches (.announce p f) s (fun t => t.regs = s.regs)) ∧
      (s.ntmPort p ≠ 3 → Reaches (.announce p f) s (fun t => t.rd Reg.NTM_GM_ID_LO = BitVec.ofNat 32 id ∧
        t.rd Reg.NTM_GM_ID_HI = BitVec.ofNat 32 (id / 2 ^ 32) ∧ OnlyRegs [Reg.NTM_GM_ID_LO, Reg.NTM_GM_ID_HI] s t)))) ∧
  (∀ (s : State) (p t1 : Nat), p < 4 →
    ((s.flag F.NTM_CFG_EN = false ∨ s.ntmPort p ≠ 1) → Reaches (.syncSend p t1) s (fun t => t = s)) ∧
    (s.flag F.NTM_CFG_EN = true → s.ntmPort p = 1 → Reaches (.syncSend p t1) s (fun t => PtpSent t p 0 t1 ∧ PtpSent t p 0xB 0 ∧ t.ntm = s.ntm ∧
      t.mem = s.mem)) ∧
    ((s.flag F.NTM_CFG_EN = false ∨ s.ntmPort p = 0) → Reaches (.pdelaySend p t1) s (fun t => t = s)) ∧
    (s.flag F.NTM_CFG_EN = true → s.ntmPort p ≠ 0 → Reaches (.pdelaySend p t1) s (fun t => PtpSent t p 2 t1 ∧
      SMap.get none t.ntm.asked p = some t1 ∧ t.clk = s.clk ∧ t.mem = s.mem))) ∧
  (∀ (s : State) (x : Nat),
    let grand := s.flag F.NTM_CFG_EN = true ∧ s.f F.NTM_CFG_ROLE = 1 ∧ s.flag F.NTM_CFG_PPS_IN_EN = true
    let theta : Int := if x < 500000000 * 65536 then (x : Int) else (x : Int) - 1000000000 * 65536
    (¬ grand → Reaches (.ppsInEdge x) s (fun t => t.clk = s.clk ∧ t.ntm = s.ntm ∧ t.meter = s.meter ∧ t.mem = s.mem)) ∧
    (grand → Reaches (.ppsInEdge x) s (fun t => t.clk.sec = s.clk.sec ∧ t.mem = s.mem ∧
      Served s t theta 0 { s.clk.shift (-theta) with sec := s.clk.sec })) ∧
    (let lost := s.flag F.NTM_CFG_EN = true ∧ (∃ p, p < 4 ∧ s.ntmPort p = 2) ∧ s.ntmState ≠ 3 ∧ s.ntmState ≠ 0
     (¬ lost → Reaches .ptpHoldover s (fun t => t = s)) ∧
     (lost → Reaches .ptpHoldover s (fun t => t.ntmState = 3 ∧ t.flag F.NTM_STATUS_SOURCE = true ∧ t.clk = s.clk ∧ t.ntm = s.ntm ∧ t.mem = s.mem ∧
       (s.ntm.adjs ≠ [] → t.rd Reg.NTM_ADJ = BitVec.ofNat 32 (unsigned 32 (s.ntm.adjs.sum / (s.ntm.adjs.length : Int)))) ∧
       (s.ntm.adjs = [] → t.rd Reg.NTM_ADJ = s.rd Reg.NTM_ADJ)))))

/-- Local time and PTP. -/
def Obligations.NetworkTime : Prop := Clause.LocalClock ∧ Clause.PrecisionTime

/-- b is a period boundary (R512). -/
def Boundary (s : State) (b : Nat) : Prop := ∃ k, b = s.mtrEpoch + k * s.f F.MTR_LEN_LEN

/-- A journal write stands in the Archive's queue (R515, Table 18-4). -/
def Journals (t : State) (kind rseq period : Nat) : Prop :=
  ∃ x ∈ t.arch.queue, x.tag = rseq ∧ leAt x.data 0 4 = 0x4A4D4B56 ∧ leAt x.data 4 1 = kind ∧ leAt x.data 8 4 = rseq % 2 ^ 32 ∧
    leAt x.data 0x0C 4 = period % 2 ^ 32

/-- The circulation meter (R509 to R517): off it does nothing; a tick adds to each count the units that qualify, saturating, and moves the greatest time; the
first tick at or past the smallest boundary above that time seals the period, writes its SEAL record and counts into the next; a
CHECKPOINT is written; a consuming read of the open index latches the snapshot and a peek does not; the journal's SEAL record is found, not found, or
found bad. -/
def Obligations.Metering : Prop :=
  (∀ s : State, s.flag F.MTR_CFG_EN = false → Reaches .meterTick s (fun t => t = s) ∧ Reaches .checkpoint s (fun t => t = s)) ∧
  (∀ s : State, s.flag F.MTR_CFG_EN = true →
    let added := fun (base : Nat → Nat) (t : State) => ∀ i, i < 16 → SMap.get 0 t.meter.counts i = Nat.min (base i + s.qualifies i) (2 ^ 64 - 1)
    (∀ b, s.f F.MTR_LEN_LEN ≠ 0 → Boundary s b → s.meter.g < b * 1000000000 → (∀ b', Boundary s b' → s.meter.g < b' * 1000000000 → b ≤ b') →
      (s.clk.sec < b → Reaches .meterTick s (fun t => added (SMap.get 0 s.meter.counts) t ∧ t.meter.period = s.meter.period ∧
        t.meter.g = Nat.max s.meter.g s.localNs ∧ t.meter.start = s.meter.start ∧ t.regs = s.regs ∧ t.arch = s.arch ∧
        (s.localNs < s.meter.g → s.meter.regress = none → t.meter.regress = some (s.meter.g / 1000000000, s.clk.sec)))) ∧
      (b ≤ s.clk.sec → Reaches .meterTick s (fun t => added (fun _ => 0) t ∧ t.meter.period = s.meter.period + 1 ∧
        t.meter.g = Nat.max s.meter.g s.localNs ∧ t.meter.regress = none ∧ Boundary s t.meter.start ∧ t.meter.start ≤ s.clk.sec ∧
        s.clk.sec < t.meter.start + s.f F.MTR_LEN_LEN ∧ t.mem = s.mem ∧
        (s.arch.inhibit = false → Journals t 2 s.arch.jrnSeq s.meter.period)))) ∧
    (s.arch.inhibit = false → Reaches .checkpoint s (fun t => Journals t 1 s.arch.jrnSeq s.meter.period ∧ t.arch.jrnSeq = s.arch.jrnSeq + 1 ∧
      t.meter.counts = s.meter.counts ∧ t.meter.torn = false ∧ t.mem = s.mem))) ∧
  (∀ s : State,
    (Reaches (.mtrOpenIdxRead true) s (fun t => t = s.emit (.answer Reg.MTR_OPEN_IDX s.meter.period))) ∧
    (Reaches (.mtrOpenIdxRead false) s (fun t => t.out = s.out ++ [.answer Reg.MTR_OPEN_IDX s.meter.period] ∧ t.f F.MTR_SNAP_FLAGS_SAT = s.meter.sat % 65536 ∧
      t.flag F.MTR_SNAP_FLAGS_TORN = s.meter.torn ∧ t.flag F.MTR_SNAP_FLAGS_REGRESSION = s.meter.regress.isSome ∧
      t.rd Reg.MTR_SNAP_START_LO = BitVec.ofNat 32 s.meter.start ∧ t.rd Reg.MTR_SNAP_START_HI = BitVec.ofNat 32 (s.meter.start / 2 ^ 32) ∧
      t.rd Reg.MTR_SNAP_G_LO = BitVec.ofNat 32 (s.meter.g / 1000000000) ∧ t.meter = s.meter ∧ t.mem = s.mem ∧
      ∀ i, i < 16 → t.rd (Reg.MTR_SNAP_CNT_LO i) = BitVec.ofNat 32 (SMap.get 0 s.meter.counts i) ∧
        t.rd (Reg.MTR_SNAP_CNT_HI i) = BitVec.ofNat 32 (SMap.get 0 s.meter.counts i / 2 ^ 32)))) ∧
  (∀ (s : State) (w : BusWrite), Admitted s Reg.MTR_RD_CTRL w →
    let q := stored s Reg.MTR_RD_CTRL w
    let is := fun (k : Nat) => leAt (q.arch.bytes (recAddr true k) 16) 0 4 = 0x4A4D4B56 ∧ leAt (q.arch.bytes (recAddr true k) 16) 4 1 = 2 ∧
      leAt (q.arch.bytes (recAddr true k) 16) 0x0C 4 = (q.rd Reg.MTR_RD_IDX).toNat
    (w.bit 31 = false → Reaches (.mtrRd w) s (fun t => t = q)) ∧
    (w.bit 31 = true →
      ((∀ k, k < 2048 → ¬ is k) → Reaches (.mtrRd w) s (fun t => t.f F.MTR_RD_CTRL_RESULT = 2 ∧ OnlyRegs [Reg.MTR_RD_CTRL] q t ∧ SameBeyondRegs q t)) ∧
      (∀ k, k < 2048 → is k → (∀ j, j < k → ¬ is j) →
        let r := q.arch.bytes (recAddr true k) 256
        (recValid r = false → Reaches (.mtrRd w) s (fun t => t.f F.MTR_RD_CTRL_RESULT = 3 ∧ OnlyRegs [Reg.MTR_RD_CTRL] q t ∧ SameBeyondRegs q t)) ∧
        (recValid r = true → Reaches (.mtrRd w) s (fun t => t.f F.MTR_RD_CTRL_RESULT = 1 ∧ SameBeyondRegs q t ∧
          ∀ i, i < 64 → t.rd (Reg.MTR_RD_DATA i) = BitVec.ofNat 32 (leAt r (4 * i) 4))))))

/-! ### Calibration (20_calibration.md) -/

/-- A bay's calibration is accepted and starts, or waits for the bay's TIM (R551, R553, Table 20-8: 1 FULL, 2 WAIT_TIM, 3 TRACK). -/
def Starts (q t : State) (b : Nat) (r : CalRun) : Prop :=
  (t.cal b).run = some r ∧ (∀ k, k ≠ b → t.cal k = q.cal k) ∧ (t.cal b).pending = (q.cal b).pending ∧ (t.cal b).force = (q.cal b).force ∧
    t.f (F.CAL_BAY_STATUS_STATE b) = (if ¬ (r.full = true ∧ r.shelves = 0xFF) ∧ q.timArmed b = true then 2 else if r.full then 1 else 3) ∧
    t.mem = q.mem ∧ t.pmus = q.pmus

/-- What the entering of a set leaves (R560, R567): it is in force, none is pending, GEN, TCAL and PEND show it, and its copies are to be written. -/
def InForce (t : State) (b : Nat) (x : CalSet) : Prop :=
  (t.cal b).force = some x ∧ (t.cal b).pending = none ∧ (t.cal b).store = [0, 1, 2] ∧ t.rd (Reg.CAL_BAY_GEN b) = BitVec.ofNat 32 x.gen ∧
    t.f (F.CAL_BAY_TCAL_T b) = unsigned 16 x.tcal ∧ t.rd (Reg.CAL_BAY_PEND b) = 0 ∧ t.flag (F.CAL_BAY_STATUS_UNCAL b) = x.uncal

/-- CAL_CMD (R550, R551, R553, R563, R565): without GO nothing starts; a command is refused MODE, BUSY, PRECONDITION, REFERENCE, NO_BASE or NO_PENDING; else FULL and
TRACK start, APPLY_NOW puts the pending set in force, and DISCARD drops it. -/
def Clause.CalCommands : Prop :=
  ∀ (s : State) (w : BusWrite) (c : Instr) (ref : Bool),
    c ∈ [.calFull w ref, .calTrack w ref] ∨ (ref = true ∧ c ∈ [.calApplyNow w, .calDiscardSet w]) →
    Admitted s Reg.CAL_CMD w → ¬ (s.flag F.CAL_CMD_GO = true ∧ w.bit 31 = true ∧ w.data.toNat % 4 = s.f F.CAL_CMD_BAY ∧ (s.cal (w.data.toNat % 4)).run.isSome) →
    let q := stored s Reg.CAL_CMD w
    let b := q.f F.CAL_CMD_BAY
    let op := q.f F.CAL_CMD_OP
    let shelves := q.f F.CAL_CMD_SHELVES
    let temp := q.fs (F.CAL_BAY_TEMP_T b)
    let barred := q.mode ∈ [.cold, .boot, .standby, .selftest, .safe]
    let refs := ref = true ∧ 1 ≤ q.f F.CAL_TREF_CFG_DIV ∧ q.f F.CAL_TREF_CFG_DIV ≤ 16
    let ends := fun (r : Nat) => Reaches c s (fun t => t.f (F.CAL_BAY_STATUS_RESULT b) = r ∧ t.flag F.CAL_CMD_GO = false ∧
      OnlyRegs [Reg.CAL_CMD, Reg.CAL_BAY_STATUS b] q t ∧ (∀ k, (t.cal k).run = (q.cal k).run ∧ (t.cal k).pending = (q.cal k).pending ∧
        (t.cal k).force = (q.cal k).force) ∧ t.mem = q.mem ∧ t.chans = q.chans ∧ t.ctxs = q.ctxs)
    ((w.bit 31 = false ∨ op = 0 ∨ 4 < op) → Reaches c s (fun t => OnlyRegs [Reg.CAL_CMD] q t ∧ SameBeyondRegs q t)) ∧
    (w.bit 31 = true → 1 ≤ op → op ≤ 4 →
      (barred → ends 3) ∧
      (¬ barred → (q.cal b).run.isSome = true → Reaches c s (fun t => t.f (F.CAL_BAY_STATUS_RESULT b) = 2 ∧ t.cals = q.cals ∧ t.mem = q.mem ∧
        OnlyRegs [Reg.CAL_CMD, Reg.CAL_BAY_STATUS b] q t)) ∧
      (¬ barred → (q.cal b).run = none →
        (op = 1 → q.fullAllowed b shelves = false → ends 4) ∧
        (op = 1 → q.fullAllowed b shelves = true → ¬ refs → ends 5) ∧
        (op = 1 → q.fullAllowed b shelves = true → refs → Reaches c s (fun t => t.flag F.CAL_CMD_GO = true ∧
          Starts q t b { full := true, shelves := shelves, modes := if q.f F.CAL_CMD_MODES = 0 then 3 else q.f F.CAL_CMD_MODES, temp := temp })) ∧
        (op = 2 → q.flag (F.CAL_BAY_STATUS_UNCAL b) = true → ends 6) ∧
        (op = 2 → q.flag (F.CAL_BAY_STATUS_UNCAL b) = false → ¬ refs → ends 5) ∧
        (op = 2 → q.flag (F.CAL_BAY_STATUS_UNCAL b) = false → refs → Reaches c s (fun t => t.flag F.CAL_CMD_GO = true ∧
          Starts q t b { full := false, shelves := 0xFF, modes := 3, temp := temp })) ∧
        ((op = 3 ∨ op = 4) → (q.cal b).pending = none → ends 0x0B) ∧
        (∀ x, op = 3 → (q.cal b).pending = some x → Reaches c s (fun t => InForce t b x ∧ t.f (F.CAL_BAY_STATUS_RESULT b) = 1 ∧
          t.flag F.CAL_CMD_GO = false ∧ t.mem = q.mem)) ∧
        (∀ x, op = 4 → (q.cal b).pending = some x → Reaches c s (fun t => (t.cal b).pending = none ∧ (t.cal b).force = (q.cal b).force ∧
          t.rd (Reg.CAL_BAY_PEND b) = 0 ∧ t.f (F.CAL_BAY_STATUS_RESULT b) = 1 ∧ t.flag F.CAL_CMD_GO = false ∧ t.corrs = q.corrs ∧ t.mem = q.mem))))

/-- A command for a bay whose calibration still runs, while GO reads 1, is refused BUSY and stores nothing (R565, Table 20-7). -/
def Clause.CalBusy : Prop :=
  ∀ (s : State) (w : BusWrite) (c : Instr) (ref : Bool), c ∈ [.calFull w ref, .calTrack w ref, .calApplyNow w, .calDiscardSet w] →
    AdmittedPlain s Reg.CAL_CMD w → s.flag F.CAL_CMD_GO = true → w.bit 31 = true → w.data.toNat % 4 = s.f F.CAL_CMD_BAY →
    (s.cal (s.f F.CAL_CMD_BAY)).run.isSome = true → Reaches c s (fun t => t.f (F.CAL_BAY_STATUS_RESULT (s.f F.CAL_CMD_BAY)) = 2 ∧
      OnlyRegs [Reg.CAL_BAY_STATUS (s.f F.CAL_CMD_BAY)] s t ∧ SameBeyondRegs s t)

/-- The calibrations of a bay as they go on (R552 to R560, R567): a reading of the temperature starts a tracking calibration where AUTO and THRESH ask for it; a
wait ends with the TIM's; measurements are fitted by a work item or the calibration ends NO_CLERK; a fit ends FIT_FAILED, REJECTED with the first
bad value, or gives the next generation, which a full calibration puts in force at once and a tracking one leaves to its policy; a pending set
enters when every owning context allows it; its copies are written one after another. -/
def Clause.CalProgress : Prop :=
  (∀ (s : State) (b : Nat) (v : Int) (ref : Bool), b < 4 → -32768 ≤ v → v < 32768 →
    let t0 := (s.cal b).failed.or (((s.cal b).pending.map (fun x => x.tcal)).or ((s.cal b).force.map (fun x => x.tcal)))
    let thresh := 25 * Nat.max 1 (Nat.min 40 (s.f (F.CAL_BAY_CFG_THRESH b)))
    let idle := s.flag (F.CAL_BAY_CFG_AUTO b) = false ∨ (s.cal b).run.isSome = true ∨ s.mode ∈ [.cold, .boot, .standby, .selftest, .safe]
    ((t0 = none ∨ idle ∨ ∀ f, t0 = some f → (v - f).natAbs < thresh) → Reaches (.calTempRead b v ref) s (fun t => t.fs (F.CAL_BAY_TEMP_T b) = v ∧
      OnlyRegs [Reg.CAL_BAY_TEMP b] s t ∧ SameBeyondRegs s t)) ∧
    (∀ f, t0 = some f → ¬ idle → thresh ≤ (v - f).natAbs →
      (s.flag (F.CAL_BAY_STATUS_UNCAL b) = false → ref = true → 1 ≤ s.f F.CAL_TREF_CFG_DIV → s.f F.CAL_TREF_CFG_DIV ≤ 16 →
        Reaches (.calTempRead b v ref) s (fun t => t.fs (F.CAL_BAY_TEMP_T b) = v ∧ Starts s t b { full := false, shelves := 0xFF, modes := 3, temp := v })) ∧
      (s.flag (F.CAL_BAY_STATUS_UNCAL b) = true → Reaches (.calTempRead b v ref) s (fun t => t.fs (F.CAL_BAY_TEMP_T b) = v ∧
        (t.cal b).failed = some v ∧ t.f (F.CAL_BAY_STATUS_RESULT b) = 6 ∧ (t.cal b).run = none ∧ t.mem = s.mem)))) ∧
  (∀ (s : State) (b : Nat), b < 4 →
    let st := s.f (F.CAL_BAY_STATUS_STATE b)
    (∀ r, (s.cal b).run = some r → st = 2 → s.timArmed b = false → Reaches (.calWaitTimEnd b) s (fun t =>
      t.f (F.CAL_BAY_STATUS_STATE b) = (if r.full then 1 else 3) ∧ OnlyRegs [Reg.CAL_BAY_STATUS b] s t ∧ SameBeyondRegs s t)) ∧
    (((s.cal b).run = none ∨ st ≠ 2 ∨ s.timArmed b = true) → Reaches (.calWaitTimEnd b) s (fun t => t = s)) ∧
    (st ≠ 1 → st ≠ 3 → Reaches (.calMeasureDone b) s (fun t => t = s)) ∧
    ((st = 1 ∨ st = 3) → s.f F.WKS_STATUS_STATE = 1 → Reaches (.calMeasureDone b) s (fun t =>
      Enqueued s t { id := 0, kind := 5, prio := 6, arg := b } ∧ t.f (F.CAL_BAY_STATUS_STATE b) = 4 ∧
        (t.cal b).run = (s.cal b).run.map (fun r => { r with fit := some s.wks.nextId }) ∧ OnlyRegs [Reg.CAL_BAY_STATUS b] s t ∧ t.mem = s.mem)) ∧
    ((st = 1 ∨ st = 3) → s.f F.WKS_STATUS_STATE ≠ 1 → (s.cal b).run.isSome = true → Reaches (.calMeasureDone b) s (fun t =>
      (t.cal b).run = none ∧ t.f (F.CAL_BAY_STATUS_STATE b) = 0 ∧ t.f (F.CAL_BAY_STATUS_RESULT b) = 7 ∧ t.wks = s.wks ∧ t.mem = s.mem))) ∧
  (∀ (s : State) (i res : Nat) (body : List Byte) (reject : Option (Nat × Nat × Nat)),
    (s.runsKind i 5 = none → Reaches (.itemCalFit i res body reject) s (fun t => t = s)) ∧
    (∀ (x : WorkItem) (r : CalRun), s.runsKind i 5 = some x → s.f F.WKS_STATUS_STATE = 1 →
      let b := x.arg % 4
      let gone := fun (t : State) => t.item x.id = none ∧ (t.cal b).run = none ∧ t.mem = s.mem
      (s.cal b).run = some r → r.fit = some x.id →
      (res ≠ 0 → Reaches (.itemCalFit i res body reject) s (fun t => gone t ∧ t.f (F.CAL_BAY_STATUS_RESULT b) = 9 ∧
        (t.cal b).pending = (s.cal b).pending ∧ (t.cal b).force = (s.cal b).force)) ∧
      (∀ u m ch, res = 0 → r.full = true → reject = some (u, m, ch) → u < 256 → m < 2 → ch < 256 → Reaches (.itemCalFit i res body reject) s (fun t =>
        gone t ∧ t.f (F.CAL_BAY_STATUS_RESULT b) = 8 ∧ t.f (F.CAL_BAY_REJ_ORDER b) = u ∧ t.f (F.CAL_BAY_REJ_MODE b) = m ∧
          t.f (F.CAL_BAY_REJ_LOCAL b) = ch ∧ (t.cal b).pending = (s.cal b).pending ∧ (t.cal b).force = (s.cal b).force)) ∧
      (res = 0 → r.full = true → reject = none → Reaches (.itemCalFit i res body reject) s (fun t => gone t ∧
        t.f (F.CAL_BAY_STATUS_RESULT b) = 1 ∧ (t.cal b).lastGen = (s.cal b).lastGen + 1 ∧
        ∃ y, InForce t b y ∧ y.gen = (s.cal b).lastGen + 1 ∧ y.tcal = r.temp ∧ y.kind = 1 ∧ y.body = body ∧
          (r.shelves = 0xFF → r.modes = 3 → y.uncal = false))) ∧
      (res = 0 → r.full = false → reject = none → s.edgeReject b r body = none → s.f (F.CAL_BAY_CFG_POLICY b) ≠ 2 →
        Reaches (.itemCalFit i res body reject) s (fun t => gone t ∧ t.f (F.CAL_BAY_STATUS_RESULT b) = 1 ∧ (t.cal b).force = (s.cal b).force ∧
          t.rd (Reg.CAL_BAY_PEND b) = BitVec.ofNat 32 ((s.cal b).lastGen + 1) ∧
          ∃ y, (t.cal b).pending = some y ∧ y.gen = (s.cal b).lastGen + 1 ∧ y.tcal = r.temp ∧ y.kind = 2 ∧ y.body = body)))) ∧
  (∀ (s : State) (b : Nat), b < 4 →
    let policy := s.f (F.CAL_BAY_CFG_POLICY b)
    let ready := fun (c : Nat) => s.ctxState c ∈ [.idle, .stopped, .off] ∨ (s.ctxState c = .armed ∧ ∀ d ∈ (s.ctx c).due, d.2 ≠ .start) ∨
      (s.ctxState c = .paused ∧ ∀ d ∈ (s.ctx c).due, d.2 ≠ .resume) ∨
      (s.ctxState c = .wait ∧ policy = 1 ∧ ∃ v, (s.ctx c).waiting = some v ∧ v.release = none)
    let met := fun (x : CalSet) => policy = 2 ∨ s.fenced (unitCode 3 b) = true ∨
      ∀ c, c < 16 → (∃ ch ∈ s.channelsOf c, ch / 64 = b ∧ bitAt x.shelves (ch / 8 % 8) = true) → ready c
    ((s.cal b).pending = none → Reaches (.calCommit b) s (fun t => t = s)) ∧
    (∀ x, (s.cal b).pending = some x → (met x → Reaches (.calCommit b) s (fun t => InForce t b x ∧ t.mem = s.mem)) ∧
      (¬ met x → Reaches (.calCommit b) s (fun t => t = s)))) ∧
  (∀ (s : State) (b : Nat) (ok : Bool), b < 4 →
    ((s.cal b).store = [] → Reaches (.calStoreWrite b ok) s (fun t => t = s)) ∧
    (∀ k rest, (s.cal b).store = k :: rest →
      let waits := (∃ x ∈ s.arch.queue, x.writer = .cal b k) ∨ b ∈ s.arch.calFlags
      (waits → Reaches (.calStoreWrite b ok) s (fun t => t = s)) ∧
      (¬ waits → ok = true → rest = [] → Reaches (.calStoreWrite b ok) s (fun t => (t.cal b).store = [] ∧ bitAt (t.rd Reg.CAL_STORE_STATUS).toNat (8 * b + 6) = false ∧
        OnlyRegs [Reg.CAL_STORE_STATUS] s t ∧ t.arch = s.arch)) ∧
      (∀ j rest', ¬ waits → ok = true → rest = j :: rest' → (s.cal b).force.isSome = true → s.arch.inhibit = false →
        Reaches (.calStoreWrite b ok) s (fun t => (t.cal b).store = rest ∧ t.regs = s.regs ∧
          ∃ x ∈ t.arch.queue, x.writer = .cal b j ∧ x.addr = 0x100000 + 0x40000 * j + 0x10000 * b)) ∧
      (¬ waits → ok = false → (s.cal b).force.isSome = true → s.arch.inhibit = false →
        Reaches (.calStoreWrite b ok) s (fun t => (t.cal b).store = k :: rest ∧ t.regs = s.regs ∧
          ∃ x ∈ t.arch.queue, x.writer = .cal b k))))

/-- Calibration. -/
def Obligations.Calibration : Prop := Clause.CalCommands ∧ Clause.CalBusy ∧ Clause.CalProgress

/-! ### Faults and interrupts (19_faults_and_interrupts.md) -/

/-- FAULT_DETECTED, by class (R522): a Note and a Correctable fault are entered in the active table, where a unit and cause already there
or a free entry takes them, and nothing plays, drives or stores otherwise; a Unit-fatal fault fences its unit, for a unit of the kinds 2 to 0xD; a Chip-fatal fault enters
Safe. In Cold no report is taken. -/
def Obligations.FaultClasses : Prop :=
  ∀ (s : State) (r : FaultReport), r.wf = true → unitExists r.unit = true →
    (s.mode = .cold → Reaches (.faultDetected r) s (fun t => t = s)) ∧
    (s.mode ≠ .cold → r.cls < 2 → ((s.findEntry r.unit r.cause).isSome = true ∨ s.freeEntry.isSome = true) →
      Reaches (.faultDetected r) s (fun t => (t.findEntry r.unit r.cause).isSome = true ∧ t.mem = s.mem ∧ t.sys = s.sys ∧
        t.chans = s.chans ∧ t.ctxs = s.ctxs ∧ t.fcl.fences = s.fcl.fences ∧ t.mode = s.mode)) ∧
    (s.mode ≠ .cold → r.cls = 2 → unitKind r.unit ∈ [2, 3, 4, 5, 6, 7, 8, 9, 0xA, 0xB, 0xC, 0xD] →
      Reaches (.faultDetected r) s (fun t => t.fenced r.unit = true)) ∧
    (s.mode ≠ .cold → r.cls = 3 → Reaches (.faultDetected r) s (fun t => t.mode = .safe))

/-- WIRE_FAULT and WIRE_TEST: a unit whose error pair stays INVALID, or does not answer the wire test while it is neither fenced nor OFF, is
fenced (R519, R520); a unit that is fenced or OFF is not tested. COLLECTOR: a mismatch of the collector's halves enters Safe (R521).
RECOVERY_WINDOW_CLOSE: the unit's window closes and every other stays (R527). -/
def Clause.WireAndCollector : Prop :=
  (∀ (s : State) (u : Nat), s.mode ≠ .cold → unitExists u = true → unitKind u ∈ [2, 3, 4, 5, 6, 7, 8, 9, 0xA, 0xB, 0xC, 0xD] →
    Reaches (.wireFault u) s (fun t => t.fenced u = true)) ∧
  (∀ (s : State) (u : Nat), s.mode ≠ .cold → unitExists u = true → s.fenced u = false → s.unitOff u = false →
    unitKind u ∈ [2, 3, 4, 5, 6, 7, 8, 9, 0xA, 0xB, 0xC, 0xD] →
    Reaches (.wireTest [u]) s (fun t => t.fenced u = true)) ∧
  (∀ (s : State) (u : Nat), s.mode ≠ .cold → (s.fenced u = true ∨ s.unitOff u = true) → Reaches (.wireTest [u]) s (fun t => t = s)) ∧
  (∀ s : State, s.mode ≠ .cold → Reaches .collectorMismatch s (fun t => t.mode = .safe)) ∧
  (∀ (s : State) (u : Nat), Reaches (.recoveryWindowClose u) s (fun t =>
    (∀ w, w ∈ t.fcl.windows ↔ w ∈ s.fcl.windows ∧ w.unit ≠ u) ∧ t.regs = s.regs ∧ t.mem = s.mem ∧ t.fcl.active = s.fcl.active))

/-- ESTOP: an enabled input at its active level puts the device in Safe, and with none the event changes nothing (R532). DIE_OVERTEMP: a hot
pin die fences its bay, a hot core die enters Safe (24_electrical_and_package.md R638). -/
def Clause.EmergencyStop : Prop :=
  (∀ s : State, s.mode ≠ .cold → s.estopInputs ≠ 0 → Reaches .estopActive s (fun t => t.mode = .safe)) ∧
  (∀ s : State, s.estopInputs = 0 → Reaches .estopActive s (fun t => t.regs = s.regs ∧ t.mem = s.mem ∧ t.mode = s.mode)) ∧
  (∀ (s : State) (d : Nat), s.mode ≠ .cold → d < 4 → Reaches (.dieOvertemp d) s (fun t => t.fenced (unitCode 3 d) = true)) ∧
  (∀ s : State, s.mode ≠ .cold → Reaches (.dieOvertemp 4) s (fun t => t.mode = .safe))

/-- EVT_FILTERED_CHANGE: the filtered level reads in IRQ_EVT_LEVEL, and a level that is already there changes nothing (R543). TRIG_EDGE: the
level at the TRIG ball is kept (R188). Neither stores to the stacks or touches the mode. -/
def Clause.InputLevels : Prop :=
  (∀ (s : State) (i : Nat) (high : Bool), i < 16 → Reaches (.evtFilteredChange i high) s (fun t =>
    t.flag ⟨Reg.IRQ_EVT_LEVEL, i, 1⟩ = high ∧ t.mem = s.mem ∧ t.sys = s.sys)) ∧
  (∀ (s : State) (i : Nat) (high : Bool), i < 16 → s.flag ⟨Reg.IRQ_EVT_LEVEL, i, 1⟩ = high →
    Reaches (.evtFilteredChange i high) s (fun t => t = s)) ∧
  (∀ (s : State) (i : Nat) (rise : Bool), i < 8 → Reaches (.trigEdge i rise) s (fun t =>
    bitAt t.fcl.trig i = rise ∧ t.mem = s.mem ∧ t.sys = s.sys ∧ t.fcl.active = s.fcl.active))

/-- The board's inputs: the fault wire and the collector, the emergency stop, and the levels of the input balls. -/
def Obligations.BoardInputs : Prop := Clause.WireAndCollector ∧ Clause.EmergencyStop ∧ Clause.InputLevels

/-- FCL_CLEAR: every entry the write names whose CONDITION does not hold is cleared, every named entry whose CONDITION holds stays, and RESULT is 3 where none was named; no fence falls (R536, R537). -/
def Clause.FaultsClear : Prop :=
  ∀ (s : State) (w : BusWrite), Admitted s Reg.FCL_CLEAR w → w.bit 31 = true →
    let named := fun k => (s.entry k).uncleared = true ∧
      ((stored s Reg.FCL_CLEAR w).flag F.FCL_CLEAR_ALL = true ∨ (s.entry k).unit = (stored s Reg.FCL_CLEAR w).f F.FCL_CLEAR_UNIT)
    Reaches (.fclClear w []) s (fun t =>
      (∀ k, k < 256 → named k → s.condHolds (s.entry k).cond = false → (t.entry k).uncleared = false) ∧
      (∀ k, k < 256 → named k → s.condHolds (s.entry k).cond = true → t.entry k = s.entry k) ∧
      (∀ k, k < 256 → ¬ named k → t.entry k = s.entry k) ∧
      ((∀ k, k < 256 → ¬ named k) → t.f F.FCL_CLEAR_RESULT = 3) ∧
      t.mem = s.mem ∧ t.sys = s.sys ∧ t.fcl.fences = s.fcl.fences)

/-- FENCE_SET: a unit that the host may fence, of a kind without a budget, is fenced and RESULT is DONE; a code the host may not fence ends RESULT
3. FENCE_CLEAR: a unit without a fence ends DONE, a unit with an uncleared Unit-fatal entry stays fenced and ends RESULT 4, and a Ledger slice
without one is free and ends DONE (R525, R538). -/
def Obligations.HostFences : Prop :=
  (∀ (s : State) (w : BusWrite) (u : Nat), Admitted s Reg.FCL_FENCE_CMD w → w.bit 31 = true →
    (stored s Reg.FCL_FENCE_CMD w).f F.FCL_FENCE_CMD_OP = 1 → (stored s Reg.FCL_FENCE_CMD w).f F.FCL_FENCE_CMD_UNIT = u →
    (fenceKind u = true → unitKind u ∉ [3, 0xB, 0xC, 0xD] → Reaches (.fenceSet w) s (fun t => t.fenced u = true ∧ t.f F.FCL_FENCE_CMD_RESULT = 1)) ∧
    (fenceKind u = false → Reaches (.fenceSet w) s (fun t => t.fcl = s.fcl ∧ t.f F.FCL_FENCE_CMD_RESULT = 3))) ∧
  (∀ (s : State) (w : BusWrite) (u : Nat), Admitted s Reg.FCL_FENCE_CMD w → w.bit 31 = true →
    (stored s Reg.FCL_FENCE_CMD w).f F.FCL_FENCE_CMD_OP = 2 → (stored s Reg.FCL_FENCE_CMD w).f F.FCL_FENCE_CMD_UNIT = u → fenceKind u = true →
    (s.fence u = none → Reaches (.fenceClear w) s (fun t => t.fcl = s.fcl ∧ t.f F.FCL_FENCE_CMD_RESULT = 1)) ∧
    (s.fence u ≠ none → s.fatalOf u = true → Reaches (.fenceClear w) s (fun t => t.fence u = s.fence u ∧ t.f F.FCL_FENCE_CMD_RESULT = 4)) ∧
    (s.fence u ≠ none → s.fatalOf u = false → unitKind u = 5 → Reaches (.fenceClear w) s (fun t =>
      t.fence u = none ∧ t.f F.FCL_FENCE_CMD_RESULT = 1)))

/-- FCL_LOG_READ: the record whose RSEQ is FCL_LOG_IDX is shown word by word with RESULT 1 where its check passes; a slot that holds
another record ends RESULT 2 and shows nothing (R541). IRQ_SRC_CNT_WRITE subtracts what is written from the count and never wraps below 0;
IRQ_SRC_CFG_WRITE that sets EN on a source with a count signals its vector at once where the
vector is free (R544, R545). -/
def Clause.LogAndSources : Prop :=
  (∀ (s : State) (w : BusWrite), Admitted s Reg.FCL_LOG_CTRL w → w.bit 31 = true →
    let r := s.arch.bytes (0x1C0000 + 64 * ((s.rd Reg.FCL_LOG_IDX).toNat % 8192)) 64
    (leAt r 0 4 = 0x4C464B56 → leAt r 8 4 = (s.rd Reg.FCL_LOG_IDX).toNat → logValid r = true →
      Reaches (.fclLogRead w) s (fun t => t.f F.FCL_LOG_CTRL_RESULT = 1 ∧
        ∀ i, i < 16 → t.rd (Reg.FCL_LOG_DATA i) = BitVec.ofNat 32 (leAt r (4 * i) 4))) ∧
    (leAt r 8 4 ≠ (s.rd Reg.FCL_LOG_IDX).toNat → Reaches (.fclLogRead w) s (fun t => t.f F.FCL_LOG_CTRL_RESULT = 2 ∧
        (∀ i, i < 16 → t.rd (Reg.FCL_LOG_DATA i) = s.rd (Reg.FCL_LOG_DATA i)) ∧ t.arch = s.arch ∧ t.mem = s.mem))) ∧
  (∀ (s : State) (i : Nat) (w : BusWrite), i < 1024 → w.whole = true → w.master = .host → s.mode ≠ .cold → s.mode ≠ .standby →
    s.sys.recovery = false →
    Reaches (.irqSrcCntWrite i w) s (fun t =>
      t.f (F.IRQ_SRC_CNT_COUNT i) = s.f (F.IRQ_SRC_CNT_COUNT i) - w.data.toNat % 256 ∧ t.mem = s.mem ∧ t.fcl = s.fcl)) ∧
  (∀ (s : State) (i v : Nat) (w : BusWrite), i < 1024 → Admitted s (Reg.IRQ_SRC_CFG i) w → s.flag (F.IRQ_SRC_CFG_EN i) = false →
    w.bit 31 = true → w.data.toNat % 64 = v → s.f (F.IRQ_SRC_CNT_COUNT i) ≠ 0 → s.msixFree v = true →
    Reaches (.irqSrcCfgWrite i w) s (fun t => t.flag (F.IRQ_SRC_CFG_EN i) = true ∧ t.out = s.out ++ [.msi v] ∧ t.mem = s.mem))

/-- The fault log's own commands, and the commands that clear what contained a unit. -/
def Obligations.LogsAndSources : Prop := Clause.FaultsClear ∧ Clause.LogAndSources

/-! ### Fuses, licence, the lock and the Archive (21_security_and_archive.md) -/

/-- RAISE_BOOT, RAISE_ERRATA and REVOKE start in Idle where Table 21-6 refuses nothing: GO reads 1 with RESULT 0, and no fuse has changed
yet; outside Idle each ends RESULT 4 and starts nothing (R571). -/
def Clause.FuseCommandsStart : Prop :=
  ∀ (s : State) (w : BusWrite) (c : Instr) (op : Nat),
    (c = .fuseRaiseBoot w ∧ op = 1 ∨ c = .fuseRaiseErrata w ∧ op = 2 ∨ c = .fuseRevoke w ∧ op = 3) →
    s.sec.fuseCmd = none → Admitted s Reg.SEC_FUSE_CMD w → w.bit 31 = true →
    (stored s Reg.SEC_FUSE_CMD w).f F.SEC_FUSE_CMD_OP = op →
    let v := (stored s Reg.SEC_FUSE_CMD w).f F.SEC_FUSE_CMD_VALUE
    (s.mode = .idle → s.fuseRefusal op v = 0 →
      Reaches c s (fun t => t.sec.fuseCmd = some (op, v) ∧ t.sec.fuses = s.sec.fuses ∧ t.flag F.SEC_FUSE_CMD_GO = true ∧
        t.f F.SEC_FUSE_CMD_RESULT = 0 ∧ t.mem = s.mem ∧ t.arch = s.arch)) ∧
    (s.mode ≠ .idle → Reaches c s (fun t => t.sec = s.sec ∧ t.f F.SEC_FUSE_CMD_RESULT = 4))

/-- FUSE_PROGRAM_DONE ends the accepted command: BOOT_MIN or ERRATA_MIN rises to VALUE, 64 at most, and never falls, or a
revoked slot's bit sets and none clears; after RAISE_BOOT RESULT is DONE and GO clear (R570, R571). -/
def Clause.FuseProgramming : Prop :=
  ∀ (s : State) (v : Nat),
    (s.sec.fuseCmd = some (1, v) → Reaches .fuseProgramDone s (fun t =>
      t.sec.fuses = { s.sec.fuses with bootMin := max s.sec.fuses.bootMin (min v 64) } ∧ t.sec.fuseCmd = none ∧
        t.f F.SEC_FUSE_CMD_RESULT = 1 ∧ t.flag F.SEC_FUSE_CMD_GO = false)) ∧
    (s.sec.fuseCmd = some (2, v) → Reaches .fuseProgramDone s (fun t =>
      t.sec.fuses = { s.sec.fuses with errataMin := max s.sec.fuses.errataMin (min v 64) } ∧ t.sec.fuseCmd = none)) ∧
    (s.sec.fuseCmd = some (3, v) → v < 4 → Reaches .fuseProgramDone s (fun t =>
      bitAt t.sec.fuses.revoke v = true ∧ (∀ i, bitAt s.sec.fuses.revoke i = true → bitAt t.sec.fuses.revoke i = true) ∧
        t.sec.fuseCmd = none ∧ t.mem = s.mem ∧ t.arch = s.arch))

/-- Fuse commands: what starts one, and what programming does. -/
def Obligations.FuseCommands : Prop := Clause.FuseCommandsStart ∧ Clause.FuseProgramming

/-- LICENCE_INSTALL: in Idle a readable blob that passes its keyed checks and the content checks of R575, and is newer than the licence
in force where it has its LIC_ID, comes into force and reports 1; outside Idle the command ends RESULT 4 with nothing installed
(R577). SEC_LOCK_WRITE: the register takes its one write and holds it; a second write is denied with cause WO1 (R582, R613). -/
def Obligations.LicenceAndLock : Prop :=
  (∀ (s : State) (w : BusWrite) (ok : Bool) (body : List Byte), Admitted s Reg.SEC_LIC_CMD w → w.bit 0 = true → s.mode ≠ .idle →
    Reaches (.licenceInstall w ok body) s (fun t => t.sec = s.sec ∧ t.f F.SEC_LIC_STATUS_RESULT = 4)) ∧
  (∀ (s : State) (w : BusWrite) (body : List Byte), Admitted s Reg.SEC_LIC_CMD w → w.bit 0 = true → s.mode = .idle →
    let s' := stored s Reg.SEC_LIC_CMD w
    (s'.licenceBlob (s'.f F.SEC_LIC_SRC_HI_ADDR * 2 ^ 32 + s'.f F.SEC_LIC_SRC_LO_ADDR * 64)).1.isSome = true →
    s.licenceBodyOk body = true → (∀ l, s.sec.licence = some l → l.1 = leAt body 8 4 → l.2 < leAt body 0x0C 4) →
    Reaches (.licenceInstall w true body) s (fun t => t.sec.licence = some (leAt body 8 4, leAt body 0x0C 4) ∧
      t.f F.SEC_LIC_STATUS_RESULT = 1 ∧ t.sec.fuses = s.sec.fuses)) ∧
  (∀ (s : State) (w : BusWrite), Admitted s Reg.SEC_LOCK w → Reaches (.secLockWrite w) s (fun t =>
    t = stored s Reg.SEC_LOCK w ∧ Reg.SEC_LOCK ∈ t.wo1)) ∧
  (∀ (s : State) (w : BusWrite), Reg.SEC_LOCK ∈ s.wo1 → w.whole = true → s.mode = .idle → s.sys.recovery = false → w.master = .host →
    s.flag F.SYS_DENY_STATUS_DENIED = false →
    Reaches (.secLockWrite w) s (fun t => t.rd Reg.SEC_LOCK = s.rd Reg.SEC_LOCK ∧ t.f F.SYS_DENY_STATUS_CAUSE = 4))

/-- NVS_READ, PROGRAM, ERASE and WRITE_IMAGE start where Table 21-5 refuses nothing: GO reads 1 with RESULT 0 and the command waits with
its operation, address and length; no byte of the Archive or of the stacks has changed. Where it refuses, RESULT says why and nothing
starts (R585). -/
def Clause.ArchiveCommandsStart : Prop :=
  ∀ (s : State) (w : BusWrite) (c : Instr) (op : Nat),
    (c = .nvsRead w ∧ op = 1 ∨ c = .nvsProgram w ∧ op = 2 ∨ c = .nvsErase w ∧ op = 3 ∨ c = .nvsWriteImage w ∧ op = 4) →
    s.arch.hostOp = none → Admitted s Reg.NVS_CMD w → w.bit 31 = true →
    (stored s Reg.NVS_CMD w).f F.NVS_CMD_OP = op →
    let r := s.nvsRefusal op (s.f F.NVS_ADDR_ADDR) (s.f F.NVS_LEN_LEN)
    (r = 0 → Reaches c s (fun t => (t.arch.hostOp.map (fun q => (q.1, q.2.1, q.2.2.1))) = some (op, s.f F.NVS_ADDR_ADDR, s.f F.NVS_LEN_LEN) ∧
      t.flag F.NVS_CMD_GO = true ∧ t.f F.NVS_STATUS_RESULT = 0 ∧ t.arch.cells = s.arch.cells ∧ t.mem = s.mem)) ∧
    (r ≠ 0 → Reaches c s (fun t => t.arch = s.arch ∧ t.f F.NVS_STATUS_RESULT = r ∧ t.mem = s.mem))

/-- NVS_COMMAND_DONE and PAGE_PROGRAM_DONE: an ERASE at work behind no write of the Burcel's own leaves its 64 KiB sector erased and ends
DONE with GO clear; a command of the host waits while a write of the Burcel's own is queued (R585). The program at work puts its page
where it lies, and the queue goes on with its rest (R584). -/
def Clause.ArchiveWorks : Prop :=
  (∀ (s : State) (a n buf : Nat) (data : List Byte) (ok readBack : Bool), s.arch.hostOp = some (3, a, n, buf) → s.arch.queue = [] →
    Reaches (.nvsCommandDone data ok readBack) s (fun t => t.arch.hostOp = none ∧ t.f F.NVS_STATUS_RESULT = 1 ∧
      t.flag F.NVS_CMD_GO = false ∧ t.arch.cells = (s.arch.erase a).cells ∧ t.mem = s.mem)) ∧
  (∀ (s : State) (data : List Byte) (ok readBack : Bool), s.arch.hostOp.isSome = true → s.arch.queue ≠ [] →
    Reaches (.nvsCommandDone data ok readBack) s (fun t => t = s)) ∧
  (∀ (s : State) (w : OwnWrite) (qs : List OwnWrite), s.arch.busy = true → s.arch.inhibit = false → s.arch.queue = w :: qs →
    Reaches .pageProgramDone s (fun t => t.arch.cells = (w.advance s.arch).1.cells ∧
      t.arch.queue = (w.advance s.arch).2.toList ++ qs ∧ t.mem = s.mem ∧ t.sec = s.sec))

/-- SUPPLY_SAG_INHIBIT: the inhibit holds, and a host command at work ends with RESULT 4. SAG_INHIBIT_END: the inhibit ends and no calibration
flag is left (R587, R589). -/
def Clause.SupplySag : Prop :=
  (∀ (s : State) (residue : List Byte), s.arch.inhibit = false → Reaches (.supplySagInhibit residue) s (fun t =>
    t.arch.inhibit = true ∧ t.arch.hostOp = none ∧ (s.arch.hostOp.isSome = true → t.f F.NVS_STATUS_RESULT = 4 ∧ t.flag F.NVS_CMD_GO = false) ∧
      t.mem = s.mem ∧ t.sec = s.sec)) ∧
  (∀ s : State, s.arch.inhibit = true → Reaches .sagInhibitEnd s (fun t => t.arch.inhibit = false ∧ t.arch.calFlags = [] ∧ t.mem = s.mem))

/-- Archive commands: what starts one, what the Archive's work does, and a sag of the supply. -/
def Obligations.ArchiveCommands : Prop := Clause.ArchiveCommandsStart ∧ Clause.ArchiveWorks ∧ Clause.SupplySag

/-- The SMBus target answers a read whenever the device has its supply, in every mode, Cold included: command 1 with the first 64 bytes of IDENTITY,
2 with SYS_MODE[7:0], 0x10 to 0x13 with a bay's temperature in whole degrees, two's complement, and any other with 0xFF; a read changes nothing
else of the block (R586). -/
def Obligations.SmbusReads : Prop :=
  (∀ s : State, s.sys.unpowered = false → Reaches .smbusIdentityRead s (fun t =>
    t = s.emit (.answer 0x10000001 (ofLe (s.arch.bytes 0x20000 64))))) ∧
  (∀ s : State, s.sys.unpowered = false → Reaches .smbusModeRead s (fun t =>
    t = s.emit (.answer 0x10000002 (s.mode.code + 16 * b2n s.degraded)))) ∧
  (∀ (s : State) (b : Nat), b < 4 → s.sys.unpowered = false → Reaches (.smbusTempRead b) s (fun t =>
    ∃ r : Int, (100 * r - s.fs (F.CAL_BAY_TEMP_T b)).natAbs < 100 ∧ t = s.emit (.answer (0x10000010 + b) (unsigned 8 r)))) ∧
  (∀ (s : State) (cmd : Nat), cmd < 256 → cmd ∉ [1, 2, 0x10, 0x11, 0x12, 0x13] → s.sys.unpowered = false → Reaches (.smbusOtherRead cmd) s (fun t =>
    t = s.emit (.answer (0x10000000 + cmd) 0xFF)))

/-! ### Debug access and in-service test (22_debug_and_in_service_test.md) -/

/-- TAP_RESET leaves IDCODE in the instruction register and nothing else changed; IDCODE shifts out 0x1B2565D3, BYPASS one 0, DAP_STATUS the
debug status with no side effect; SAMPLE_PRELOAD shifts out the sampled cells and loads the update cells with the function unchanged
(R590, R591, R593). -/
def Clause.TapQuiet : Prop :=
  ∀ s : State, s.sys.unpowered = false →
    Reaches .tapReset s (fun t => t = { s with tap := { s.tap with ir := 0x02 } }) ∧
    Reaches .tapIdcode s (fun t => t.tap.ir = 0x02 ∧ t.out.getLast? = some (.answer tdoPort 0x1B2565D3) ∧ t.regs = s.regs ∧ t.mem = s.mem) ∧
    Reaches .tapBypass s (fun t => t.tap.ir = 0xFF ∧ t.out.getLast? = some (.answer tdoPort 0) ∧ t.regs = s.regs ∧ t.mem = s.mem) ∧
    Reaches .dapStatus s (fun t => t.tap.ir = 0x11 ∧ t.out.getLast? = some (.answer tdoPort s.dbgStatus) ∧ t.regs = s.regs ∧ t.mem = s.mem) ∧
    (∀ cells pins, cells < 2 ^ 54 → pins < 2 ^ 54 → Reaches (.tapSamplePreload cells pins) s (fun t =>
      t.tap.cells = cells ∧ t.out.getLast? = some (.answer tdoPort pins) ∧ t.regs = s.regs ∧ t.mem = s.mem ∧ t.boundaryDrive = none))

/-- EXTEST and CLAMP drive the boundary cells, HIGHZ disables every output; each enters Safe and leaves every channel's PATH at NONE, where
the mode has one to leave (R593, R86). -/
def Clause.TapDrives : Prop :=
  ∀ (s : State) (cells pins : Nat), s.sys.unpowered = false → s.mode ≠ .cold → s.mode ≠ .boot → cells < 2 ^ 54 → pins < 2 ^ 54 →
    Reaches (.tapExtest cells pins) s (fun t => t.boundaryDrive = some cells ∧ t.out.getLast? = some (.answer tdoPort pins) ∧
      t.mode = .safe ∧ ∀ ch, ch < 256 → t.f (F.CHN_CTRL_PATH ch) = 0) ∧
    Reaches (.tapClamp cells) s (fun t => t.boundaryDrive = some cells ∧ t.mode = .safe ∧ ∀ ch, ch < 256 → t.f (F.CHN_CTRL_PATH ch) = 0) ∧
    Reaches .tapHighz s (fun t => t.boundaryDrive = some 0 ∧ t.mode = .safe ∧ ∀ ch, ch < 256 → t.f (F.CHN_CTRL_PATH ch) = 0)

/-- The test access port: the scans that drive nothing, and the scans that drive the balls. -/
def Obligations.TapScans : Prop := Clause.TapQuiet ∧ Clause.TapDrives

/-- DAP_ACCESS: the scan shifts out the outcome of the access before it. A disabled port captures DISABLED and touches no register; an
enabled one captures ALIGN for an address that is no multiple of 4, and for a peek outside Cold and Standby the register's value with status OK,
and changes no register but DBG_STATUS. While the access before is incomplete it captures BUSY and does nothing (R594 to R597). -/
def Clause.DapAccesses : Prop :=
  ∀ (s : State) (write consume pair : Bool) (a : Nat) (data : Word) (x : Facts), s.sys.unpowered = false →
    (s.dapEnabled = false → Reaches (.dapAccess false write consume pair a data x) s (fun t =>
      t.tap.dap = dapWord 2 a 0 ∧ t.out.getLast? = some (.answer tdoPort s.tap.dap) ∧ t.regs = s.regs ∧ t.mem = s.mem)) ∧
    (s.dapEnabled = true → a % 4 ≠ 0 → Reaches (.dapAccess false write consume pair a data x) s (fun t =>
      t.tap.dap = dapWord 5 a 0 ∧ t.flag F.DBG_STATUS_DAP_USED = true ∧ OnlyRegs [Reg.DBG_STATUS] s t ∧ t.mem = s.mem)) ∧
    (s.dapEnabled = true → a % 4 = 0 → s.mode ≠ .cold → s.mode ≠ .standby → a ≠ Reg.DBG_STATUS →
      Reaches (.dapAccess false false false pair a data x) s (fun t =>
        t.tap.dap = dapWord 0 a (s.read a) ∧ OnlyRegs [Reg.DBG_STATUS] s t ∧ t.mem = s.mem)) ∧
    Reaches (.dapAccess true write consume pair a data x) s (fun t =>
      t.out.getLast? = some (.answer tdoPort (2 ^ 60)) ∧ t.tap.dap = s.tap.dap ∧ t.regs = s.regs ∧ t.mem = s.mem)

/-- DBG_AON_UNLOCK: KEY1 then KEY2 open a master's gate, any other second value voids the sequence and sets UNLOCK_TMO; the register reads
0 (R598, R600). UNLOCK_TMO closes the gate, and is noted where a sequence was open. A gate that is closed turns a gated write of its
master away (R598). -/
def Clause.WriteGates : Prop :=
  (∀ (s : State) (w : BusWrite), Admitted s Reg.DBG_AON_UNLOCK w → w.master ≠ .host →
    let g := masterGate w.master
    ((stored s Reg.DBG_AON_UNLOCK w).gate g).keyed = false → w.data.toNat % 65536 = 0xA5C3 →
      Reaches (.dbgAonUnlock w) s (fun t => (t.gate g).keyed = true ∧ t.rd Reg.DBG_AON_UNLOCK = 0 ∧ t.mem = s.mem)) ∧
  (∀ (s : State) (w : BusWrite), Admitted s Reg.DBG_AON_UNLOCK w → w.master ≠ .host →
    let g := masterGate w.master
    ((stored s Reg.DBG_AON_UNLOCK w).gate g).keyed = true →
      (w.data.toNat % 65536 = 0x3C5A → Reaches (.dbgAonUnlock w) s (fun t => (t.gate g).opened = true ∧ (t.gate g).keyed = false)) ∧
      (w.data.toNat % 65536 ≠ 0x3C5A → Reaches (.dbgAonUnlock w) s (fun t => (t.gate g).opened = false ∧ t.flag F.DBG_STATUS_UNLOCK_TMO = true))) ∧
  (∀ (s : State) (g : Nat), g < 17 → Reaches (.unlockTmo g) s (fun t => (t.gate g).opened = false ∧ (t.gate g).keyed = false ∧
    ((s.gate g).keyed = true → t.flag F.DBG_STATUS_UNLOCK_TMO = true) ∧ OnlyRegs [Reg.DBG_STATUS] s t ∧ t.mem = s.mem)) ∧
  (∀ (s : State) (a : Nat) (m : Master), m ≠ .host → gated (blockOf a) a = true → (s.gate (masterGate m)).opened = false →
    s.denyGate (blockOf a) a m = true)

/-- Debug accesses and the gates that let a write through. -/
def Obligations.DebugAccess : Prop := Clause.DapAccesses ∧ Clause.WriteGates

/-- DBG_CLK_HALT: after the write each clerk that is not fenced halts exactly where its bit asks, and a fenced one does not (R602). DBG_RDR_HALT
changes nothing where every context it names is IDLE, OFF or STOPPED, and halts one in PLAY as RDR_CTRL's HALT does (R601). -/
def Clause.DebugHalts : Prop :=
  (∀ (s : State) (w : BusWrite), Admitted s Reg.DBG_CLK_HALT w → Reaches (.dbgClkHalt w) s (fun t =>
    (∀ i, i < 16 → t.flag ⟨Reg.DBG_CLK_STATUS, i, 1⟩ =
      ((stored s Reg.DBG_CLK_HALT w).flag ⟨Reg.DBG_CLK_HALT, i, 1⟩ && !s.fenced (unitCode 0xC i))) ∧ t.mem = s.mem ∧ t.wks = s.wks)) ∧
  (∀ (s : State) (w : BusWrite), w.whole = true → w.master = .host → s.mode = .idle → s.sys.recovery = false →
    (∀ c, c < 16 → w.bit c = true → s.ctxState c = .idle ∨ s.ctxState c = .off ∨ s.ctxState c = .stopped) →
    Reaches (.dbgRdrHalt w) s (fun t => t = s)) ∧
  (∀ (s : State) (w : BusWrite) (c : Nat), c < 16 → w.whole = true → w.master = .host → s.mode = .run → s.sys.recovery = false →
    w.bit 31 = false → w.data.toNat % 65536 = 2 ^ c → s.ctxState c = .play →
    Reaches (.dbgRdrHalt w) s (fun t => t.ctx c = (s.haltCommand c).ctx c ∧ t.mem = s.mem))

/-- LOOPBACK, CSTORE, MARCH and ARCHIVE steps of the inventory start where inventory runs, their kind is enabled, no step is in progress,
the step is not done, and its unit is eligible; the step then stands in progress with BUSY set. A step that ends well is done, or its
end has ended the cycle, and none is in progress (R603 to R606). -/
def Clause.InventorySteps : Prop :=
  ∀ (s : State) (c : Option (Option Nat) → Instr) (kind n : Nat),
    (c = .istLoopback n ∧ kind = 0 ∨ c = .istCstore n ∧ kind = 1 ∨ c = .istMarch n ∧ kind = 2 ∨ c = .istArchive n ∧ kind = 3) →
    n < istSteps kind →
    (s.istRuns = true → bitAt (s.f F.IST_CFG_KINDS) kind = true → s.ist.step = none → s.istDone kind n = false →
      s.istEligible kind (istUnit kind n) = true →
      Reaches (c none) s (fun t => t.ist.step = some { kind := kind, unit := istUnit kind n, num := n } ∧ t.flag F.IST_STATUS_BUSY = true ∧
        t.f F.IST_STATUS_KIND = kind ∧ t.mem = s.mem ∧ t.fcl = s.fcl)) ∧
    (s.ist.step = some { kind := kind, unit := istUnit kind n, num := n } →
      Reaches (c (some none)) s (fun t => t.ist.step = none ∧ t.flag F.IST_STATUS_BUSY = false ∧
        (t.istDone kind n = true ∨ t.ist.began = s.now) ∧ t.mem = s.mem ∧ t.fcl = s.fcl))

/-- The debug halts, and the steps of the in-service inventory. -/
def Obligations.DebugHaltsAndInventory : Prop := Clause.DebugHalts ∧ Clause.InventorySteps
end

