-- ==== Sys2Proof/Laws/Map.lean ====
section
/-! SUPPORT. Laws of sparse maps: what is read after a write, an erasure or a filter, and that these keep the canonical form. -/
namespace Sys2Proof.Machine

variable {α : Type}

@[simp] theorem SMap.get_nil (d : α) (k : Nat) : SMap.get d [] k = d := rfl

theorem SMap.get_cons (d : α) (p : Nat × α) (m : SMap α) (k : Nat) :
    SMap.get d (p :: m) k = if p.1 = k then p.2 else SMap.get d m k := rfl

/-- An erased key reads as the default, every other key as before. -/
theorem SMap.get_erase (d : α) (m : SMap α) (k j : Nat) :
    SMap.get d (SMap.erase m k) j = if j = k then d else SMap.get d m j := by
  induction m with
  | nil => simp [SMap.erase]
  | cons p m ih =>
    obtain ⟨k', v⟩ := p
    by_cases h : k' = k
    · subst h
      by_cases hj : j = k'
      · simpa [SMap.erase, hj] using ih
      · rw [SMap.get_cons]
        simp only [SMap.erase, if_pos]
        rw [ih]
        simp [hj, Ne.symm hj]
    · simp only [SMap.erase, if_neg h, SMap.get_cons, ih]
      by_cases hk : k' = j
      · subst hk; simp [h]
      · simp [hk]

/-- An inserted key reads as its value, every other key as before. -/
theorem SMap.get_insert (d : α) (m : SMap α) (k j : Nat) (v : α) :
    SMap.get d (SMap.insert m k v) j = if j = k then v else SMap.get d m j := by
  induction m with
  | nil => simp [SMap.insert, SMap.get_cons, eq_comm]
  | cons p m ih =>
    obtain ⟨k', v'⟩ := p
    simp only [SMap.insert]
    split
    · simp [SMap.get_cons, eq_comm]
    · split
      · rename_i h; subst h
        by_cases hj : j = k <;> simp [SMap.get_cons, hj, Ne.symm]
      · rename_i h1 h2
        simp only [SMap.get_cons, ih]
        by_cases hk : k' = j
        · subst hk; simp [Ne.symm h2]
        · simp [hk]

variable [DecidableEq α]

/-- Read after write: the written key reads as the value. -/
@[simp] theorem SMap.get_put_same (d : α) (m : SMap α) (k : Nat) (v : α) : SMap.get d (SMap.put d m k v) k = v := by
  unfold SMap.put; split
  · rename_i h; simp [SMap.get_erase, h]
  · simp [SMap.get_insert]

/-- A write leaves every other key alone, whatever default it is read with. -/
theorem SMap.get_put_ne (d e : α) (m : SMap α) {k j : Nat} (v : α) (h : j ≠ k) : SMap.get e (SMap.put d m k v) j = SMap.get e m j := by
  unfold SMap.put; split
  · simp [SMap.get_erase, h]
  · simp [SMap.get_insert, h]

/-- Both at once, with one default. -/
theorem SMap.get_put (d : α) (m : SMap α) (k j : Nat) (v : α) : SMap.get d (SMap.put d m k v) j = if j = k then v else SMap.get d m j := by
  by_cases h : j = k
  · subst h; simp
  · simp [h, SMap.get_put_ne]

omit [DecidableEq α] in
/-- What a filter by key keeps. -/
theorem SMap.get_filter (d : α) (m : SMap α) (p : Nat → Bool) (k : Nat) :
    SMap.get d (m.filter (fun q => p q.1)) k = if p k then SMap.get d m k else d := by
  induction m with
  | nil => simp
  | cons q m ih =>
    obtain ⟨k', v⟩ := q
    by_cases hk : k' = k
    · subst hk
      cases hp : p k' <;> simp [hp, SMap.get_cons, ih]
    · cases hp : p k' <;> simp [hp, SMap.get_cons, ih, hk]

/-! ### The canonical form -/

/-- Keys strictly rise, and no entry is its key's default. -/
theorem SMap.wf_cons (d : Nat → α) (k : Nat) (v : α) (m : SMap α) :
    SMap.wf d ((k, v) :: m) = true ↔ v ≠ d k ∧ (∀ q ∈ m, k < q.1) ∧ SMap.wf d m = true := by
  induction m generalizing k v with
  | nil => simp [SMap.wf]
  | cons q m ih =>
    obtain ⟨k', v'⟩ := q
    simp only [SMap.wf, Bool.and_eq_true, decide_eq_true_eq, List.mem_cons, forall_eq_or_imp]
    constructor
    · rintro ⟨⟨h1, h2⟩, h3⟩
      exact ⟨h2, ⟨h1, fun q hq => Nat.lt_trans h1 (((ih k' v').1 h3).2.1 q hq)⟩, h3⟩
    · rintro ⟨h2, ⟨h1, _⟩, h3⟩
      exact ⟨⟨h1, h2⟩, h3⟩

omit [DecidableEq α] in
theorem SMap.mem_erase {m : SMap α} {k : Nat} {q : Nat × α} (h : q ∈ SMap.erase m k) : q ∈ m ∧ q.1 ≠ k := by
  induction m with
  | nil => simp [SMap.erase] at h
  | cons p m ih =>
    obtain ⟨k', v⟩ := p
    simp only [SMap.erase] at h
    split at h
    · exact ⟨List.mem_cons_of_mem _ (ih h).1, (ih h).2⟩
    · rcases List.mem_cons.1 h with h | h
      · subst h; exact ⟨List.mem_cons_self .., by assumption⟩
      · exact ⟨List.mem_cons_of_mem _ (ih h).1, (ih h).2⟩

omit [DecidableEq α] in
theorem SMap.mem_insert {m : SMap α} {k : Nat} {v : α} {q : Nat × α} (h : q ∈ SMap.insert m k v) : q = (k, v) ∨ q ∈ m := by
  induction m with
  | nil => simpa [SMap.insert] using h
  | cons p m ih =>
    obtain ⟨k', v'⟩ := p
    simp only [SMap.insert] at h
    split at h
    · simpa using h
    · split at h
      · rcases List.mem_cons.1 h with h | h
        · exact .inl h
        · exact .inr (List.mem_cons_of_mem _ h)
      · rcases List.mem_cons.1 h with h | h
        · exact .inr (h ▸ List.mem_cons_self ..)
        · exact (ih h).imp id (List.mem_cons_of_mem _)

theorem SMap.wf_erase (d : Nat → α) (m : SMap α) (k : Nat) (h : SMap.wf d m = true) : SMap.wf d (SMap.erase m k) = true := by
  induction m with
  | nil => simp [SMap.erase, SMap.wf]
  | cons p m ih =>
    obtain ⟨k', v⟩ := p
    obtain ⟨hv, hlt, hm⟩ := (SMap.wf_cons d k' v m).1 h
    simp only [SMap.erase]
    split
    · exact ih hm
    · exact (SMap.wf_cons ..).2 ⟨hv, fun q hq => hlt q (SMap.mem_erase hq).1, ih hm⟩

theorem SMap.wf_insert (d : Nat → α) (m : SMap α) (k : Nat) (v : α) (hd : v ≠ d k) (h : SMap.wf d m = true) :
    SMap.wf d (SMap.insert m k v) = true := by
  induction m with
  | nil => simpa [SMap.insert, SMap.wf] using hd
  | cons p m ih =>
    obtain ⟨k', v'⟩ := p
    obtain ⟨hv, hlt, hm⟩ := (SMap.wf_cons d k' v' m).1 h
    simp only [SMap.insert]
    split
    · rename_i hk
      refine (SMap.wf_cons ..).2 ⟨hd, fun q hq => ?_, h⟩
      rcases List.mem_cons.1 hq with rfl | hq
      · exact hk
      · exact Nat.lt_trans hk (hlt q hq)
    · split
      · rename_i hk; subst hk
        exact (SMap.wf_cons ..).2 ⟨hd, hlt, hm⟩
      · rename_i h1 h2
        refine (SMap.wf_cons ..).2 ⟨hv, fun q hq => ?_, ih hm⟩
        rcases SMap.mem_insert hq with rfl | hq
        · exact Nat.lt_of_le_of_ne (Nat.le_of_not_lt h1) (Ne.symm h2)
        · exact hlt q hq

/-- A write keeps the canonical form. -/
theorem SMap.wf_put (d : Nat → α) (m : SMap α) (k : Nat) (v : α) (h : SMap.wf d m = true) : SMap.wf d (SMap.put (d k) m k v) = true := by
  unfold SMap.put; split
  · exact SMap.wf_erase d m k h
  · exact SMap.wf_insert d m k v ‹_› h

/-- A filter keeps the canonical form. -/
theorem SMap.wf_filter (d : Nat → α) (m : SMap α) (p : Nat × α → Bool) (h : SMap.wf d m = true) : SMap.wf d (m.filter p) = true := by
  induction m with
  | nil => simp [SMap.wf]
  | cons q m ih =>
    obtain ⟨k, v⟩ := q
    obtain ⟨hv, hlt, hm⟩ := (SMap.wf_cons d k v m).1 h
    rw [List.filter_cons]
    split
    · exact (SMap.wf_cons ..).2 ⟨hv, fun q hq => hlt q (List.mem_filter.1 hq).1, ih hm⟩
    · exact ih hm

end Sys2Proof.Machine
end

