-- ==== Sys2Proof/Laws/Regs.lean ====
section
/-! SUPPORT. Laws of registers, fields and stack bytes: read after write, and that every write keeps the canonical forms. -/
namespace Sys2Proof.Machine

/-! ### Bits -/

theorem bitsAt_lt (v lo w : Nat) : bitsAt v lo w < 2 ^ w := Nat.mod_lt _ (Nat.two_pow_pos w)

/-- Bit i of a number is the core library's test. -/
theorem bitAt_eq (v i : Nat) : bitAt v i = v.testBit i := by
  rw [Bool.eq_iff_iff]
  simp [bitAt, Nat.testBit, Nat.shiftRight_eq_div_pow, Nat.and_comm 1, Nat.and_one_is_mod]

theorem testBit_bitsAt (v lo w i : Nat) : (bitsAt v lo w).testBit i = (decide (i < w) && v.testBit (lo + i)) := by
  simp [bitsAt, Nat.testBit_mod_two_pow, Nat.testBit_div_two_pow, Nat.add_comm i lo]

/-- Bits of a number with a field replaced. -/
theorem testBit_setBits (v lo w x i : Nat) :
    (setBits v lo w x).testBit i = if i < lo then v.testBit i else if i < lo + w then x.testBit (i - lo) else v.testBit i := by
  have h1 : v % 2 ^ lo < 2 ^ lo := Nat.mod_lt _ (Nat.two_pow_pos lo)
  have h2 : x % 2 ^ w < 2 ^ w := Nat.mod_lt _ (Nat.two_pow_pos w)
  have h : setBits v lo w x = 2 ^ lo * (2 ^ w * (v / 2 ^ (lo + w)) + x % 2 ^ w) + v % 2 ^ lo := by
    simp only [setBits, Nat.pow_add, Nat.mul_add]
    congr 1; congr 1
    · rw [Nat.mul_comm, Nat.mul_assoc]
    · rw [Nat.mul_comm]
  rw [h, Nat.testBit_two_pow_mul_add _ h1]
  split
  · rename_i hi; simp [Nat.testBit_mod_two_pow, hi]
  · rename_i hi
    rw [Nat.testBit_two_pow_mul_add _ h2]
    split
    · rename_i hw
      have : i < lo + w := by omega
      simp [Nat.testBit_mod_two_pow, hw, this]
    · rename_i hw
      have : ¬ i < lo + w := by omega
      simp only [this, if_false, Nat.testBit_div_two_pow]
      congr 1; omega

/-- A field just written reads as the value's low bits. -/
theorem bitsAt_setBits_same (v lo w x : Nat) : bitsAt (setBits v lo w x) lo w = x % 2 ^ w := by
  apply Nat.eq_of_testBit_eq; intro i
  rw [testBit_bitsAt, testBit_setBits, Nat.testBit_mod_two_pow]
  by_cases h : i < w
  · have h1 : ¬ lo + i < lo := by omega
    simp [h, h1]
  · simp [h]

/-- A field that does not overlap the one written reads as before. -/
theorem bitsAt_setBits_ne (v lo w x lo' w' : Nat) (h : lo' + w' ≤ lo ∨ lo + w ≤ lo') :
    bitsAt (setBits v lo w x) lo' w' = bitsAt v lo' w' := by
  apply Nat.eq_of_testBit_eq; intro i
  rw [testBit_bitsAt, testBit_bitsAt, testBit_setBits]
  by_cases hi : i < w'
  · by_cases h1 : lo' + i < lo
    · simp [h1]
    · have h2 : ¬ lo' + i < lo + w := by omega
      simp [h1, h2]
  · simp [hi]

/-- A field within 32 bits leaves a word a word. -/
theorem setBits_lt (v lo w x : Nat) (hv : v < 2 ^ 32) (h : lo + w ≤ 32) : setBits v lo w x < 2 ^ 32 := by
  apply Nat.lt_pow_two_of_testBit; intro i hi
  rw [testBit_setBits]
  have h1 : ¬ i < lo := by omega
  have h2 : ¬ i < lo + w := by omega
  simp only [h1, h2, if_false]
  exact Nat.testBit_lt_two_pow (Nat.lt_of_lt_of_le hv (Nat.pow_le_pow_right (by decide) hi))

@[simp] theorem b2n_mod_two (b : Bool) : b2n b % 2 = b2n b := by cases b <;> rfl
@[simp] theorem b2n_ne_zero (b : Bool) : (b2n b ≠ 0) = (b = true) := by cases b <;> simp [b2n]
@[simp] theorem b2n_true : b2n true = 1 := rfl
@[simp] theorem b2n_false : b2n false = 0 := rfl

/-! ### Registers and fields -/

/-- The register just written reads as the value. -/
@[simp] theorem rd_wr_same (s : State) (a : Nat) (v : Word) : (s.wr a v).rd a = v := SMap.get_put_same ..

/-- Every other register reads as before. -/
theorem rd_wr_ne (s : State) {a b : Nat} (v : Word) (h : b ≠ a) : (s.wr a v).rd b = s.rd b := SMap.get_put_ne _ _ _ _ h

theorem rd_wr (s : State) (a b : Nat) (v : Word) : (s.wr a v).rd b = if b = a then v else s.rd b := by
  by_cases h : b = a
  · subst h; simp
  · simp [h, rd_wr_ne]

/-- A field just written reads as the value's low bits. -/
theorem f_setF_same (s : State) (r : RF) (v : Nat) (h : r.lo + r.width ≤ 32) : (s.setF r v).f r = v % 2 ^ r.width := by
  have hs := setBits_lt (s.rd r.addr).toNat r.lo r.width v (s.rd r.addr).isLt h
  simp only [State.f, State.setF, rd_wr_same, BitVec.toNat_ofNat, Nat.mod_eq_of_lt hs, bitsAt_setBits_same]

/-- A field of another register, or one that does not overlap, reads as before. -/
theorem f_setF_ne (s : State) (r r' : RF) (v : Nat) (h : r.lo + r.width ≤ 32)
    (hne : r'.addr ≠ r.addr ∨ r'.lo + r'.width ≤ r.lo ∨ r.lo + r.width ≤ r'.lo) : (s.setF r v).f r' = s.f r' := by
  by_cases ha : r'.addr = r.addr
  · have hs := setBits_lt (s.rd r.addr).toNat r.lo r.width v (s.rd r.addr).isLt h
    simp only [State.f, State.setF, ha, rd_wr_same, BitVec.toNat_ofNat, Nat.mod_eq_of_lt hs]
    exact bitsAt_setBits_ne _ _ _ _ _ _ (hne.resolve_left (fun h => h ha))
  · simp only [State.f, State.setF, rd_wr_ne _ _ ha]

/-- A field of another register reads as before, whatever is written. -/
theorem f_wr_ne (s : State) (r : RF) {a : Nat} (v : Word) (h : r.addr ≠ a) : (s.wr a v).f r = s.f r := by
  simp only [State.f, rd_wr_ne _ _ h]

/-- A register other than the field's reads as before. -/
theorem rd_setF_ne (s : State) (r : RF) (v : Nat) {a : Nat} (h : a ≠ r.addr) : (s.setF r v).rd a = s.rd a := rd_wr_ne _ _ h
theorem rd_setFlag_ne (s : State) (r : RF) (b : Bool) {a : Nat} (h : a ≠ r.addr) : (s.setFlag r b).rd a = s.rd a := rd_wr_ne _ _ h
theorem rd_satInc_ne (s : State) (r : RF) {a : Nat} (h : a ≠ r.addr) : (s.satInc r).rd a = s.rd a := rd_wr_ne _ _ h

/-- A flag just written reads as it was written. -/
theorem flag_setFlag_same (s : State) (r : RF) (b : Bool) (h : r.lo + r.width ≤ 32) (hw : r.width ≠ 0) : (s.setFlag r b).flag r = b := by
  have hp : (2 : Nat) ≤ 2 ^ r.width := by
    calc (2 : Nat) = 2 ^ 1 := rfl
      _ ≤ 2 ^ r.width := Nat.pow_le_pow_right (by decide) (Nat.one_le_iff_ne_zero.2 hw)
  have hb : b2n b % 2 ^ r.width = b2n b := Nat.mod_eq_of_lt (by cases b <;> simp [b2n] <;> omega)
  simp only [State.flag, State.setFlag, f_setF_same _ _ _ h, hb]
  cases b <;> rfl

/-- Another flag reads as before. -/
theorem flag_setF_ne (s : State) (r r' : RF) (v : Nat) (h : r.lo + r.width ≤ 32)
    (hne : r'.addr ≠ r.addr ∨ r'.lo + r'.width ≤ r.lo ∨ r.lo + r.width ≤ r'.lo) : (s.setF r v).flag r' = s.flag r' := by
  simp only [State.flag, f_setF_ne s r r' v h hne]
theorem flag_setFlag_ne (s : State) (r r' : RF) (b : Bool) (h : r.lo + r.width ≤ 32)
    (hne : r'.addr ≠ r.addr ∨ r'.lo + r'.width ≤ r.lo ∨ r.lo + r.width ≤ r'.lo) : (s.setFlag r b).flag r' = s.flag r' :=
  flag_setF_ne s r r' _ h hne

/-- A counter counts up to its maximum (R616). -/
theorem f_satInc_same (s : State) (r : RF) (h : r.lo + r.width ≤ 32) : (s.satInc r).f r = satAdd (2 ^ r.width - 1) (s.f r) 1 := by
  have hp := Nat.two_pow_pos r.width
  rw [State.satInc, f_setF_same _ _ _ h]
  exact Nat.mod_eq_of_lt (Nat.lt_of_le_of_lt (Nat.min_le_left ..) (by omega))

/-! ### Bytes of the stacks -/

@[simp] theorem ldByte_stByte_same (s : State) (a : Nat) (b : Byte) : (s.stByte a b).ldByte a = b := SMap.get_put_same ..
theorem ldByte_stByte_ne (s : State) {a a' : Nat} (b : Byte) (h : a' ≠ a) : (s.stByte a b).ldByte a' = s.ldByte a' := SMap.get_put_ne _ _ _ _ h

/-- A byte outside a stored run reads as before. -/
theorem ldByte_stBytes_ne (bs : List Byte) : ∀ (s : State) (a a' : Nat), (a' < a ∨ a + bs.length ≤ a') →
    (s.stBytes a bs).ldByte a' = s.ldByte a' := by
  induction bs with
  | nil => intros; rfl
  | cons b bs ih =>
    intro s a a' h
    simp only [List.length_cons] at h
    rw [State.stBytes, ih _ _ _ (by omega), ldByte_stByte_ne _ _ (by omega)]

/-- A byte of a stored run reads as stored. -/
theorem ldByte_stBytes_in (bs : List Byte) : ∀ (s : State) (a i : Nat) (h : i < bs.length), (s.stBytes a bs).ldByte (a + i) = bs[i] := by
  induction bs with
  | nil => intro s a i h; simp at h
  | cons b bs ih =>
    intro s a i h
    cases i with
    | zero =>
      rw [State.stBytes, ldByte_stBytes_ne _ _ _ _ (by omega)]
      simp
    | succ i =>
      have := ih (s.stByte a b) (a + 1) i (by simpa using h)
      rw [State.stBytes, show a + (i + 1) = a + 1 + i by omega, this]
      simp

@[simp] theorem length_ldBytes (s : State) (a n : Nat) : (s.ldBytes a n).length = n := by simp [State.ldBytes]

/-! ### The canonical forms -/

/-- A register write keeps the map canonical. -/
theorem regs_wf_wr (s : State) (a : Nat) (v : Word) (h : Regs.wf s.regs = true) : Regs.wf (s.wr a v).regs = true :=
  SMap.wf_put Reg.resetOf s.regs a v h

/-- A stored byte keeps the stacks canonical. -/
theorem mem_wf_stByte (s : State) (a : Nat) (b : Byte) (h : Memory.wf s.mem = true) : Memory.wf (s.stByte a b).mem = true :=
  SMap.wf_put (fun _ => (0 : Byte)) s.mem a b h

/-- A stored run keeps the stacks canonical. -/
theorem mem_wf_stBytes (bs : List Byte) : ∀ (s : State) (a : Nat), Memory.wf s.mem = true → Memory.wf (s.stBytes a bs).mem = true := by
  induction bs with
  | nil => intro s a h; exact h
  | cons b bs ih => intro s a h; exact ih _ _ (mem_wf_stByte s a b h)

end Sys2Proof.Machine
end

