-- ==== Sys2Proof/Laws/State.lean ====
section
/-! SUPPORT. One law per field of State and per update: the field an update writes has the value written, every other field and
every reading of another field is as it was. -/
namespace Sys2Proof.Machine

/-! ### wr -/

@[simp] theorem wr_mem (s : State) (a : Nat) (v : Word) : (s.wr a v).mem = s.mem := rfl
@[simp] theorem wr_pending (s : State) (a : Nat) (v : Word) : (s.wr a v).pending = s.pending := rfl
@[simp] theorem wr_fresh (s : State) (a : Nat) (v : Word) : (s.wr a v).fresh = s.fresh := rfl
@[simp] theorem wr_now (s : State) (a : Nat) (v : Word) : (s.wr a v).now = s.now := rfl
@[simp] theorem wr_out (s : State) (a : Nat) (v : Word) : (s.wr a v).out = s.out := rfl
@[simp] theorem wr_sys (s : State) (a : Nat) (v : Word) : (s.wr a v).sys = s.sys := rfl
@[simp] theorem wr_chans (s : State) (a : Nat) (v : Word) : (s.wr a v).chans = s.chans := rfl
@[simp] theorem wr_ctxs (s : State) (a : Nat) (v : Word) : (s.wr a v).ctxs = s.ctxs := rfl
@[simp] theorem wr_fcl (s : State) (a : Nat) (v : Word) : (s.wr a v).fcl = s.fcl := rfl
@[simp] theorem wr_arch (s : State) (a : Nat) (v : Word) : (s.wr a v).arch = s.arch := rfl
@[simp] theorem wr_sec (s : State) (a : Nat) (v : Word) : (s.wr a v).sec = s.sec := rfl
@[simp] theorem wr_ldg (s : State) (a : Nat) (v : Word) : (s.wr a v).ldg = s.ldg := rfl
@[simp] theorem wr_clk (s : State) (a : Nat) (v : Word) : (s.wr a v).clk = s.clk := rfl
@[simp] theorem wr_ntm (s : State) (a : Nat) (v : Word) : (s.wr a v).ntm = s.ntm := rfl
@[simp] theorem wr_meter (s : State) (a : Nat) (v : Word) : (s.wr a v).meter = s.meter := rfl
@[simp] theorem wr_pmus (s : State) (a : Nat) (v : Word) : (s.wr a v).pmus = s.pmus := rfl
@[simp] theorem wr_acqs (s : State) (a : Nat) (v : Word) : (s.wr a v).acqs = s.acqs := rfl
@[simp] theorem wr_tims (s : State) (a : Nat) (v : Word) : (s.wr a v).tims = s.tims := rfl
@[simp] theorem wr_tb (s : State) (a : Nat) (v : Word) : (s.wr a v).tb = s.tb := rfl
@[simp] theorem wr_stks (s : State) (a : Nat) (v : Word) : (s.wr a v).stks = s.stks := rfl
@[simp] theorem wr_bad (s : State) (a : Nat) (v : Word) : (s.wr a v).bad = s.bad := rfl
@[simp] theorem wr_stkLog (s : State) (a : Nat) (v : Word) : (s.wr a v).stkLog = s.stkLog := rfl
@[simp] theorem wr_lib (s : State) (a : Nat) (v : Word) : (s.wr a v).lib = s.lib := rfl
@[simp] theorem wr_hp (s : State) (a : Nat) (v : Word) : (s.wr a v).hp = s.hp := rfl
@[simp] theorem wr_ports (s : State) (a : Nat) (v : Word) : (s.wr a v).ports = s.ports := rfl
@[simp] theorem wr_dlanes (s : State) (a : Nat) (v : Word) : (s.wr a v).dlanes = s.dlanes := rfl
@[simp] theorem wr_grp (s : State) (a : Nat) (v : Word) : (s.wr a v).grp = s.grp := rfl
@[simp] theorem wr_wks (s : State) (a : Nat) (v : Word) : (s.wr a v).wks = s.wks := rfl
@[simp] theorem wr_cals (s : State) (a : Nat) (v : Word) : (s.wr a v).cals = s.cals := rfl
@[simp] theorem wr_corrs (s : State) (a : Nat) (v : Word) : (s.wr a v).corrs = s.corrs := rfl
@[simp] theorem wr_gates (s : State) (a : Nat) (v : Word) : (s.wr a v).gates = s.gates := rfl
@[simp] theorem wr_tap (s : State) (a : Nat) (v : Word) : (s.wr a v).tap = s.tap := rfl
@[simp] theorem wr_ist (s : State) (a : Nat) (v : Word) : (s.wr a v).ist = s.ist := rfl
@[simp] theorem wr_wo1 (s : State) (a : Nat) (v : Word) : (s.wr a v).wo1 = s.wo1 := rfl
@[simp] theorem wr_ldByte (s : State) (a : Nat) (v : Word) (i : Nat) : (s.wr a v).ldByte i = s.ldByte i := rfl
@[simp] theorem wr_chan (s : State) (a : Nat) (v : Word) (i : Nat) : (s.wr a v).chan i = s.chan i := rfl
@[simp] theorem wr_ctx (s : State) (a : Nat) (v : Word) (i : Nat) : (s.wr a v).ctx i = s.ctx i := rfl
@[simp] theorem wr_freeBits (s : State) (a : Nat) (v : Word) (i : Nat) : (s.wr a v).freeBits i = s.freeBits i := rfl

/-! ### setF -/

@[simp] theorem setF_mem (s : State) (r : RF) (v : Nat) : (s.setF r v).mem = s.mem := rfl
@[simp] theorem setF_pending (s : State) (r : RF) (v : Nat) : (s.setF r v).pending = s.pending := rfl
@[simp] theorem setF_fresh (s : State) (r : RF) (v : Nat) : (s.setF r v).fresh = s.fresh := rfl
@[simp] theorem setF_now (s : State) (r : RF) (v : Nat) : (s.setF r v).now = s.now := rfl
@[simp] theorem setF_out (s : State) (r : RF) (v : Nat) : (s.setF r v).out = s.out := rfl
@[simp] theorem setF_sys (s : State) (r : RF) (v : Nat) : (s.setF r v).sys = s.sys := rfl
@[simp] theorem setF_chans (s : State) (r : RF) (v : Nat) : (s.setF r v).chans = s.chans := rfl
@[simp] theorem setF_ctxs (s : State) (r : RF) (v : Nat) : (s.setF r v).ctxs = s.ctxs := rfl
@[simp] theorem setF_fcl (s : State) (r : RF) (v : Nat) : (s.setF r v).fcl = s.fcl := rfl
@[simp] theorem setF_arch (s : State) (r : RF) (v : Nat) : (s.setF r v).arch = s.arch := rfl
@[simp] theorem setF_sec (s : State) (r : RF) (v : Nat) : (s.setF r v).sec = s.sec := rfl
@[simp] theorem setF_ldg (s : State) (r : RF) (v : Nat) : (s.setF r v).ldg = s.ldg := rfl
@[simp] theorem setF_clk (s : State) (r : RF) (v : Nat) : (s.setF r v).clk = s.clk := rfl
@[simp] theorem setF_ntm (s : State) (r : RF) (v : Nat) : (s.setF r v).ntm = s.ntm := rfl
@[simp] theorem setF_meter (s : State) (r : RF) (v : Nat) : (s.setF r v).meter = s.meter := rfl
@[simp] theorem setF_pmus (s : State) (r : RF) (v : Nat) : (s.setF r v).pmus = s.pmus := rfl
@[simp] theorem setF_acqs (s : State) (r : RF) (v : Nat) : (s.setF r v).acqs = s.acqs := rfl
@[simp] theorem setF_tims (s : State) (r : RF) (v : Nat) : (s.setF r v).tims = s.tims := rfl
@[simp] theorem setF_tb (s : State) (r : RF) (v : Nat) : (s.setF r v).tb = s.tb := rfl
@[simp] theorem setF_stks (s : State) (r : RF) (v : Nat) : (s.setF r v).stks = s.stks := rfl
@[simp] theorem setF_bad (s : State) (r : RF) (v : Nat) : (s.setF r v).bad = s.bad := rfl
@[simp] theorem setF_stkLog (s : State) (r : RF) (v : Nat) : (s.setF r v).stkLog = s.stkLog := rfl
@[simp] theorem setF_lib (s : State) (r : RF) (v : Nat) : (s.setF r v).lib = s.lib := rfl
@[simp] theorem setF_hp (s : State) (r : RF) (v : Nat) : (s.setF r v).hp = s.hp := rfl
@[simp] theorem setF_ports (s : State) (r : RF) (v : Nat) : (s.setF r v).ports = s.ports := rfl
@[simp] theorem setF_dlanes (s : State) (r : RF) (v : Nat) : (s.setF r v).dlanes = s.dlanes := rfl
@[simp] theorem setF_grp (s : State) (r : RF) (v : Nat) : (s.setF r v).grp = s.grp := rfl
@[simp] theorem setF_wks (s : State) (r : RF) (v : Nat) : (s.setF r v).wks = s.wks := rfl
@[simp] theorem setF_cals (s : State) (r : RF) (v : Nat) : (s.setF r v).cals = s.cals := rfl
@[simp] theorem setF_corrs (s : State) (r : RF) (v : Nat) : (s.setF r v).corrs = s.corrs := rfl
@[simp] theorem setF_gates (s : State) (r : RF) (v : Nat) : (s.setF r v).gates = s.gates := rfl
@[simp] theorem setF_tap (s : State) (r : RF) (v : Nat) : (s.setF r v).tap = s.tap := rfl
@[simp] theorem setF_ist (s : State) (r : RF) (v : Nat) : (s.setF r v).ist = s.ist := rfl
@[simp] theorem setF_wo1 (s : State) (r : RF) (v : Nat) : (s.setF r v).wo1 = s.wo1 := rfl
@[simp] theorem setF_ldByte (s : State) (r : RF) (v : Nat) (i : Nat) : (s.setF r v).ldByte i = s.ldByte i := rfl
@[simp] theorem setF_chan (s : State) (r : RF) (v : Nat) (i : Nat) : (s.setF r v).chan i = s.chan i := rfl
@[simp] theorem setF_ctx (s : State) (r : RF) (v : Nat) (i : Nat) : (s.setF r v).ctx i = s.ctx i := rfl
@[simp] theorem setF_freeBits (s : State) (r : RF) (v : Nat) (i : Nat) : (s.setF r v).freeBits i = s.freeBits i := rfl

/-! ### setFlag -/

@[simp] theorem setFlag_mem (s : State) (r : RF) (b : Bool) : (s.setFlag r b).mem = s.mem := rfl
@[simp] theorem setFlag_pending (s : State) (r : RF) (b : Bool) : (s.setFlag r b).pending = s.pending := rfl
@[simp] theorem setFlag_fresh (s : State) (r : RF) (b : Bool) : (s.setFlag r b).fresh = s.fresh := rfl
@[simp] theorem setFlag_now (s : State) (r : RF) (b : Bool) : (s.setFlag r b).now = s.now := rfl
@[simp] theorem setFlag_out (s : State) (r : RF) (b : Bool) : (s.setFlag r b).out = s.out := rfl
@[simp] theorem setFlag_sys (s : State) (r : RF) (b : Bool) : (s.setFlag r b).sys = s.sys := rfl
@[simp] theorem setFlag_chans (s : State) (r : RF) (b : Bool) : (s.setFlag r b).chans = s.chans := rfl
@[simp] theorem setFlag_ctxs (s : State) (r : RF) (b : Bool) : (s.setFlag r b).ctxs = s.ctxs := rfl
@[simp] theorem setFlag_fcl (s : State) (r : RF) (b : Bool) : (s.setFlag r b).fcl = s.fcl := rfl
@[simp] theorem setFlag_arch (s : State) (r : RF) (b : Bool) : (s.setFlag r b).arch = s.arch := rfl
@[simp] theorem setFlag_sec (s : State) (r : RF) (b : Bool) : (s.setFlag r b).sec = s.sec := rfl
@[simp] theorem setFlag_ldg (s : State) (r : RF) (b : Bool) : (s.setFlag r b).ldg = s.ldg := rfl
@[simp] theorem setFlag_clk (s : State) (r : RF) (b : Bool) : (s.setFlag r b).clk = s.clk := rfl
@[simp] theorem setFlag_ntm (s : State) (r : RF) (b : Bool) : (s.setFlag r b).ntm = s.ntm := rfl
@[simp] theorem setFlag_meter (s : State) (r : RF) (b : Bool) : (s.setFlag r b).meter = s.meter := rfl
@[simp] theorem setFlag_pmus (s : State) (r : RF) (b : Bool) : (s.setFlag r b).pmus = s.pmus := rfl
@[simp] theorem setFlag_acqs (s : State) (r : RF) (b : Bool) : (s.setFlag r b).acqs = s.acqs := rfl
@[simp] theorem setFlag_tims (s : State) (r : RF) (b : Bool) : (s.setFlag r b).tims = s.tims := rfl
@[simp] theorem setFlag_tb (s : State) (r : RF) (b : Bool) : (s.setFlag r b).tb = s.tb := rfl
@[simp] theorem setFlag_stks (s : State) (r : RF) (b : Bool) : (s.setFlag r b).stks = s.stks := rfl
@[simp] theorem setFlag_bad (s : State) (r : RF) (b : Bool) : (s.setFlag r b).bad = s.bad := rfl
@[simp] theorem setFlag_stkLog (s : State) (r : RF) (b : Bool) : (s.setFlag r b).stkLog = s.stkLog := rfl
@[simp] theorem setFlag_lib (s : State) (r : RF) (b : Bool) : (s.setFlag r b).lib = s.lib := rfl
@[simp] theorem setFlag_hp (s : State) (r : RF) (b : Bool) : (s.setFlag r b).hp = s.hp := rfl
@[simp] theorem setFlag_ports (s : State) (r : RF) (b : Bool) : (s.setFlag r b).ports = s.ports := rfl
@[simp] theorem setFlag_dlanes (s : State) (r : RF) (b : Bool) : (s.setFlag r b).dlanes = s.dlanes := rfl
@[simp] theorem setFlag_grp (s : State) (r : RF) (b : Bool) : (s.setFlag r b).grp = s.grp := rfl
@[simp] theorem setFlag_wks (s : State) (r : RF) (b : Bool) : (s.setFlag r b).wks = s.wks := rfl
@[simp] theorem setFlag_cals (s : State) (r : RF) (b : Bool) : (s.setFlag r b).cals = s.cals := rfl
@[simp] theorem setFlag_corrs (s : State) (r : RF) (b : Bool) : (s.setFlag r b).corrs = s.corrs := rfl
@[simp] theorem setFlag_gates (s : State) (r : RF) (b : Bool) : (s.setFlag r b).gates = s.gates := rfl
@[simp] theorem setFlag_tap (s : State) (r : RF) (b : Bool) : (s.setFlag r b).tap = s.tap := rfl
@[simp] theorem setFlag_ist (s : State) (r : RF) (b : Bool) : (s.setFlag r b).ist = s.ist := rfl
@[simp] theorem setFlag_wo1 (s : State) (r : RF) (b : Bool) : (s.setFlag r b).wo1 = s.wo1 := rfl
@[simp] theorem setFlag_ldByte (s : State) (r : RF) (b : Bool) (i : Nat) : (s.setFlag r b).ldByte i = s.ldByte i := rfl
@[simp] theorem setFlag_chan (s : State) (r : RF) (b : Bool) (i : Nat) : (s.setFlag r b).chan i = s.chan i := rfl
@[simp] theorem setFlag_ctx (s : State) (r : RF) (b : Bool) (i : Nat) : (s.setFlag r b).ctx i = s.ctx i := rfl
@[simp] theorem setFlag_freeBits (s : State) (r : RF) (b : Bool) (i : Nat) : (s.setFlag r b).freeBits i = s.freeBits i := rfl

/-! ### satInc -/

@[simp] theorem satInc_mem (s : State) (r : RF) : (s.satInc r).mem = s.mem := rfl
@[simp] theorem satInc_pending (s : State) (r : RF) : (s.satInc r).pending = s.pending := rfl
@[simp] theorem satInc_fresh (s : State) (r : RF) : (s.satInc r).fresh = s.fresh := rfl
@[simp] theorem satInc_now (s : State) (r : RF) : (s.satInc r).now = s.now := rfl
@[simp] theorem satInc_out (s : State) (r : RF) : (s.satInc r).out = s.out := rfl
@[simp] theorem satInc_sys (s : State) (r : RF) : (s.satInc r).sys = s.sys := rfl
@[simp] theorem satInc_chans (s : State) (r : RF) : (s.satInc r).chans = s.chans := rfl
@[simp] theorem satInc_ctxs (s : State) (r : RF) : (s.satInc r).ctxs = s.ctxs := rfl
@[simp] theorem satInc_fcl (s : State) (r : RF) : (s.satInc r).fcl = s.fcl := rfl
@[simp] theorem satInc_arch (s : State) (r : RF) : (s.satInc r).arch = s.arch := rfl
@[simp] theorem satInc_sec (s : State) (r : RF) : (s.satInc r).sec = s.sec := rfl
@[simp] theorem satInc_ldg (s : State) (r : RF) : (s.satInc r).ldg = s.ldg := rfl
@[simp] theorem satInc_clk (s : State) (r : RF) : (s.satInc r).clk = s.clk := rfl
@[simp] theorem satInc_ntm (s : State) (r : RF) : (s.satInc r).ntm = s.ntm := rfl
@[simp] theorem satInc_meter (s : State) (r : RF) : (s.satInc r).meter = s.meter := rfl
@[simp] theorem satInc_pmus (s : State) (r : RF) : (s.satInc r).pmus = s.pmus := rfl
@[simp] theorem satInc_acqs (s : State) (r : RF) : (s.satInc r).acqs = s.acqs := rfl
@[simp] theorem satInc_tims (s : State) (r : RF) : (s.satInc r).tims = s.tims := rfl
@[simp] theorem satInc_tb (s : State) (r : RF) : (s.satInc r).tb = s.tb := rfl
@[simp] theorem satInc_stks (s : State) (r : RF) : (s.satInc r).stks = s.stks := rfl
@[simp] theorem satInc_bad (s : State) (r : RF) : (s.satInc r).bad = s.bad := rfl
@[simp] theorem satInc_stkLog (s : State) (r : RF) : (s.satInc r).stkLog = s.stkLog := rfl
@[simp] theorem satInc_lib (s : State) (r : RF) : (s.satInc r).lib = s.lib := rfl
@[simp] theorem satInc_hp (s : State) (r : RF) : (s.satInc r).hp = s.hp := rfl
@[simp] theorem satInc_ports (s : State) (r : RF) : (s.satInc r).ports = s.ports := rfl
@[simp] theorem satInc_dlanes (s : State) (r : RF) : (s.satInc r).dlanes = s.dlanes := rfl
@[simp] theorem satInc_grp (s : State) (r : RF) : (s.satInc r).grp = s.grp := rfl
@[simp] theorem satInc_wks (s : State) (r : RF) : (s.satInc r).wks = s.wks := rfl
@[simp] theorem satInc_cals (s : State) (r : RF) : (s.satInc r).cals = s.cals := rfl
@[simp] theorem satInc_corrs (s : State) (r : RF) : (s.satInc r).corrs = s.corrs := rfl
@[simp] theorem satInc_gates (s : State) (r : RF) : (s.satInc r).gates = s.gates := rfl
@[simp] theorem satInc_tap (s : State) (r : RF) : (s.satInc r).tap = s.tap := rfl
@[simp] theorem satInc_ist (s : State) (r : RF) : (s.satInc r).ist = s.ist := rfl
@[simp] theorem satInc_wo1 (s : State) (r : RF) : (s.satInc r).wo1 = s.wo1 := rfl
@[simp] theorem satInc_ldByte (s : State) (r : RF) (i : Nat) : (s.satInc r).ldByte i = s.ldByte i := rfl
@[simp] theorem satInc_chan (s : State) (r : RF) (i : Nat) : (s.satInc r).chan i = s.chan i := rfl
@[simp] theorem satInc_ctx (s : State) (r : RF) (i : Nat) : (s.satInc r).ctx i = s.ctx i := rfl
@[simp] theorem satInc_freeBits (s : State) (r : RF) (i : Nat) : (s.satInc r).freeBits i = s.freeBits i := rfl

/-! ### emit -/

@[simp] theorem emit_regs (s : State) (o : Out) : (s.emit o).regs = s.regs := rfl
@[simp] theorem emit_mem (s : State) (o : Out) : (s.emit o).mem = s.mem := rfl
@[simp] theorem emit_pending (s : State) (o : Out) : (s.emit o).pending = s.pending := rfl
@[simp] theorem emit_fresh (s : State) (o : Out) : (s.emit o).fresh = s.fresh := rfl
@[simp] theorem emit_now (s : State) (o : Out) : (s.emit o).now = s.now := rfl
@[simp] theorem emit_sys (s : State) (o : Out) : (s.emit o).sys = s.sys := rfl
@[simp] theorem emit_chans (s : State) (o : Out) : (s.emit o).chans = s.chans := rfl
@[simp] theorem emit_ctxs (s : State) (o : Out) : (s.emit o).ctxs = s.ctxs := rfl
@[simp] theorem emit_fcl (s : State) (o : Out) : (s.emit o).fcl = s.fcl := rfl
@[simp] theorem emit_arch (s : State) (o : Out) : (s.emit o).arch = s.arch := rfl
@[simp] theorem emit_sec (s : State) (o : Out) : (s.emit o).sec = s.sec := rfl
@[simp] theorem emit_ldg (s : State) (o : Out) : (s.emit o).ldg = s.ldg := rfl
@[simp] theorem emit_clk (s : State) (o : Out) : (s.emit o).clk = s.clk := rfl
@[simp] theorem emit_ntm (s : State) (o : Out) : (s.emit o).ntm = s.ntm := rfl
@[simp] theorem emit_meter (s : State) (o : Out) : (s.emit o).meter = s.meter := rfl
@[simp] theorem emit_pmus (s : State) (o : Out) : (s.emit o).pmus = s.pmus := rfl
@[simp] theorem emit_acqs (s : State) (o : Out) : (s.emit o).acqs = s.acqs := rfl
@[simp] theorem emit_tims (s : State) (o : Out) : (s.emit o).tims = s.tims := rfl
@[simp] theorem emit_tb (s : State) (o : Out) : (s.emit o).tb = s.tb := rfl
@[simp] theorem emit_stks (s : State) (o : Out) : (s.emit o).stks = s.stks := rfl
@[simp] theorem emit_bad (s : State) (o : Out) : (s.emit o).bad = s.bad := rfl
@[simp] theorem emit_stkLog (s : State) (o : Out) : (s.emit o).stkLog = s.stkLog := rfl
@[simp] theorem emit_lib (s : State) (o : Out) : (s.emit o).lib = s.lib := rfl
@[simp] theorem emit_hp (s : State) (o : Out) : (s.emit o).hp = s.hp := rfl
@[simp] theorem emit_ports (s : State) (o : Out) : (s.emit o).ports = s.ports := rfl
@[simp] theorem emit_dlanes (s : State) (o : Out) : (s.emit o).dlanes = s.dlanes := rfl
@[simp] theorem emit_grp (s : State) (o : Out) : (s.emit o).grp = s.grp := rfl
@[simp] theorem emit_wks (s : State) (o : Out) : (s.emit o).wks = s.wks := rfl
@[simp] theorem emit_cals (s : State) (o : Out) : (s.emit o).cals = s.cals := rfl
@[simp] theorem emit_corrs (s : State) (o : Out) : (s.emit o).corrs = s.corrs := rfl
@[simp] theorem emit_gates (s : State) (o : Out) : (s.emit o).gates = s.gates := rfl
@[simp] theorem emit_tap (s : State) (o : Out) : (s.emit o).tap = s.tap := rfl
@[simp] theorem emit_ist (s : State) (o : Out) : (s.emit o).ist = s.ist := rfl
@[simp] theorem emit_wo1 (s : State) (o : Out) : (s.emit o).wo1 = s.wo1 := rfl
@[simp] theorem emit_rd (s : State) (o : Out) (i : Nat) : (s.emit o).rd i = s.rd i := rfl
@[simp] theorem emit_f (s : State) (o : Out) (i : RF) : (s.emit o).f i = s.f i := rfl
@[simp] theorem emit_flag (s : State) (o : Out) (i : RF) : (s.emit o).flag i = s.flag i := rfl
@[simp] theorem emit_ldByte (s : State) (o : Out) (i : Nat) : (s.emit o).ldByte i = s.ldByte i := rfl
@[simp] theorem emit_chan (s : State) (o : Out) (i : Nat) : (s.emit o).chan i = s.chan i := rfl
@[simp] theorem emit_ctx (s : State) (o : Out) (i : Nat) : (s.emit o).ctx i = s.ctx i := rfl
@[simp] theorem emit_freeBits (s : State) (o : Out) (i : Nat) : (s.emit o).freeBits i = s.freeBits i := rfl

/-! ### nextFree -/

@[simp] theorem nextFree_regs (s : State) : (s.nextFree).regs = s.regs := rfl
@[simp] theorem nextFree_mem (s : State) : (s.nextFree).mem = s.mem := rfl
@[simp] theorem nextFree_pending (s : State) : (s.nextFree).pending = s.pending := rfl
@[simp] theorem nextFree_now (s : State) : (s.nextFree).now = s.now := rfl
@[simp] theorem nextFree_out (s : State) : (s.nextFree).out = s.out := rfl
@[simp] theorem nextFree_sys (s : State) : (s.nextFree).sys = s.sys := rfl
@[simp] theorem nextFree_chans (s : State) : (s.nextFree).chans = s.chans := rfl
@[simp] theorem nextFree_ctxs (s : State) : (s.nextFree).ctxs = s.ctxs := rfl
@[simp] theorem nextFree_fcl (s : State) : (s.nextFree).fcl = s.fcl := rfl
@[simp] theorem nextFree_arch (s : State) : (s.nextFree).arch = s.arch := rfl
@[simp] theorem nextFree_sec (s : State) : (s.nextFree).sec = s.sec := rfl
@[simp] theorem nextFree_ldg (s : State) : (s.nextFree).ldg = s.ldg := rfl
@[simp] theorem nextFree_clk (s : State) : (s.nextFree).clk = s.clk := rfl
@[simp] theorem nextFree_ntm (s : State) : (s.nextFree).ntm = s.ntm := rfl
@[simp] theorem nextFree_meter (s : State) : (s.nextFree).meter = s.meter := rfl
@[simp] theorem nextFree_pmus (s : State) : (s.nextFree).pmus = s.pmus := rfl
@[simp] theorem nextFree_acqs (s : State) : (s.nextFree).acqs = s.acqs := rfl
@[simp] theorem nextFree_tims (s : State) : (s.nextFree).tims = s.tims := rfl
@[simp] theorem nextFree_tb (s : State) : (s.nextFree).tb = s.tb := rfl
@[simp] theorem nextFree_stks (s : State) : (s.nextFree).stks = s.stks := rfl
@[simp] theorem nextFree_bad (s : State) : (s.nextFree).bad = s.bad := rfl
@[simp] theorem nextFree_stkLog (s : State) : (s.nextFree).stkLog = s.stkLog := rfl
@[simp] theorem nextFree_lib (s : State) : (s.nextFree).lib = s.lib := rfl
@[simp] theorem nextFree_hp (s : State) : (s.nextFree).hp = s.hp := rfl
@[simp] theorem nextFree_ports (s : State) : (s.nextFree).ports = s.ports := rfl
@[simp] theorem nextFree_dlanes (s : State) : (s.nextFree).dlanes = s.dlanes := rfl
@[simp] theorem nextFree_grp (s : State) : (s.nextFree).grp = s.grp := rfl
@[simp] theorem nextFree_wks (s : State) : (s.nextFree).wks = s.wks := rfl
@[simp] theorem nextFree_cals (s : State) : (s.nextFree).cals = s.cals := rfl
@[simp] theorem nextFree_corrs (s : State) : (s.nextFree).corrs = s.corrs := rfl
@[simp] theorem nextFree_gates (s : State) : (s.nextFree).gates = s.gates := rfl
@[simp] theorem nextFree_tap (s : State) : (s.nextFree).tap = s.tap := rfl
@[simp] theorem nextFree_ist (s : State) : (s.nextFree).ist = s.ist := rfl
@[simp] theorem nextFree_wo1 (s : State) : (s.nextFree).wo1 = s.wo1 := rfl
@[simp] theorem nextFree_rd (s : State) (i : Nat) : (s.nextFree).rd i = s.rd i := rfl
@[simp] theorem nextFree_f (s : State) (i : RF) : (s.nextFree).f i = s.f i := rfl
@[simp] theorem nextFree_flag (s : State) (i : RF) : (s.nextFree).flag i = s.flag i := rfl
@[simp] theorem nextFree_ldByte (s : State) (i : Nat) : (s.nextFree).ldByte i = s.ldByte i := rfl
@[simp] theorem nextFree_chan (s : State) (i : Nat) : (s.nextFree).chan i = s.chan i := rfl
@[simp] theorem nextFree_ctx (s : State) (i : Nat) : (s.nextFree).ctx i = s.ctx i := rfl

/-! ### setChan -/

@[simp] theorem setChan_regs (s : State) (ch : Nat) (x : Chan) : (s.setChan ch x).regs = s.regs := rfl
@[simp] theorem setChan_mem (s : State) (ch : Nat) (x : Chan) : (s.setChan ch x).mem = s.mem := rfl
@[simp] theorem setChan_pending (s : State) (ch : Nat) (x : Chan) : (s.setChan ch x).pending = s.pending := rfl
@[simp] theorem setChan_fresh (s : State) (ch : Nat) (x : Chan) : (s.setChan ch x).fresh = s.fresh := rfl
@[simp] theorem setChan_now (s : State) (ch : Nat) (x : Chan) : (s.setChan ch x).now = s.now := rfl
@[simp] theorem setChan_out (s : State) (ch : Nat) (x : Chan) : (s.setChan ch x).out = s.out := rfl
@[simp] theorem setChan_sys (s : State) (ch : Nat) (x : Chan) : (s.setChan ch x).sys = s.sys := rfl
@[simp] theorem setChan_ctxs (s : State) (ch : Nat) (x : Chan) : (s.setChan ch x).ctxs = s.ctxs := rfl
@[simp] theorem setChan_fcl (s : State) (ch : Nat) (x : Chan) : (s.setChan ch x).fcl = s.fcl := rfl
@[simp] theorem setChan_arch (s : State) (ch : Nat) (x : Chan) : (s.setChan ch x).arch = s.arch := rfl
@[simp] theorem setChan_sec (s : State) (ch : Nat) (x : Chan) : (s.setChan ch x).sec = s.sec := rfl
@[simp] theorem setChan_ldg (s : State) (ch : Nat) (x : Chan) : (s.setChan ch x).ldg = s.ldg := rfl
@[simp] theorem setChan_clk (s : State) (ch : Nat) (x : Chan) : (s.setChan ch x).clk = s.clk := rfl
@[simp] theorem setChan_ntm (s : State) (ch : Nat) (x : Chan) : (s.setChan ch x).ntm = s.ntm := rfl
@[simp] theorem setChan_meter (s : State) (ch : Nat) (x : Chan) : (s.setChan ch x).meter = s.meter := rfl
@[simp] theorem setChan_pmus (s : State) (ch : Nat) (x : Chan) : (s.setChan ch x).pmus = s.pmus := rfl
@[simp] theorem setChan_acqs (s : State) (ch : Nat) (x : Chan) : (s.setChan ch x).acqs = s.acqs := rfl
@[simp] theorem setChan_tims (s : State) (ch : Nat) (x : Chan) : (s.setChan ch x).tims = s.tims := rfl
@[simp] theorem setChan_tb (s : State) (ch : Nat) (x : Chan) : (s.setChan ch x).tb = s.tb := rfl
@[simp] theorem setChan_stks (s : State) (ch : Nat) (x : Chan) : (s.setChan ch x).stks = s.stks := rfl
@[simp] theorem setChan_bad (s : State) (ch : Nat) (x : Chan) : (s.setChan ch x).bad = s.bad := rfl
@[simp] theorem setChan_stkLog (s : State) (ch : Nat) (x : Chan) : (s.setChan ch x).stkLog = s.stkLog := rfl
@[simp] theorem setChan_lib (s : State) (ch : Nat) (x : Chan) : (s.setChan ch x).lib = s.lib := rfl
@[simp] theorem setChan_hp (s : State) (ch : Nat) (x : Chan) : (s.setChan ch x).hp = s.hp := rfl
@[simp] theorem setChan_ports (s : State) (ch : Nat) (x : Chan) : (s.setChan ch x).ports = s.ports := rfl
@[simp] theorem setChan_dlanes (s : State) (ch : Nat) (x : Chan) : (s.setChan ch x).dlanes = s.dlanes := rfl
@[simp] theorem setChan_grp (s : State) (ch : Nat) (x : Chan) : (s.setChan ch x).grp = s.grp := rfl
@[simp] theorem setChan_wks (s : State) (ch : Nat) (x : Chan) : (s.setChan ch x).wks = s.wks := rfl
@[simp] theorem setChan_cals (s : State) (ch : Nat) (x : Chan) : (s.setChan ch x).cals = s.cals := rfl
@[simp] theorem setChan_corrs (s : State) (ch : Nat) (x : Chan) : (s.setChan ch x).corrs = s.corrs := rfl
@[simp] theorem setChan_gates (s : State) (ch : Nat) (x : Chan) : (s.setChan ch x).gates = s.gates := rfl
@[simp] theorem setChan_tap (s : State) (ch : Nat) (x : Chan) : (s.setChan ch x).tap = s.tap := rfl
@[simp] theorem setChan_ist (s : State) (ch : Nat) (x : Chan) : (s.setChan ch x).ist = s.ist := rfl
@[simp] theorem setChan_wo1 (s : State) (ch : Nat) (x : Chan) : (s.setChan ch x).wo1 = s.wo1 := rfl
@[simp] theorem setChan_rd (s : State) (ch : Nat) (x : Chan) (i : Nat) : (s.setChan ch x).rd i = s.rd i := rfl
@[simp] theorem setChan_f (s : State) (ch : Nat) (x : Chan) (i : RF) : (s.setChan ch x).f i = s.f i := rfl
@[simp] theorem setChan_flag (s : State) (ch : Nat) (x : Chan) (i : RF) : (s.setChan ch x).flag i = s.flag i := rfl
@[simp] theorem setChan_ldByte (s : State) (ch : Nat) (x : Chan) (i : Nat) : (s.setChan ch x).ldByte i = s.ldByte i := rfl
@[simp] theorem setChan_ctx (s : State) (ch : Nat) (x : Chan) (i : Nat) : (s.setChan ch x).ctx i = s.ctx i := rfl
@[simp] theorem setChan_freeBits (s : State) (ch : Nat) (x : Chan) (i : Nat) : (s.setChan ch x).freeBits i = s.freeBits i := rfl

/-! ### onChan -/

@[simp] theorem onChan_regs (s : State) (ch : Nat) (g : Chan → Chan) : (s.onChan ch g).regs = s.regs := rfl
@[simp] theorem onChan_mem (s : State) (ch : Nat) (g : Chan → Chan) : (s.onChan ch g).mem = s.mem := rfl
@[simp] theorem onChan_pending (s : State) (ch : Nat) (g : Chan → Chan) : (s.onChan ch g).pending = s.pending := rfl
@[simp] theorem onChan_fresh (s : State) (ch : Nat) (g : Chan → Chan) : (s.onChan ch g).fresh = s.fresh := rfl
@[simp] theorem onChan_now (s : State) (ch : Nat) (g : Chan → Chan) : (s.onChan ch g).now = s.now := rfl
@[simp] theorem onChan_out (s : State) (ch : Nat) (g : Chan → Chan) : (s.onChan ch g).out = s.out := rfl
@[simp] theorem onChan_sys (s : State) (ch : Nat) (g : Chan → Chan) : (s.onChan ch g).sys = s.sys := rfl
@[simp] theorem onChan_ctxs (s : State) (ch : Nat) (g : Chan → Chan) : (s.onChan ch g).ctxs = s.ctxs := rfl
@[simp] theorem onChan_fcl (s : State) (ch : Nat) (g : Chan → Chan) : (s.onChan ch g).fcl = s.fcl := rfl
@[simp] theorem onChan_arch (s : State) (ch : Nat) (g : Chan → Chan) : (s.onChan ch g).arch = s.arch := rfl
@[simp] theorem onChan_sec (s : State) (ch : Nat) (g : Chan → Chan) : (s.onChan ch g).sec = s.sec := rfl
@[simp] theorem onChan_ldg (s : State) (ch : Nat) (g : Chan → Chan) : (s.onChan ch g).ldg = s.ldg := rfl
@[simp] theorem onChan_clk (s : State) (ch : Nat) (g : Chan → Chan) : (s.onChan ch g).clk = s.clk := rfl
@[simp] theorem onChan_ntm (s : State) (ch : Nat) (g : Chan → Chan) : (s.onChan ch g).ntm = s.ntm := rfl
@[simp] theorem onChan_meter (s : State) (ch : Nat) (g : Chan → Chan) : (s.onChan ch g).meter = s.meter := rfl
@[simp] theorem onChan_pmus (s : State) (ch : Nat) (g : Chan → Chan) : (s.onChan ch g).pmus = s.pmus := rfl
@[simp] theorem onChan_acqs (s : State) (ch : Nat) (g : Chan → Chan) : (s.onChan ch g).acqs = s.acqs := rfl
@[simp] theorem onChan_tims (s : State) (ch : Nat) (g : Chan → Chan) : (s.onChan ch g).tims = s.tims := rfl
@[simp] theorem onChan_tb (s : State) (ch : Nat) (g : Chan → Chan) : (s.onChan ch g).tb = s.tb := rfl
@[simp] theorem onChan_stks (s : State) (ch : Nat) (g : Chan → Chan) : (s.onChan ch g).stks = s.stks := rfl
@[simp] theorem onChan_bad (s : State) (ch : Nat) (g : Chan → Chan) : (s.onChan ch g).bad = s.bad := rfl
@[simp] theorem onChan_stkLog (s : State) (ch : Nat) (g : Chan → Chan) : (s.onChan ch g).stkLog = s.stkLog := rfl
@[simp] theorem onChan_lib (s : State) (ch : Nat) (g : Chan → Chan) : (s.onChan ch g).lib = s.lib := rfl
@[simp] theorem onChan_hp (s : State) (ch : Nat) (g : Chan → Chan) : (s.onChan ch g).hp = s.hp := rfl
@[simp] theorem onChan_ports (s : State) (ch : Nat) (g : Chan → Chan) : (s.onChan ch g).ports = s.ports := rfl
@[simp] theorem onChan_dlanes (s : State) (ch : Nat) (g : Chan → Chan) : (s.onChan ch g).dlanes = s.dlanes := rfl
@[simp] theorem onChan_grp (s : State) (ch : Nat) (g : Chan → Chan) : (s.onChan ch g).grp = s.grp := rfl
@[simp] theorem onChan_wks (s : State) (ch : Nat) (g : Chan → Chan) : (s.onChan ch g).wks = s.wks := rfl
@[simp] theorem onChan_cals (s : State) (ch : Nat) (g : Chan → Chan) : (s.onChan ch g).cals = s.cals := rfl
@[simp] theorem onChan_corrs (s : State) (ch : Nat) (g : Chan → Chan) : (s.onChan ch g).corrs = s.corrs := rfl
@[simp] theorem onChan_gates (s : State) (ch : Nat) (g : Chan → Chan) : (s.onChan ch g).gates = s.gates := rfl
@[simp] theorem onChan_tap (s : State) (ch : Nat) (g : Chan → Chan) : (s.onChan ch g).tap = s.tap := rfl
@[simp] theorem onChan_ist (s : State) (ch : Nat) (g : Chan → Chan) : (s.onChan ch g).ist = s.ist := rfl
@[simp] theorem onChan_wo1 (s : State) (ch : Nat) (g : Chan → Chan) : (s.onChan ch g).wo1 = s.wo1 := rfl
@[simp] theorem onChan_rd (s : State) (ch : Nat) (g : Chan → Chan) (i : Nat) : (s.onChan ch g).rd i = s.rd i := rfl
@[simp] theorem onChan_f (s : State) (ch : Nat) (g : Chan → Chan) (i : RF) : (s.onChan ch g).f i = s.f i := rfl
@[simp] theorem onChan_flag (s : State) (ch : Nat) (g : Chan → Chan) (i : RF) : (s.onChan ch g).flag i = s.flag i := rfl
@[simp] theorem onChan_ldByte (s : State) (ch : Nat) (g : Chan → Chan) (i : Nat) : (s.onChan ch g).ldByte i = s.ldByte i := rfl
@[simp] theorem onChan_ctx (s : State) (ch : Nat) (g : Chan → Chan) (i : Nat) : (s.onChan ch g).ctx i = s.ctx i := rfl
@[simp] theorem onChan_freeBits (s : State) (ch : Nat) (g : Chan → Chan) (i : Nat) : (s.onChan ch g).freeBits i = s.freeBits i := rfl

/-! ### setCtx -/

@[simp] theorem setCtx_regs (s : State) (c : Nat) (x : Ctx) : (s.setCtx c x).regs = s.regs := rfl
@[simp] theorem setCtx_mem (s : State) (c : Nat) (x : Ctx) : (s.setCtx c x).mem = s.mem := rfl
@[simp] theorem setCtx_pending (s : State) (c : Nat) (x : Ctx) : (s.setCtx c x).pending = s.pending := rfl
@[simp] theorem setCtx_fresh (s : State) (c : Nat) (x : Ctx) : (s.setCtx c x).fresh = s.fresh := rfl
@[simp] theorem setCtx_now (s : State) (c : Nat) (x : Ctx) : (s.setCtx c x).now = s.now := rfl
@[simp] theorem setCtx_out (s : State) (c : Nat) (x : Ctx) : (s.setCtx c x).out = s.out := rfl
@[simp] theorem setCtx_sys (s : State) (c : Nat) (x : Ctx) : (s.setCtx c x).sys = s.sys := rfl
@[simp] theorem setCtx_chans (s : State) (c : Nat) (x : Ctx) : (s.setCtx c x).chans = s.chans := rfl
@[simp] theorem setCtx_fcl (s : State) (c : Nat) (x : Ctx) : (s.setCtx c x).fcl = s.fcl := rfl
@[simp] theorem setCtx_arch (s : State) (c : Nat) (x : Ctx) : (s.setCtx c x).arch = s.arch := rfl
@[simp] theorem setCtx_sec (s : State) (c : Nat) (x : Ctx) : (s.setCtx c x).sec = s.sec := rfl
@[simp] theorem setCtx_ldg (s : State) (c : Nat) (x : Ctx) : (s.setCtx c x).ldg = s.ldg := rfl
@[simp] theorem setCtx_clk (s : State) (c : Nat) (x : Ctx) : (s.setCtx c x).clk = s.clk := rfl
@[simp] theorem setCtx_ntm (s : State) (c : Nat) (x : Ctx) : (s.setCtx c x).ntm = s.ntm := rfl
@[simp] theorem setCtx_meter (s : State) (c : Nat) (x : Ctx) : (s.setCtx c x).meter = s.meter := rfl
@[simp] theorem setCtx_pmus (s : State) (c : Nat) (x : Ctx) : (s.setCtx c x).pmus = s.pmus := rfl
@[simp] theorem setCtx_acqs (s : State) (c : Nat) (x : Ctx) : (s.setCtx c x).acqs = s.acqs := rfl
@[simp] theorem setCtx_tims (s : State) (c : Nat) (x : Ctx) : (s.setCtx c x).tims = s.tims := rfl
@[simp] theorem setCtx_tb (s : State) (c : Nat) (x : Ctx) : (s.setCtx c x).tb = s.tb := rfl
@[simp] theorem setCtx_stks (s : State) (c : Nat) (x : Ctx) : (s.setCtx c x).stks = s.stks := rfl
@[simp] theorem setCtx_bad (s : State) (c : Nat) (x : Ctx) : (s.setCtx c x).bad = s.bad := rfl
@[simp] theorem setCtx_stkLog (s : State) (c : Nat) (x : Ctx) : (s.setCtx c x).stkLog = s.stkLog := rfl
@[simp] theorem setCtx_lib (s : State) (c : Nat) (x : Ctx) : (s.setCtx c x).lib = s.lib := rfl
@[simp] theorem setCtx_hp (s : State) (c : Nat) (x : Ctx) : (s.setCtx c x).hp = s.hp := rfl
@[simp] theorem setCtx_ports (s : State) (c : Nat) (x : Ctx) : (s.setCtx c x).ports = s.ports := rfl
@[simp] theorem setCtx_dlanes (s : State) (c : Nat) (x : Ctx) : (s.setCtx c x).dlanes = s.dlanes := rfl
@[simp] theorem setCtx_grp (s : State) (c : Nat) (x : Ctx) : (s.setCtx c x).grp = s.grp := rfl
@[simp] theorem setCtx_wks (s : State) (c : Nat) (x : Ctx) : (s.setCtx c x).wks = s.wks := rfl
@[simp] theorem setCtx_cals (s : State) (c : Nat) (x : Ctx) : (s.setCtx c x).cals = s.cals := rfl
@[simp] theorem setCtx_corrs (s : State) (c : Nat) (x : Ctx) : (s.setCtx c x).corrs = s.corrs := rfl
@[simp] theorem setCtx_gates (s : State) (c : Nat) (x : Ctx) : (s.setCtx c x).gates = s.gates := rfl
@[simp] theorem setCtx_tap (s : State) (c : Nat) (x : Ctx) : (s.setCtx c x).tap = s.tap := rfl
@[simp] theorem setCtx_ist (s : State) (c : Nat) (x : Ctx) : (s.setCtx c x).ist = s.ist := rfl
@[simp] theorem setCtx_wo1 (s : State) (c : Nat) (x : Ctx) : (s.setCtx c x).wo1 = s.wo1 := rfl
@[simp] theorem setCtx_rd (s : State) (c : Nat) (x : Ctx) (i : Nat) : (s.setCtx c x).rd i = s.rd i := rfl
@[simp] theorem setCtx_f (s : State) (c : Nat) (x : Ctx) (i : RF) : (s.setCtx c x).f i = s.f i := rfl
@[simp] theorem setCtx_flag (s : State) (c : Nat) (x : Ctx) (i : RF) : (s.setCtx c x).flag i = s.flag i := rfl
@[simp] theorem setCtx_ldByte (s : State) (c : Nat) (x : Ctx) (i : Nat) : (s.setCtx c x).ldByte i = s.ldByte i := rfl
@[simp] theorem setCtx_chan (s : State) (c : Nat) (x : Ctx) (i : Nat) : (s.setCtx c x).chan i = s.chan i := rfl
@[simp] theorem setCtx_freeBits (s : State) (c : Nat) (x : Ctx) (i : Nat) : (s.setCtx c x).freeBits i = s.freeBits i := rfl

/-! ### onCtx -/

@[simp] theorem onCtx_regs (s : State) (c : Nat) (g : Ctx → Ctx) : (s.onCtx c g).regs = s.regs := rfl
@[simp] theorem onCtx_mem (s : State) (c : Nat) (g : Ctx → Ctx) : (s.onCtx c g).mem = s.mem := rfl
@[simp] theorem onCtx_pending (s : State) (c : Nat) (g : Ctx → Ctx) : (s.onCtx c g).pending = s.pending := rfl
@[simp] theorem onCtx_fresh (s : State) (c : Nat) (g : Ctx → Ctx) : (s.onCtx c g).fresh = s.fresh := rfl
@[simp] theorem onCtx_now (s : State) (c : Nat) (g : Ctx → Ctx) : (s.onCtx c g).now = s.now := rfl
@[simp] theorem onCtx_out (s : State) (c : Nat) (g : Ctx → Ctx) : (s.onCtx c g).out = s.out := rfl
@[simp] theorem onCtx_sys (s : State) (c : Nat) (g : Ctx → Ctx) : (s.onCtx c g).sys = s.sys := rfl
@[simp] theorem onCtx_chans (s : State) (c : Nat) (g : Ctx → Ctx) : (s.onCtx c g).chans = s.chans := rfl
@[simp] theorem onCtx_fcl (s : State) (c : Nat) (g : Ctx → Ctx) : (s.onCtx c g).fcl = s.fcl := rfl
@[simp] theorem onCtx_arch (s : State) (c : Nat) (g : Ctx → Ctx) : (s.onCtx c g).arch = s.arch := rfl
@[simp] theorem onCtx_sec (s : State) (c : Nat) (g : Ctx → Ctx) : (s.onCtx c g).sec = s.sec := rfl
@[simp] theorem onCtx_ldg (s : State) (c : Nat) (g : Ctx → Ctx) : (s.onCtx c g).ldg = s.ldg := rfl
@[simp] theorem onCtx_clk (s : State) (c : Nat) (g : Ctx → Ctx) : (s.onCtx c g).clk = s.clk := rfl
@[simp] theorem onCtx_ntm (s : State) (c : Nat) (g : Ctx → Ctx) : (s.onCtx c g).ntm = s.ntm := rfl
@[simp] theorem onCtx_meter (s : State) (c : Nat) (g : Ctx → Ctx) : (s.onCtx c g).meter = s.meter := rfl
@[simp] theorem onCtx_pmus (s : State) (c : Nat) (g : Ctx → Ctx) : (s.onCtx c g).pmus = s.pmus := rfl
@[simp] theorem onCtx_acqs (s : State) (c : Nat) (g : Ctx → Ctx) : (s.onCtx c g).acqs = s.acqs := rfl
@[simp] theorem onCtx_tims (s : State) (c : Nat) (g : Ctx → Ctx) : (s.onCtx c g).tims = s.tims := rfl
@[simp] theorem onCtx_tb (s : State) (c : Nat) (g : Ctx → Ctx) : (s.onCtx c g).tb = s.tb := rfl
@[simp] theorem onCtx_stks (s : State) (c : Nat) (g : Ctx → Ctx) : (s.onCtx c g).stks = s.stks := rfl
@[simp] theorem onCtx_bad (s : State) (c : Nat) (g : Ctx → Ctx) : (s.onCtx c g).bad = s.bad := rfl
@[simp] theorem onCtx_stkLog (s : State) (c : Nat) (g : Ctx → Ctx) : (s.onCtx c g).stkLog = s.stkLog := rfl
@[simp] theorem onCtx_lib (s : State) (c : Nat) (g : Ctx → Ctx) : (s.onCtx c g).lib = s.lib := rfl
@[simp] theorem onCtx_hp (s : State) (c : Nat) (g : Ctx → Ctx) : (s.onCtx c g).hp = s.hp := rfl
@[simp] theorem onCtx_ports (s : State) (c : Nat) (g : Ctx → Ctx) : (s.onCtx c g).ports = s.ports := rfl
@[simp] theorem onCtx_dlanes (s : State) (c : Nat) (g : Ctx → Ctx) : (s.onCtx c g).dlanes = s.dlanes := rfl
@[simp] theorem onCtx_grp (s : State) (c : Nat) (g : Ctx → Ctx) : (s.onCtx c g).grp = s.grp := rfl
@[simp] theorem onCtx_wks (s : State) (c : Nat) (g : Ctx → Ctx) : (s.onCtx c g).wks = s.wks := rfl
@[simp] theorem onCtx_cals (s : State) (c : Nat) (g : Ctx → Ctx) : (s.onCtx c g).cals = s.cals := rfl
@[simp] theorem onCtx_corrs (s : State) (c : Nat) (g : Ctx → Ctx) : (s.onCtx c g).corrs = s.corrs := rfl
@[simp] theorem onCtx_gates (s : State) (c : Nat) (g : Ctx → Ctx) : (s.onCtx c g).gates = s.gates := rfl
@[simp] theorem onCtx_tap (s : State) (c : Nat) (g : Ctx → Ctx) : (s.onCtx c g).tap = s.tap := rfl
@[simp] theorem onCtx_ist (s : State) (c : Nat) (g : Ctx → Ctx) : (s.onCtx c g).ist = s.ist := rfl
@[simp] theorem onCtx_wo1 (s : State) (c : Nat) (g : Ctx → Ctx) : (s.onCtx c g).wo1 = s.wo1 := rfl
@[simp] theorem onCtx_rd (s : State) (c : Nat) (g : Ctx → Ctx) (i : Nat) : (s.onCtx c g).rd i = s.rd i := rfl
@[simp] theorem onCtx_f (s : State) (c : Nat) (g : Ctx → Ctx) (i : RF) : (s.onCtx c g).f i = s.f i := rfl
@[simp] theorem onCtx_flag (s : State) (c : Nat) (g : Ctx → Ctx) (i : RF) : (s.onCtx c g).flag i = s.flag i := rfl
@[simp] theorem onCtx_ldByte (s : State) (c : Nat) (g : Ctx → Ctx) (i : Nat) : (s.onCtx c g).ldByte i = s.ldByte i := rfl
@[simp] theorem onCtx_chan (s : State) (c : Nat) (g : Ctx → Ctx) (i : Nat) : (s.onCtx c g).chan i = s.chan i := rfl
@[simp] theorem onCtx_freeBits (s : State) (c : Nat) (g : Ctx → Ctx) (i : Nat) : (s.onCtx c g).freeBits i = s.freeBits i := rfl

/-! ### stByte -/

@[simp] theorem stByte_regs (s : State) (a : Nat) (b : Byte) : (s.stByte a b).regs = s.regs := rfl
@[simp] theorem stByte_pending (s : State) (a : Nat) (b : Byte) : (s.stByte a b).pending = s.pending := rfl
@[simp] theorem stByte_fresh (s : State) (a : Nat) (b : Byte) : (s.stByte a b).fresh = s.fresh := rfl
@[simp] theorem stByte_now (s : State) (a : Nat) (b : Byte) : (s.stByte a b).now = s.now := rfl
@[simp] theorem stByte_out (s : State) (a : Nat) (b : Byte) : (s.stByte a b).out = s.out := rfl
@[simp] theorem stByte_sys (s : State) (a : Nat) (b : Byte) : (s.stByte a b).sys = s.sys := rfl
@[simp] theorem stByte_chans (s : State) (a : Nat) (b : Byte) : (s.stByte a b).chans = s.chans := rfl
@[simp] theorem stByte_ctxs (s : State) (a : Nat) (b : Byte) : (s.stByte a b).ctxs = s.ctxs := rfl
@[simp] theorem stByte_fcl (s : State) (a : Nat) (b : Byte) : (s.stByte a b).fcl = s.fcl := rfl
@[simp] theorem stByte_arch (s : State) (a : Nat) (b : Byte) : (s.stByte a b).arch = s.arch := rfl
@[simp] theorem stByte_sec (s : State) (a : Nat) (b : Byte) : (s.stByte a b).sec = s.sec := rfl
@[simp] theorem stByte_ldg (s : State) (a : Nat) (b : Byte) : (s.stByte a b).ldg = s.ldg := rfl
@[simp] theorem stByte_clk (s : State) (a : Nat) (b : Byte) : (s.stByte a b).clk = s.clk := rfl
@[simp] theorem stByte_ntm (s : State) (a : Nat) (b : Byte) : (s.stByte a b).ntm = s.ntm := rfl
@[simp] theorem stByte_meter (s : State) (a : Nat) (b : Byte) : (s.stByte a b).meter = s.meter := rfl
@[simp] theorem stByte_pmus (s : State) (a : Nat) (b : Byte) : (s.stByte a b).pmus = s.pmus := rfl
@[simp] theorem stByte_acqs (s : State) (a : Nat) (b : Byte) : (s.stByte a b).acqs = s.acqs := rfl
@[simp] theorem stByte_tims (s : State) (a : Nat) (b : Byte) : (s.stByte a b).tims = s.tims := rfl
@[simp] theorem stByte_tb (s : State) (a : Nat) (b : Byte) : (s.stByte a b).tb = s.tb := rfl
@[simp] theorem stByte_stks (s : State) (a : Nat) (b : Byte) : (s.stByte a b).stks = s.stks := rfl
@[simp] theorem stByte_bad (s : State) (a : Nat) (b : Byte) : (s.stByte a b).bad = s.bad := rfl
@[simp] theorem stByte_stkLog (s : State) (a : Nat) (b : Byte) : (s.stByte a b).stkLog = s.stkLog := rfl
@[simp] theorem stByte_lib (s : State) (a : Nat) (b : Byte) : (s.stByte a b).lib = s.lib := rfl
@[simp] theorem stByte_hp (s : State) (a : Nat) (b : Byte) : (s.stByte a b).hp = s.hp := rfl
@[simp] theorem stByte_ports (s : State) (a : Nat) (b : Byte) : (s.stByte a b).ports = s.ports := rfl
@[simp] theorem stByte_dlanes (s : State) (a : Nat) (b : Byte) : (s.stByte a b).dlanes = s.dlanes := rfl
@[simp] theorem stByte_grp (s : State) (a : Nat) (b : Byte) : (s.stByte a b).grp = s.grp := rfl
@[simp] theorem stByte_wks (s : State) (a : Nat) (b : Byte) : (s.stByte a b).wks = s.wks := rfl
@[simp] theorem stByte_cals (s : State) (a : Nat) (b : Byte) : (s.stByte a b).cals = s.cals := rfl
@[simp] theorem stByte_corrs (s : State) (a : Nat) (b : Byte) : (s.stByte a b).corrs = s.corrs := rfl
@[simp] theorem stByte_gates (s : State) (a : Nat) (b : Byte) : (s.stByte a b).gates = s.gates := rfl
@[simp] theorem stByte_tap (s : State) (a : Nat) (b : Byte) : (s.stByte a b).tap = s.tap := rfl
@[simp] theorem stByte_ist (s : State) (a : Nat) (b : Byte) : (s.stByte a b).ist = s.ist := rfl
@[simp] theorem stByte_wo1 (s : State) (a : Nat) (b : Byte) : (s.stByte a b).wo1 = s.wo1 := rfl
@[simp] theorem stByte_rd (s : State) (a : Nat) (b : Byte) (i : Nat) : (s.stByte a b).rd i = s.rd i := rfl
@[simp] theorem stByte_f (s : State) (a : Nat) (b : Byte) (i : RF) : (s.stByte a b).f i = s.f i := rfl
@[simp] theorem stByte_flag (s : State) (a : Nat) (b : Byte) (i : RF) : (s.stByte a b).flag i = s.flag i := rfl
@[simp] theorem stByte_chan (s : State) (a : Nat) (b : Byte) (i : Nat) : (s.stByte a b).chan i = s.chan i := rfl
@[simp] theorem stByte_ctx (s : State) (a : Nat) (b : Byte) (i : Nat) : (s.stByte a b).ctx i = s.ctx i := rfl
@[simp] theorem stByte_freeBits (s : State) (a : Nat) (b : Byte) (i : Nat) : (s.stByte a b).freeBits i = s.freeBits i := rfl

/-! ### setGate -/

@[simp] theorem setGate_regs (s : State) (k : Nat) (v : Gate) : (s.setGate k v).regs = s.regs := rfl
@[simp] theorem setGate_mem (s : State) (k : Nat) (v : Gate) : (s.setGate k v).mem = s.mem := rfl
@[simp] theorem setGate_pending (s : State) (k : Nat) (v : Gate) : (s.setGate k v).pending = s.pending := rfl
@[simp] theorem setGate_fresh (s : State) (k : Nat) (v : Gate) : (s.setGate k v).fresh = s.fresh := rfl
@[simp] theorem setGate_now (s : State) (k : Nat) (v : Gate) : (s.setGate k v).now = s.now := rfl
@[simp] theorem setGate_out (s : State) (k : Nat) (v : Gate) : (s.setGate k v).out = s.out := rfl
@[simp] theorem setGate_sys (s : State) (k : Nat) (v : Gate) : (s.setGate k v).sys = s.sys := rfl
@[simp] theorem setGate_chans (s : State) (k : Nat) (v : Gate) : (s.setGate k v).chans = s.chans := rfl
@[simp] theorem setGate_ctxs (s : State) (k : Nat) (v : Gate) : (s.setGate k v).ctxs = s.ctxs := rfl
@[simp] theorem setGate_fcl (s : State) (k : Nat) (v : Gate) : (s.setGate k v).fcl = s.fcl := rfl
@[simp] theorem setGate_arch (s : State) (k : Nat) (v : Gate) : (s.setGate k v).arch = s.arch := rfl
@[simp] theorem setGate_sec (s : State) (k : Nat) (v : Gate) : (s.setGate k v).sec = s.sec := rfl
@[simp] theorem setGate_ldg (s : State) (k : Nat) (v : Gate) : (s.setGate k v).ldg = s.ldg := rfl
@[simp] theorem setGate_clk (s : State) (k : Nat) (v : Gate) : (s.setGate k v).clk = s.clk := rfl
@[simp] theorem setGate_ntm (s : State) (k : Nat) (v : Gate) : (s.setGate k v).ntm = s.ntm := rfl
@[simp] theorem setGate_meter (s : State) (k : Nat) (v : Gate) : (s.setGate k v).meter = s.meter := rfl
@[simp] theorem setGate_pmus (s : State) (k : Nat) (v : Gate) : (s.setGate k v).pmus = s.pmus := rfl
@[simp] theorem setGate_acqs (s : State) (k : Nat) (v : Gate) : (s.setGate k v).acqs = s.acqs := rfl
@[simp] theorem setGate_tims (s : State) (k : Nat) (v : Gate) : (s.setGate k v).tims = s.tims := rfl
@[simp] theorem setGate_tb (s : State) (k : Nat) (v : Gate) : (s.setGate k v).tb = s.tb := rfl
@[simp] theorem setGate_stks (s : State) (k : Nat) (v : Gate) : (s.setGate k v).stks = s.stks := rfl
@[simp] theorem setGate_bad (s : State) (k : Nat) (v : Gate) : (s.setGate k v).bad = s.bad := rfl
@[simp] theorem setGate_stkLog (s : State) (k : Nat) (v : Gate) : (s.setGate k v).stkLog = s.stkLog := rfl
@[simp] theorem setGate_lib (s : State) (k : Nat) (v : Gate) : (s.setGate k v).lib = s.lib := rfl
@[simp] theorem setGate_hp (s : State) (k : Nat) (v : Gate) : (s.setGate k v).hp = s.hp := rfl
@[simp] theorem setGate_ports (s : State) (k : Nat) (v : Gate) : (s.setGate k v).ports = s.ports := rfl
@[simp] theorem setGate_dlanes (s : State) (k : Nat) (v : Gate) : (s.setGate k v).dlanes = s.dlanes := rfl
@[simp] theorem setGate_grp (s : State) (k : Nat) (v : Gate) : (s.setGate k v).grp = s.grp := rfl
@[simp] theorem setGate_wks (s : State) (k : Nat) (v : Gate) : (s.setGate k v).wks = s.wks := rfl
@[simp] theorem setGate_cals (s : State) (k : Nat) (v : Gate) : (s.setGate k v).cals = s.cals := rfl
@[simp] theorem setGate_corrs (s : State) (k : Nat) (v : Gate) : (s.setGate k v).corrs = s.corrs := rfl
@[simp] theorem setGate_tap (s : State) (k : Nat) (v : Gate) : (s.setGate k v).tap = s.tap := rfl
@[simp] theorem setGate_ist (s : State) (k : Nat) (v : Gate) : (s.setGate k v).ist = s.ist := rfl
@[simp] theorem setGate_wo1 (s : State) (k : Nat) (v : Gate) : (s.setGate k v).wo1 = s.wo1 := rfl
@[simp] theorem setGate_rd (s : State) (k : Nat) (v : Gate) (i : Nat) : (s.setGate k v).rd i = s.rd i := rfl
@[simp] theorem setGate_f (s : State) (k : Nat) (v : Gate) (i : RF) : (s.setGate k v).f i = s.f i := rfl
@[simp] theorem setGate_flag (s : State) (k : Nat) (v : Gate) (i : RF) : (s.setGate k v).flag i = s.flag i := rfl
@[simp] theorem setGate_ldByte (s : State) (k : Nat) (v : Gate) (i : Nat) : (s.setGate k v).ldByte i = s.ldByte i := rfl
@[simp] theorem setGate_chan (s : State) (k : Nat) (v : Gate) (i : Nat) : (s.setGate k v).chan i = s.chan i := rfl
@[simp] theorem setGate_ctx (s : State) (k : Nat) (v : Gate) (i : Nat) : (s.setGate k v).ctx i = s.ctx i := rfl
@[simp] theorem setGate_freeBits (s : State) (k : Nat) (v : Gate) (i : Nat) : (s.setGate k v).freeBits i = s.freeBits i := rfl

/-! ### onArch -/

@[simp] theorem onArch_regs (s : State) (g : Archive → Archive) : (s.onArch g).regs = s.regs := rfl
@[simp] theorem onArch_mem (s : State) (g : Archive → Archive) : (s.onArch g).mem = s.mem := rfl
@[simp] theorem onArch_pending (s : State) (g : Archive → Archive) : (s.onArch g).pending = s.pending := rfl
@[simp] theorem onArch_fresh (s : State) (g : Archive → Archive) : (s.onArch g).fresh = s.fresh := rfl
@[simp] theorem onArch_now (s : State) (g : Archive → Archive) : (s.onArch g).now = s.now := rfl
@[simp] theorem onArch_out (s : State) (g : Archive → Archive) : (s.onArch g).out = s.out := rfl
@[simp] theorem onArch_sys (s : State) (g : Archive → Archive) : (s.onArch g).sys = s.sys := rfl
@[simp] theorem onArch_chans (s : State) (g : Archive → Archive) : (s.onArch g).chans = s.chans := rfl
@[simp] theorem onArch_ctxs (s : State) (g : Archive → Archive) : (s.onArch g).ctxs = s.ctxs := rfl
@[simp] theorem onArch_fcl (s : State) (g : Archive → Archive) : (s.onArch g).fcl = s.fcl := rfl
@[simp] theorem onArch_sec (s : State) (g : Archive → Archive) : (s.onArch g).sec = s.sec := rfl
@[simp] theorem onArch_ldg (s : State) (g : Archive → Archive) : (s.onArch g).ldg = s.ldg := rfl
@[simp] theorem onArch_clk (s : State) (g : Archive → Archive) : (s.onArch g).clk = s.clk := rfl
@[simp] theorem onArch_ntm (s : State) (g : Archive → Archive) : (s.onArch g).ntm = s.ntm := rfl
@[simp] theorem onArch_meter (s : State) (g : Archive → Archive) : (s.onArch g).meter = s.meter := rfl
@[simp] theorem onArch_pmus (s : State) (g : Archive → Archive) : (s.onArch g).pmus = s.pmus := rfl
@[simp] theorem onArch_acqs (s : State) (g : Archive → Archive) : (s.onArch g).acqs = s.acqs := rfl
@[simp] theorem onArch_tims (s : State) (g : Archive → Archive) : (s.onArch g).tims = s.tims := rfl
@[simp] theorem onArch_tb (s : State) (g : Archive → Archive) : (s.onArch g).tb = s.tb := rfl
@[simp] theorem onArch_stks (s : State) (g : Archive → Archive) : (s.onArch g).stks = s.stks := rfl
@[simp] theorem onArch_bad (s : State) (g : Archive → Archive) : (s.onArch g).bad = s.bad := rfl
@[simp] theorem onArch_stkLog (s : State) (g : Archive → Archive) : (s.onArch g).stkLog = s.stkLog := rfl
@[simp] theorem onArch_lib (s : State) (g : Archive → Archive) : (s.onArch g).lib = s.lib := rfl
@[simp] theorem onArch_hp (s : State) (g : Archive → Archive) : (s.onArch g).hp = s.hp := rfl
@[simp] theorem onArch_ports (s : State) (g : Archive → Archive) : (s.onArch g).ports = s.ports := rfl
@[simp] theorem onArch_dlanes (s : State) (g : Archive → Archive) : (s.onArch g).dlanes = s.dlanes := rfl
@[simp] theorem onArch_grp (s : State) (g : Archive → Archive) : (s.onArch g).grp = s.grp := rfl
@[simp] theorem onArch_wks (s : State) (g : Archive → Archive) : (s.onArch g).wks = s.wks := rfl
@[simp] theorem onArch_cals (s : State) (g : Archive → Archive) : (s.onArch g).cals = s.cals := rfl
@[simp] theorem onArch_corrs (s : State) (g : Archive → Archive) : (s.onArch g).corrs = s.corrs := rfl
@[simp] theorem onArch_gates (s : State) (g : Archive → Archive) : (s.onArch g).gates = s.gates := rfl
@[simp] theorem onArch_tap (s : State) (g : Archive → Archive) : (s.onArch g).tap = s.tap := rfl
@[simp] theorem onArch_ist (s : State) (g : Archive → Archive) : (s.onArch g).ist = s.ist := rfl
@[simp] theorem onArch_wo1 (s : State) (g : Archive → Archive) : (s.onArch g).wo1 = s.wo1 := rfl
@[simp] theorem onArch_rd (s : State) (g : Archive → Archive) (i : Nat) : (s.onArch g).rd i = s.rd i := rfl
@[simp] theorem onArch_f (s : State) (g : Archive → Archive) (i : RF) : (s.onArch g).f i = s.f i := rfl
@[simp] theorem onArch_flag (s : State) (g : Archive → Archive) (i : RF) : (s.onArch g).flag i = s.flag i := rfl
@[simp] theorem onArch_ldByte (s : State) (g : Archive → Archive) (i : Nat) : (s.onArch g).ldByte i = s.ldByte i := rfl
@[simp] theorem onArch_chan (s : State) (g : Archive → Archive) (i : Nat) : (s.onArch g).chan i = s.chan i := rfl
@[simp] theorem onArch_ctx (s : State) (g : Archive → Archive) (i : Nat) : (s.onArch g).ctx i = s.ctx i := rfl
@[simp] theorem onArch_freeBits (s : State) (g : Archive → Archive) (i : Nat) : (s.onArch g).freeBits i = s.freeBits i := rfl

/-! ### setEntry -/

@[simp] theorem setEntry_regs (s : State) (k : Nat) (e : FaultEntry) : (s.setEntry k e).regs = s.regs := rfl
@[simp] theorem setEntry_mem (s : State) (k : Nat) (e : FaultEntry) : (s.setEntry k e).mem = s.mem := rfl
@[simp] theorem setEntry_pending (s : State) (k : Nat) (e : FaultEntry) : (s.setEntry k e).pending = s.pending := rfl
@[simp] theorem setEntry_fresh (s : State) (k : Nat) (e : FaultEntry) : (s.setEntry k e).fresh = s.fresh := rfl
@[simp] theorem setEntry_now (s : State) (k : Nat) (e : FaultEntry) : (s.setEntry k e).now = s.now := rfl
@[simp] theorem setEntry_out (s : State) (k : Nat) (e : FaultEntry) : (s.setEntry k e).out = s.out := rfl
@[simp] theorem setEntry_sys (s : State) (k : Nat) (e : FaultEntry) : (s.setEntry k e).sys = s.sys := rfl
@[simp] theorem setEntry_chans (s : State) (k : Nat) (e : FaultEntry) : (s.setEntry k e).chans = s.chans := rfl
@[simp] theorem setEntry_ctxs (s : State) (k : Nat) (e : FaultEntry) : (s.setEntry k e).ctxs = s.ctxs := rfl
@[simp] theorem setEntry_arch (s : State) (k : Nat) (e : FaultEntry) : (s.setEntry k e).arch = s.arch := rfl
@[simp] theorem setEntry_sec (s : State) (k : Nat) (e : FaultEntry) : (s.setEntry k e).sec = s.sec := rfl
@[simp] theorem setEntry_ldg (s : State) (k : Nat) (e : FaultEntry) : (s.setEntry k e).ldg = s.ldg := rfl
@[simp] theorem setEntry_clk (s : State) (k : Nat) (e : FaultEntry) : (s.setEntry k e).clk = s.clk := rfl
@[simp] theorem setEntry_ntm (s : State) (k : Nat) (e : FaultEntry) : (s.setEntry k e).ntm = s.ntm := rfl
@[simp] theorem setEntry_meter (s : State) (k : Nat) (e : FaultEntry) : (s.setEntry k e).meter = s.meter := rfl
@[simp] theorem setEntry_pmus (s : State) (k : Nat) (e : FaultEntry) : (s.setEntry k e).pmus = s.pmus := rfl
@[simp] theorem setEntry_acqs (s : State) (k : Nat) (e : FaultEntry) : (s.setEntry k e).acqs = s.acqs := rfl
@[simp] theorem setEntry_tims (s : State) (k : Nat) (e : FaultEntry) : (s.setEntry k e).tims = s.tims := rfl
@[simp] theorem setEntry_tb (s : State) (k : Nat) (e : FaultEntry) : (s.setEntry k e).tb = s.tb := rfl
@[simp] theorem setEntry_stks (s : State) (k : Nat) (e : FaultEntry) : (s.setEntry k e).stks = s.stks := rfl
@[simp] theorem setEntry_bad (s : State) (k : Nat) (e : FaultEntry) : (s.setEntry k e).bad = s.bad := rfl
@[simp] theorem setEntry_stkLog (s : State) (k : Nat) (e : FaultEntry) : (s.setEntry k e).stkLog = s.stkLog := rfl
@[simp] theorem setEntry_lib (s : State) (k : Nat) (e : FaultEntry) : (s.setEntry k e).lib = s.lib := rfl
@[simp] theorem setEntry_hp (s : State) (k : Nat) (e : FaultEntry) : (s.setEntry k e).hp = s.hp := rfl
@[simp] theorem setEntry_ports (s : State) (k : Nat) (e : FaultEntry) : (s.setEntry k e).ports = s.ports := rfl
@[simp] theorem setEntry_dlanes (s : State) (k : Nat) (e : FaultEntry) : (s.setEntry k e).dlanes = s.dlanes := rfl
@[simp] theorem setEntry_grp (s : State) (k : Nat) (e : FaultEntry) : (s.setEntry k e).grp = s.grp := rfl
@[simp] theorem setEntry_wks (s : State) (k : Nat) (e : FaultEntry) : (s.setEntry k e).wks = s.wks := rfl
@[simp] theorem setEntry_cals (s : State) (k : Nat) (e : FaultEntry) : (s.setEntry k e).cals = s.cals := rfl
@[simp] theorem setEntry_corrs (s : State) (k : Nat) (e : FaultEntry) : (s.setEntry k e).corrs = s.corrs := rfl
@[simp] theorem setEntry_gates (s : State) (k : Nat) (e : FaultEntry) : (s.setEntry k e).gates = s.gates := rfl
@[simp] theorem setEntry_tap (s : State) (k : Nat) (e : FaultEntry) : (s.setEntry k e).tap = s.tap := rfl
@[simp] theorem setEntry_ist (s : State) (k : Nat) (e : FaultEntry) : (s.setEntry k e).ist = s.ist := rfl
@[simp] theorem setEntry_wo1 (s : State) (k : Nat) (e : FaultEntry) : (s.setEntry k e).wo1 = s.wo1 := rfl
@[simp] theorem setEntry_rd (s : State) (k : Nat) (e : FaultEntry) (i : Nat) : (s.setEntry k e).rd i = s.rd i := rfl
@[simp] theorem setEntry_f (s : State) (k : Nat) (e : FaultEntry) (i : RF) : (s.setEntry k e).f i = s.f i := rfl
@[simp] theorem setEntry_flag (s : State) (k : Nat) (e : FaultEntry) (i : RF) : (s.setEntry k e).flag i = s.flag i := rfl
@[simp] theorem setEntry_ldByte (s : State) (k : Nat) (e : FaultEntry) (i : Nat) : (s.setEntry k e).ldByte i = s.ldByte i := rfl
@[simp] theorem setEntry_chan (s : State) (k : Nat) (e : FaultEntry) (i : Nat) : (s.setEntry k e).chan i = s.chan i := rfl
@[simp] theorem setEntry_ctx (s : State) (k : Nat) (e : FaultEntry) (i : Nat) : (s.setEntry k e).ctx i = s.ctx i := rfl
@[simp] theorem setEntry_freeBits (s : State) (k : Nat) (e : FaultEntry) (i : Nat) : (s.setEntry k e).freeBits i = s.freeBits i := rfl

/-! ### setFence -/

@[simp] theorem setFence_regs (s : State) (u : Nat) (x : Option Fence) : (s.setFence u x).regs = s.regs := rfl
@[simp] theorem setFence_mem (s : State) (u : Nat) (x : Option Fence) : (s.setFence u x).mem = s.mem := rfl
@[simp] theorem setFence_pending (s : State) (u : Nat) (x : Option Fence) : (s.setFence u x).pending = s.pending := rfl
@[simp] theorem setFence_fresh (s : State) (u : Nat) (x : Option Fence) : (s.setFence u x).fresh = s.fresh := rfl
@[simp] theorem setFence_now (s : State) (u : Nat) (x : Option Fence) : (s.setFence u x).now = s.now := rfl
@[simp] theorem setFence_out (s : State) (u : Nat) (x : Option Fence) : (s.setFence u x).out = s.out := rfl
@[simp] theorem setFence_sys (s : State) (u : Nat) (x : Option Fence) : (s.setFence u x).sys = s.sys := rfl
@[simp] theorem setFence_chans (s : State) (u : Nat) (x : Option Fence) : (s.setFence u x).chans = s.chans := rfl
@[simp] theorem setFence_ctxs (s : State) (u : Nat) (x : Option Fence) : (s.setFence u x).ctxs = s.ctxs := rfl
@[simp] theorem setFence_arch (s : State) (u : Nat) (x : Option Fence) : (s.setFence u x).arch = s.arch := rfl
@[simp] theorem setFence_sec (s : State) (u : Nat) (x : Option Fence) : (s.setFence u x).sec = s.sec := rfl
@[simp] theorem setFence_ldg (s : State) (u : Nat) (x : Option Fence) : (s.setFence u x).ldg = s.ldg := rfl
@[simp] theorem setFence_clk (s : State) (u : Nat) (x : Option Fence) : (s.setFence u x).clk = s.clk := rfl
@[simp] theorem setFence_ntm (s : State) (u : Nat) (x : Option Fence) : (s.setFence u x).ntm = s.ntm := rfl
@[simp] theorem setFence_meter (s : State) (u : Nat) (x : Option Fence) : (s.setFence u x).meter = s.meter := rfl
@[simp] theorem setFence_pmus (s : State) (u : Nat) (x : Option Fence) : (s.setFence u x).pmus = s.pmus := rfl
@[simp] theorem setFence_acqs (s : State) (u : Nat) (x : Option Fence) : (s.setFence u x).acqs = s.acqs := rfl
@[simp] theorem setFence_tims (s : State) (u : Nat) (x : Option Fence) : (s.setFence u x).tims = s.tims := rfl
@[simp] theorem setFence_tb (s : State) (u : Nat) (x : Option Fence) : (s.setFence u x).tb = s.tb := rfl
@[simp] theorem setFence_stks (s : State) (u : Nat) (x : Option Fence) : (s.setFence u x).stks = s.stks := rfl
@[simp] theorem setFence_bad (s : State) (u : Nat) (x : Option Fence) : (s.setFence u x).bad = s.bad := rfl
@[simp] theorem setFence_stkLog (s : State) (u : Nat) (x : Option Fence) : (s.setFence u x).stkLog = s.stkLog := rfl
@[simp] theorem setFence_lib (s : State) (u : Nat) (x : Option Fence) : (s.setFence u x).lib = s.lib := rfl
@[simp] theorem setFence_hp (s : State) (u : Nat) (x : Option Fence) : (s.setFence u x).hp = s.hp := rfl
@[simp] theorem setFence_ports (s : State) (u : Nat) (x : Option Fence) : (s.setFence u x).ports = s.ports := rfl
@[simp] theorem setFence_dlanes (s : State) (u : Nat) (x : Option Fence) : (s.setFence u x).dlanes = s.dlanes := rfl
@[simp] theorem setFence_grp (s : State) (u : Nat) (x : Option Fence) : (s.setFence u x).grp = s.grp := rfl
@[simp] theorem setFence_wks (s : State) (u : Nat) (x : Option Fence) : (s.setFence u x).wks = s.wks := rfl
@[simp] theorem setFence_cals (s : State) (u : Nat) (x : Option Fence) : (s.setFence u x).cals = s.cals := rfl
@[simp] theorem setFence_corrs (s : State) (u : Nat) (x : Option Fence) : (s.setFence u x).corrs = s.corrs := rfl
@[simp] theorem setFence_gates (s : State) (u : Nat) (x : Option Fence) : (s.setFence u x).gates = s.gates := rfl
@[simp] theorem setFence_tap (s : State) (u : Nat) (x : Option Fence) : (s.setFence u x).tap = s.tap := rfl
@[simp] theorem setFence_ist (s : State) (u : Nat) (x : Option Fence) : (s.setFence u x).ist = s.ist := rfl
@[simp] theorem setFence_wo1 (s : State) (u : Nat) (x : Option Fence) : (s.setFence u x).wo1 = s.wo1 := rfl
@[simp] theorem setFence_rd (s : State) (u : Nat) (x : Option Fence) (i : Nat) : (s.setFence u x).rd i = s.rd i := rfl
@[simp] theorem setFence_f (s : State) (u : Nat) (x : Option Fence) (i : RF) : (s.setFence u x).f i = s.f i := rfl
@[simp] theorem setFence_flag (s : State) (u : Nat) (x : Option Fence) (i : RF) : (s.setFence u x).flag i = s.flag i := rfl
@[simp] theorem setFence_ldByte (s : State) (u : Nat) (x : Option Fence) (i : Nat) : (s.setFence u x).ldByte i = s.ldByte i := rfl
@[simp] theorem setFence_chan (s : State) (u : Nat) (x : Option Fence) (i : Nat) : (s.setFence u x).chan i = s.chan i := rfl
@[simp] theorem setFence_ctx (s : State) (u : Nat) (x : Option Fence) (i : Nat) : (s.setFence u x).ctx i = s.ctx i := rfl
@[simp] theorem setFence_freeBits (s : State) (u : Nat) (x : Option Fence) (i : Nat) : (s.setFence u x).freeBits i = s.freeBits i := rfl

/-! ### setStream -/

@[simp] theorem setStream_regs (s : State) (k : Nat) (x : Stream) : (s.setStream k x).regs = s.regs := rfl
@[simp] theorem setStream_mem (s : State) (k : Nat) (x : Stream) : (s.setStream k x).mem = s.mem := rfl
@[simp] theorem setStream_pending (s : State) (k : Nat) (x : Stream) : (s.setStream k x).pending = s.pending := rfl
@[simp] theorem setStream_fresh (s : State) (k : Nat) (x : Stream) : (s.setStream k x).fresh = s.fresh := rfl
@[simp] theorem setStream_now (s : State) (k : Nat) (x : Stream) : (s.setStream k x).now = s.now := rfl
@[simp] theorem setStream_out (s : State) (k : Nat) (x : Stream) : (s.setStream k x).out = s.out := rfl
@[simp] theorem setStream_sys (s : State) (k : Nat) (x : Stream) : (s.setStream k x).sys = s.sys := rfl
@[simp] theorem setStream_chans (s : State) (k : Nat) (x : Stream) : (s.setStream k x).chans = s.chans := rfl
@[simp] theorem setStream_ctxs (s : State) (k : Nat) (x : Stream) : (s.setStream k x).ctxs = s.ctxs := rfl
@[simp] theorem setStream_fcl (s : State) (k : Nat) (x : Stream) : (s.setStream k x).fcl = s.fcl := rfl
@[simp] theorem setStream_arch (s : State) (k : Nat) (x : Stream) : (s.setStream k x).arch = s.arch := rfl
@[simp] theorem setStream_sec (s : State) (k : Nat) (x : Stream) : (s.setStream k x).sec = s.sec := rfl
@[simp] theorem setStream_clk (s : State) (k : Nat) (x : Stream) : (s.setStream k x).clk = s.clk := rfl
@[simp] theorem setStream_ntm (s : State) (k : Nat) (x : Stream) : (s.setStream k x).ntm = s.ntm := rfl
@[simp] theorem setStream_meter (s : State) (k : Nat) (x : Stream) : (s.setStream k x).meter = s.meter := rfl
@[simp] theorem setStream_pmus (s : State) (k : Nat) (x : Stream) : (s.setStream k x).pmus = s.pmus := rfl
@[simp] theorem setStream_acqs (s : State) (k : Nat) (x : Stream) : (s.setStream k x).acqs = s.acqs := rfl
@[simp] theorem setStream_tims (s : State) (k : Nat) (x : Stream) : (s.setStream k x).tims = s.tims := rfl
@[simp] theorem setStream_tb (s : State) (k : Nat) (x : Stream) : (s.setStream k x).tb = s.tb := rfl
@[simp] theorem setStream_stks (s : State) (k : Nat) (x : Stream) : (s.setStream k x).stks = s.stks := rfl
@[simp] theorem setStream_bad (s : State) (k : Nat) (x : Stream) : (s.setStream k x).bad = s.bad := rfl
@[simp] theorem setStream_stkLog (s : State) (k : Nat) (x : Stream) : (s.setStream k x).stkLog = s.stkLog := rfl
@[simp] theorem setStream_lib (s : State) (k : Nat) (x : Stream) : (s.setStream k x).lib = s.lib := rfl
@[simp] theorem setStream_hp (s : State) (k : Nat) (x : Stream) : (s.setStream k x).hp = s.hp := rfl
@[simp] theorem setStream_ports (s : State) (k : Nat) (x : Stream) : (s.setStream k x).ports = s.ports := rfl
@[simp] theorem setStream_dlanes (s : State) (k : Nat) (x : Stream) : (s.setStream k x).dlanes = s.dlanes := rfl
@[simp] theorem setStream_grp (s : State) (k : Nat) (x : Stream) : (s.setStream k x).grp = s.grp := rfl
@[simp] theorem setStream_wks (s : State) (k : Nat) (x : Stream) : (s.setStream k x).wks = s.wks := rfl
@[simp] theorem setStream_cals (s : State) (k : Nat) (x : Stream) : (s.setStream k x).cals = s.cals := rfl
@[simp] theorem setStream_corrs (s : State) (k : Nat) (x : Stream) : (s.setStream k x).corrs = s.corrs := rfl
@[simp] theorem setStream_gates (s : State) (k : Nat) (x : Stream) : (s.setStream k x).gates = s.gates := rfl
@[simp] theorem setStream_tap (s : State) (k : Nat) (x : Stream) : (s.setStream k x).tap = s.tap := rfl
@[simp] theorem setStream_ist (s : State) (k : Nat) (x : Stream) : (s.setStream k x).ist = s.ist := rfl
@[simp] theorem setStream_wo1 (s : State) (k : Nat) (x : Stream) : (s.setStream k x).wo1 = s.wo1 := rfl
@[simp] theorem setStream_rd (s : State) (k : Nat) (x : Stream) (i : Nat) : (s.setStream k x).rd i = s.rd i := rfl
@[simp] theorem setStream_f (s : State) (k : Nat) (x : Stream) (i : RF) : (s.setStream k x).f i = s.f i := rfl
@[simp] theorem setStream_flag (s : State) (k : Nat) (x : Stream) (i : RF) : (s.setStream k x).flag i = s.flag i := rfl
@[simp] theorem setStream_ldByte (s : State) (k : Nat) (x : Stream) (i : Nat) : (s.setStream k x).ldByte i = s.ldByte i := rfl
@[simp] theorem setStream_chan (s : State) (k : Nat) (x : Stream) (i : Nat) : (s.setStream k x).chan i = s.chan i := rfl
@[simp] theorem setStream_ctx (s : State) (k : Nat) (x : Stream) (i : Nat) : (s.setStream k x).ctx i = s.ctx i := rfl
@[simp] theorem setStream_freeBits (s : State) (k : Nat) (x : Stream) (i : Nat) : (s.setStream k x).freeBits i = s.freeBits i := rfl

/-! ### setSiteCount -/

@[simp] theorem setSiteCount_regs (s : State) (k : Nat) (x : SiteCount) : (s.setSiteCount k x).regs = s.regs := rfl
@[simp] theorem setSiteCount_mem (s : State) (k : Nat) (x : SiteCount) : (s.setSiteCount k x).mem = s.mem := rfl
@[simp] theorem setSiteCount_pending (s : State) (k : Nat) (x : SiteCount) : (s.setSiteCount k x).pending = s.pending := rfl
@[simp] theorem setSiteCount_fresh (s : State) (k : Nat) (x : SiteCount) : (s.setSiteCount k x).fresh = s.fresh := rfl
@[simp] theorem setSiteCount_now (s : State) (k : Nat) (x : SiteCount) : (s.setSiteCount k x).now = s.now := rfl
@[simp] theorem setSiteCount_out (s : State) (k : Nat) (x : SiteCount) : (s.setSiteCount k x).out = s.out := rfl
@[simp] theorem setSiteCount_sys (s : State) (k : Nat) (x : SiteCount) : (s.setSiteCount k x).sys = s.sys := rfl
@[simp] theorem setSiteCount_chans (s : State) (k : Nat) (x : SiteCount) : (s.setSiteCount k x).chans = s.chans := rfl
@[simp] theorem setSiteCount_ctxs (s : State) (k : Nat) (x : SiteCount) : (s.setSiteCount k x).ctxs = s.ctxs := rfl
@[simp] theorem setSiteCount_fcl (s : State) (k : Nat) (x : SiteCount) : (s.setSiteCount k x).fcl = s.fcl := rfl
@[simp] theorem setSiteCount_arch (s : State) (k : Nat) (x : SiteCount) : (s.setSiteCount k x).arch = s.arch := rfl
@[simp] theorem setSiteCount_sec (s : State) (k : Nat) (x : SiteCount) : (s.setSiteCount k x).sec = s.sec := rfl
@[simp] theorem setSiteCount_clk (s : State) (k : Nat) (x : SiteCount) : (s.setSiteCount k x).clk = s.clk := rfl
@[simp] theorem setSiteCount_ntm (s : State) (k : Nat) (x : SiteCount) : (s.setSiteCount k x).ntm = s.ntm := rfl
@[simp] theorem setSiteCount_meter (s : State) (k : Nat) (x : SiteCount) : (s.setSiteCount k x).meter = s.meter := rfl
@[simp] theorem setSiteCount_pmus (s : State) (k : Nat) (x : SiteCount) : (s.setSiteCount k x).pmus = s.pmus := rfl
@[simp] theorem setSiteCount_acqs (s : State) (k : Nat) (x : SiteCount) : (s.setSiteCount k x).acqs = s.acqs := rfl
@[simp] theorem setSiteCount_tims (s : State) (k : Nat) (x : SiteCount) : (s.setSiteCount k x).tims = s.tims := rfl
@[simp] theorem setSiteCount_tb (s : State) (k : Nat) (x : SiteCount) : (s.setSiteCount k x).tb = s.tb := rfl
@[simp] theorem setSiteCount_stks (s : State) (k : Nat) (x : SiteCount) : (s.setSiteCount k x).stks = s.stks := rfl
@[simp] theorem setSiteCount_bad (s : State) (k : Nat) (x : SiteCount) : (s.setSiteCount k x).bad = s.bad := rfl
@[simp] theorem setSiteCount_stkLog (s : State) (k : Nat) (x : SiteCount) : (s.setSiteCount k x).stkLog = s.stkLog := rfl
@[simp] theorem setSiteCount_lib (s : State) (k : Nat) (x : SiteCount) : (s.setSiteCount k x).lib = s.lib := rfl
@[simp] theorem setSiteCount_hp (s : State) (k : Nat) (x : SiteCount) : (s.setSiteCount k x).hp = s.hp := rfl
@[simp] theorem setSiteCount_ports (s : State) (k : Nat) (x : SiteCount) : (s.setSiteCount k x).ports = s.ports := rfl
@[simp] theorem setSiteCount_dlanes (s : State) (k : Nat) (x : SiteCount) : (s.setSiteCount k x).dlanes = s.dlanes := rfl
@[simp] theorem setSiteCount_grp (s : State) (k : Nat) (x : SiteCount) : (s.setSiteCount k x).grp = s.grp := rfl
@[simp] theorem setSiteCount_wks (s : State) (k : Nat) (x : SiteCount) : (s.setSiteCount k x).wks = s.wks := rfl
@[simp] theorem setSiteCount_cals (s : State) (k : Nat) (x : SiteCount) : (s.setSiteCount k x).cals = s.cals := rfl
@[simp] theorem setSiteCount_corrs (s : State) (k : Nat) (x : SiteCount) : (s.setSiteCount k x).corrs = s.corrs := rfl
@[simp] theorem setSiteCount_gates (s : State) (k : Nat) (x : SiteCount) : (s.setSiteCount k x).gates = s.gates := rfl
@[simp] theorem setSiteCount_tap (s : State) (k : Nat) (x : SiteCount) : (s.setSiteCount k x).tap = s.tap := rfl
@[simp] theorem setSiteCount_ist (s : State) (k : Nat) (x : SiteCount) : (s.setSiteCount k x).ist = s.ist := rfl
@[simp] theorem setSiteCount_wo1 (s : State) (k : Nat) (x : SiteCount) : (s.setSiteCount k x).wo1 = s.wo1 := rfl
@[simp] theorem setSiteCount_rd (s : State) (k : Nat) (x : SiteCount) (i : Nat) : (s.setSiteCount k x).rd i = s.rd i := rfl
@[simp] theorem setSiteCount_f (s : State) (k : Nat) (x : SiteCount) (i : RF) : (s.setSiteCount k x).f i = s.f i := rfl
@[simp] theorem setSiteCount_flag (s : State) (k : Nat) (x : SiteCount) (i : RF) : (s.setSiteCount k x).flag i = s.flag i := rfl
@[simp] theorem setSiteCount_ldByte (s : State) (k : Nat) (x : SiteCount) (i : Nat) : (s.setSiteCount k x).ldByte i = s.ldByte i := rfl
@[simp] theorem setSiteCount_chan (s : State) (k : Nat) (x : SiteCount) (i : Nat) : (s.setSiteCount k x).chan i = s.chan i := rfl
@[simp] theorem setSiteCount_ctx (s : State) (k : Nat) (x : SiteCount) (i : Nat) : (s.setSiteCount k x).ctx i = s.ctx i := rfl
@[simp] theorem setSiteCount_freeBits (s : State) (k : Nat) (x : SiteCount) (i : Nat) : (s.setSiteCount k x).freeBits i = s.freeBits i := rfl

/-! ### setRing -/

@[simp] theorem setRing_regs (s : State) (r : Nat) (x : Ring) : (s.setRing r x).regs = s.regs := rfl
@[simp] theorem setRing_mem (s : State) (r : Nat) (x : Ring) : (s.setRing r x).mem = s.mem := rfl
@[simp] theorem setRing_pending (s : State) (r : Nat) (x : Ring) : (s.setRing r x).pending = s.pending := rfl
@[simp] theorem setRing_fresh (s : State) (r : Nat) (x : Ring) : (s.setRing r x).fresh = s.fresh := rfl
@[simp] theorem setRing_now (s : State) (r : Nat) (x : Ring) : (s.setRing r x).now = s.now := rfl
@[simp] theorem setRing_out (s : State) (r : Nat) (x : Ring) : (s.setRing r x).out = s.out := rfl
@[simp] theorem setRing_sys (s : State) (r : Nat) (x : Ring) : (s.setRing r x).sys = s.sys := rfl
@[simp] theorem setRing_chans (s : State) (r : Nat) (x : Ring) : (s.setRing r x).chans = s.chans := rfl
@[simp] theorem setRing_ctxs (s : State) (r : Nat) (x : Ring) : (s.setRing r x).ctxs = s.ctxs := rfl
@[simp] theorem setRing_fcl (s : State) (r : Nat) (x : Ring) : (s.setRing r x).fcl = s.fcl := rfl
@[simp] theorem setRing_arch (s : State) (r : Nat) (x : Ring) : (s.setRing r x).arch = s.arch := rfl
@[simp] theorem setRing_sec (s : State) (r : Nat) (x : Ring) : (s.setRing r x).sec = s.sec := rfl
@[simp] theorem setRing_ldg (s : State) (r : Nat) (x : Ring) : (s.setRing r x).ldg = s.ldg := rfl
@[simp] theorem setRing_clk (s : State) (r : Nat) (x : Ring) : (s.setRing r x).clk = s.clk := rfl
@[simp] theorem setRing_ntm (s : State) (r : Nat) (x : Ring) : (s.setRing r x).ntm = s.ntm := rfl
@[simp] theorem setRing_meter (s : State) (r : Nat) (x : Ring) : (s.setRing r x).meter = s.meter := rfl
@[simp] theorem setRing_pmus (s : State) (r : Nat) (x : Ring) : (s.setRing r x).pmus = s.pmus := rfl
@[simp] theorem setRing_acqs (s : State) (r : Nat) (x : Ring) : (s.setRing r x).acqs = s.acqs := rfl
@[simp] theorem setRing_tims (s : State) (r : Nat) (x : Ring) : (s.setRing r x).tims = s.tims := rfl
@[simp] theorem setRing_tb (s : State) (r : Nat) (x : Ring) : (s.setRing r x).tb = s.tb := rfl
@[simp] theorem setRing_stks (s : State) (r : Nat) (x : Ring) : (s.setRing r x).stks = s.stks := rfl
@[simp] theorem setRing_bad (s : State) (r : Nat) (x : Ring) : (s.setRing r x).bad = s.bad := rfl
@[simp] theorem setRing_stkLog (s : State) (r : Nat) (x : Ring) : (s.setRing r x).stkLog = s.stkLog := rfl
@[simp] theorem setRing_lib (s : State) (r : Nat) (x : Ring) : (s.setRing r x).lib = s.lib := rfl
@[simp] theorem setRing_ports (s : State) (r : Nat) (x : Ring) : (s.setRing r x).ports = s.ports := rfl
@[simp] theorem setRing_dlanes (s : State) (r : Nat) (x : Ring) : (s.setRing r x).dlanes = s.dlanes := rfl
@[simp] theorem setRing_grp (s : State) (r : Nat) (x : Ring) : (s.setRing r x).grp = s.grp := rfl
@[simp] theorem setRing_wks (s : State) (r : Nat) (x : Ring) : (s.setRing r x).wks = s.wks := rfl
@[simp] theorem setRing_cals (s : State) (r : Nat) (x : Ring) : (s.setRing r x).cals = s.cals := rfl
@[simp] theorem setRing_corrs (s : State) (r : Nat) (x : Ring) : (s.setRing r x).corrs = s.corrs := rfl
@[simp] theorem setRing_gates (s : State) (r : Nat) (x : Ring) : (s.setRing r x).gates = s.gates := rfl
@[simp] theorem setRing_tap (s : State) (r : Nat) (x : Ring) : (s.setRing r x).tap = s.tap := rfl
@[simp] theorem setRing_ist (s : State) (r : Nat) (x : Ring) : (s.setRing r x).ist = s.ist := rfl
@[simp] theorem setRing_wo1 (s : State) (r : Nat) (x : Ring) : (s.setRing r x).wo1 = s.wo1 := rfl
@[simp] theorem setRing_rd (s : State) (r : Nat) (x : Ring) (i : Nat) : (s.setRing r x).rd i = s.rd i := rfl
@[simp] theorem setRing_f (s : State) (r : Nat) (x : Ring) (i : RF) : (s.setRing r x).f i = s.f i := rfl
@[simp] theorem setRing_flag (s : State) (r : Nat) (x : Ring) (i : RF) : (s.setRing r x).flag i = s.flag i := rfl
@[simp] theorem setRing_ldByte (s : State) (r : Nat) (x : Ring) (i : Nat) : (s.setRing r x).ldByte i = s.ldByte i := rfl
@[simp] theorem setRing_chan (s : State) (r : Nat) (x : Ring) (i : Nat) : (s.setRing r x).chan i = s.chan i := rfl
@[simp] theorem setRing_ctx (s : State) (r : Nat) (x : Ring) (i : Nat) : (s.setRing r x).ctx i = s.ctx i := rfl
@[simp] theorem setRing_freeBits (s : State) (r : Nat) (x : Ring) (i : Nat) : (s.setRing r x).freeBits i = s.freeBits i := rfl

/-! ### onRing -/

@[simp] theorem onRing_regs (s : State) (r : Nat) (g : Ring → Ring) : (s.onRing r g).regs = s.regs := rfl
@[simp] theorem onRing_mem (s : State) (r : Nat) (g : Ring → Ring) : (s.onRing r g).mem = s.mem := rfl
@[simp] theorem onRing_pending (s : State) (r : Nat) (g : Ring → Ring) : (s.onRing r g).pending = s.pending := rfl
@[simp] theorem onRing_fresh (s : State) (r : Nat) (g : Ring → Ring) : (s.onRing r g).fresh = s.fresh := rfl
@[simp] theorem onRing_now (s : State) (r : Nat) (g : Ring → Ring) : (s.onRing r g).now = s.now := rfl
@[simp] theorem onRing_out (s : State) (r : Nat) (g : Ring → Ring) : (s.onRing r g).out = s.out := rfl
@[simp] theorem onRing_sys (s : State) (r : Nat) (g : Ring → Ring) : (s.onRing r g).sys = s.sys := rfl
@[simp] theorem onRing_chans (s : State) (r : Nat) (g : Ring → Ring) : (s.onRing r g).chans = s.chans := rfl
@[simp] theorem onRing_ctxs (s : State) (r : Nat) (g : Ring → Ring) : (s.onRing r g).ctxs = s.ctxs := rfl
@[simp] theorem onRing_fcl (s : State) (r : Nat) (g : Ring → Ring) : (s.onRing r g).fcl = s.fcl := rfl
@[simp] theorem onRing_arch (s : State) (r : Nat) (g : Ring → Ring) : (s.onRing r g).arch = s.arch := rfl
@[simp] theorem onRing_sec (s : State) (r : Nat) (g : Ring → Ring) : (s.onRing r g).sec = s.sec := rfl
@[simp] theorem onRing_ldg (s : State) (r : Nat) (g : Ring → Ring) : (s.onRing r g).ldg = s.ldg := rfl
@[simp] theorem onRing_clk (s : State) (r : Nat) (g : Ring → Ring) : (s.onRing r g).clk = s.clk := rfl
@[simp] theorem onRing_ntm (s : State) (r : Nat) (g : Ring → Ring) : (s.onRing r g).ntm = s.ntm := rfl
@[simp] theorem onRing_meter (s : State) (r : Nat) (g : Ring → Ring) : (s.onRing r g).meter = s.meter := rfl
@[simp] theorem onRing_pmus (s : State) (r : Nat) (g : Ring → Ring) : (s.onRing r g).pmus = s.pmus := rfl
@[simp] theorem onRing_acqs (s : State) (r : Nat) (g : Ring → Ring) : (s.onRing r g).acqs = s.acqs := rfl
@[simp] theorem onRing_tims (s : State) (r : Nat) (g : Ring → Ring) : (s.onRing r g).tims = s.tims := rfl
@[simp] theorem onRing_tb (s : State) (r : Nat) (g : Ring → Ring) : (s.onRing r g).tb = s.tb := rfl
@[simp] theorem onRing_stks (s : State) (r : Nat) (g : Ring → Ring) : (s.onRing r g).stks = s.stks := rfl
@[simp] theorem onRing_bad (s : State) (r : Nat) (g : Ring → Ring) : (s.onRing r g).bad = s.bad := rfl
@[simp] theorem onRing_stkLog (s : State) (r : Nat) (g : Ring → Ring) : (s.onRing r g).stkLog = s.stkLog := rfl
@[simp] theorem onRing_lib (s : State) (r : Nat) (g : Ring → Ring) : (s.onRing r g).lib = s.lib := rfl
@[simp] theorem onRing_ports (s : State) (r : Nat) (g : Ring → Ring) : (s.onRing r g).ports = s.ports := rfl
@[simp] theorem onRing_dlanes (s : State) (r : Nat) (g : Ring → Ring) : (s.onRing r g).dlanes = s.dlanes := rfl
@[simp] theorem onRing_grp (s : State) (r : Nat) (g : Ring → Ring) : (s.onRing r g).grp = s.grp := rfl
@[simp] theorem onRing_wks (s : State) (r : Nat) (g : Ring → Ring) : (s.onRing r g).wks = s.wks := rfl
@[simp] theorem onRing_cals (s : State) (r : Nat) (g : Ring → Ring) : (s.onRing r g).cals = s.cals := rfl
@[simp] theorem onRing_corrs (s : State) (r : Nat) (g : Ring → Ring) : (s.onRing r g).corrs = s.corrs := rfl
@[simp] theorem onRing_gates (s : State) (r : Nat) (g : Ring → Ring) : (s.onRing r g).gates = s.gates := rfl
@[simp] theorem onRing_tap (s : State) (r : Nat) (g : Ring → Ring) : (s.onRing r g).tap = s.tap := rfl
@[simp] theorem onRing_ist (s : State) (r : Nat) (g : Ring → Ring) : (s.onRing r g).ist = s.ist := rfl
@[simp] theorem onRing_wo1 (s : State) (r : Nat) (g : Ring → Ring) : (s.onRing r g).wo1 = s.wo1 := rfl
@[simp] theorem onRing_rd (s : State) (r : Nat) (g : Ring → Ring) (i : Nat) : (s.onRing r g).rd i = s.rd i := rfl
@[simp] theorem onRing_f (s : State) (r : Nat) (g : Ring → Ring) (i : RF) : (s.onRing r g).f i = s.f i := rfl
@[simp] theorem onRing_flag (s : State) (r : Nat) (g : Ring → Ring) (i : RF) : (s.onRing r g).flag i = s.flag i := rfl
@[simp] theorem onRing_ldByte (s : State) (r : Nat) (g : Ring → Ring) (i : Nat) : (s.onRing r g).ldByte i = s.ldByte i := rfl
@[simp] theorem onRing_chan (s : State) (r : Nat) (g : Ring → Ring) (i : Nat) : (s.onRing r g).chan i = s.chan i := rfl
@[simp] theorem onRing_ctx (s : State) (r : Nat) (g : Ring → Ring) (i : Nat) : (s.onRing r g).ctx i = s.ctx i := rfl
@[simp] theorem onRing_freeBits (s : State) (r : Nat) (g : Ring → Ring) (i : Nat) : (s.onRing r g).freeBits i = s.freeBits i := rfl

/-! ### setPort -/

@[simp] theorem setPort_regs (s : State) (p : Nat) (x : Port) : (s.setPort p x).regs = s.regs := rfl
@[simp] theorem setPort_mem (s : State) (p : Nat) (x : Port) : (s.setPort p x).mem = s.mem := rfl
@[simp] theorem setPort_pending (s : State) (p : Nat) (x : Port) : (s.setPort p x).pending = s.pending := rfl
@[simp] theorem setPort_fresh (s : State) (p : Nat) (x : Port) : (s.setPort p x).fresh = s.fresh := rfl
@[simp] theorem setPort_now (s : State) (p : Nat) (x : Port) : (s.setPort p x).now = s.now := rfl
@[simp] theorem setPort_out (s : State) (p : Nat) (x : Port) : (s.setPort p x).out = s.out := rfl
@[simp] theorem setPort_sys (s : State) (p : Nat) (x : Port) : (s.setPort p x).sys = s.sys := rfl
@[simp] theorem setPort_chans (s : State) (p : Nat) (x : Port) : (s.setPort p x).chans = s.chans := rfl
@[simp] theorem setPort_ctxs (s : State) (p : Nat) (x : Port) : (s.setPort p x).ctxs = s.ctxs := rfl
@[simp] theorem setPort_fcl (s : State) (p : Nat) (x : Port) : (s.setPort p x).fcl = s.fcl := rfl
@[simp] theorem setPort_arch (s : State) (p : Nat) (x : Port) : (s.setPort p x).arch = s.arch := rfl
@[simp] theorem setPort_sec (s : State) (p : Nat) (x : Port) : (s.setPort p x).sec = s.sec := rfl
@[simp] theorem setPort_ldg (s : State) (p : Nat) (x : Port) : (s.setPort p x).ldg = s.ldg := rfl
@[simp] theorem setPort_clk (s : State) (p : Nat) (x : Port) : (s.setPort p x).clk = s.clk := rfl
@[simp] theorem setPort_ntm (s : State) (p : Nat) (x : Port) : (s.setPort p x).ntm = s.ntm := rfl
@[simp] theorem setPort_meter (s : State) (p : Nat) (x : Port) : (s.setPort p x).meter = s.meter := rfl
@[simp] theorem setPort_pmus (s : State) (p : Nat) (x : Port) : (s.setPort p x).pmus = s.pmus := rfl
@[simp] theorem setPort_acqs (s : State) (p : Nat) (x : Port) : (s.setPort p x).acqs = s.acqs := rfl
@[simp] theorem setPort_tims (s : State) (p : Nat) (x : Port) : (s.setPort p x).tims = s.tims := rfl
@[simp] theorem setPort_tb (s : State) (p : Nat) (x : Port) : (s.setPort p x).tb = s.tb := rfl
@[simp] theorem setPort_stks (s : State) (p : Nat) (x : Port) : (s.setPort p x).stks = s.stks := rfl
@[simp] theorem setPort_bad (s : State) (p : Nat) (x : Port) : (s.setPort p x).bad = s.bad := rfl
@[simp] theorem setPort_stkLog (s : State) (p : Nat) (x : Port) : (s.setPort p x).stkLog = s.stkLog := rfl
@[simp] theorem setPort_lib (s : State) (p : Nat) (x : Port) : (s.setPort p x).lib = s.lib := rfl
@[simp] theorem setPort_hp (s : State) (p : Nat) (x : Port) : (s.setPort p x).hp = s.hp := rfl
@[simp] theorem setPort_dlanes (s : State) (p : Nat) (x : Port) : (s.setPort p x).dlanes = s.dlanes := rfl
@[simp] theorem setPort_grp (s : State) (p : Nat) (x : Port) : (s.setPort p x).grp = s.grp := rfl
@[simp] theorem setPort_wks (s : State) (p : Nat) (x : Port) : (s.setPort p x).wks = s.wks := rfl
@[simp] theorem setPort_cals (s : State) (p : Nat) (x : Port) : (s.setPort p x).cals = s.cals := rfl
@[simp] theorem setPort_corrs (s : State) (p : Nat) (x : Port) : (s.setPort p x).corrs = s.corrs := rfl
@[simp] theorem setPort_gates (s : State) (p : Nat) (x : Port) : (s.setPort p x).gates = s.gates := rfl
@[simp] theorem setPort_tap (s : State) (p : Nat) (x : Port) : (s.setPort p x).tap = s.tap := rfl
@[simp] theorem setPort_ist (s : State) (p : Nat) (x : Port) : (s.setPort p x).ist = s.ist := rfl
@[simp] theorem setPort_wo1 (s : State) (p : Nat) (x : Port) : (s.setPort p x).wo1 = s.wo1 := rfl
@[simp] theorem setPort_rd (s : State) (p : Nat) (x : Port) (i : Nat) : (s.setPort p x).rd i = s.rd i := rfl
@[simp] theorem setPort_f (s : State) (p : Nat) (x : Port) (i : RF) : (s.setPort p x).f i = s.f i := rfl
@[simp] theorem setPort_flag (s : State) (p : Nat) (x : Port) (i : RF) : (s.setPort p x).flag i = s.flag i := rfl
@[simp] theorem setPort_ldByte (s : State) (p : Nat) (x : Port) (i : Nat) : (s.setPort p x).ldByte i = s.ldByte i := rfl
@[simp] theorem setPort_chan (s : State) (p : Nat) (x : Port) (i : Nat) : (s.setPort p x).chan i = s.chan i := rfl
@[simp] theorem setPort_ctx (s : State) (p : Nat) (x : Port) (i : Nat) : (s.setPort p x).ctx i = s.ctx i := rfl
@[simp] theorem setPort_freeBits (s : State) (p : Nat) (x : Port) (i : Nat) : (s.setPort p x).freeBits i = s.freeBits i := rfl

/-! ### onPort -/

@[simp] theorem onPort_regs (s : State) (p : Nat) (g : Port → Port) : (s.onPort p g).regs = s.regs := rfl
@[simp] theorem onPort_mem (s : State) (p : Nat) (g : Port → Port) : (s.onPort p g).mem = s.mem := rfl
@[simp] theorem onPort_pending (s : State) (p : Nat) (g : Port → Port) : (s.onPort p g).pending = s.pending := rfl
@[simp] theorem onPort_fresh (s : State) (p : Nat) (g : Port → Port) : (s.onPort p g).fresh = s.fresh := rfl
@[simp] theorem onPort_now (s : State) (p : Nat) (g : Port → Port) : (s.onPort p g).now = s.now := rfl
@[simp] theorem onPort_out (s : State) (p : Nat) (g : Port → Port) : (s.onPort p g).out = s.out := rfl
@[simp] theorem onPort_sys (s : State) (p : Nat) (g : Port → Port) : (s.onPort p g).sys = s.sys := rfl
@[simp] theorem onPort_chans (s : State) (p : Nat) (g : Port → Port) : (s.onPort p g).chans = s.chans := rfl
@[simp] theorem onPort_ctxs (s : State) (p : Nat) (g : Port → Port) : (s.onPort p g).ctxs = s.ctxs := rfl
@[simp] theorem onPort_fcl (s : State) (p : Nat) (g : Port → Port) : (s.onPort p g).fcl = s.fcl := rfl
@[simp] theorem onPort_arch (s : State) (p : Nat) (g : Port → Port) : (s.onPort p g).arch = s.arch := rfl
@[simp] theorem onPort_sec (s : State) (p : Nat) (g : Port → Port) : (s.onPort p g).sec = s.sec := rfl
@[simp] theorem onPort_ldg (s : State) (p : Nat) (g : Port → Port) : (s.onPort p g).ldg = s.ldg := rfl
@[simp] theorem onPort_clk (s : State) (p : Nat) (g : Port → Port) : (s.onPort p g).clk = s.clk := rfl
@[simp] theorem onPort_ntm (s : State) (p : Nat) (g : Port → Port) : (s.onPort p g).ntm = s.ntm := rfl
@[simp] theorem onPort_meter (s : State) (p : Nat) (g : Port → Port) : (s.onPort p g).meter = s.meter := rfl
@[simp] theorem onPort_pmus (s : State) (p : Nat) (g : Port → Port) : (s.onPort p g).pmus = s.pmus := rfl
@[simp] theorem onPort_acqs (s : State) (p : Nat) (g : Port → Port) : (s.onPort p g).acqs = s.acqs := rfl
@[simp] theorem onPort_tims (s : State) (p : Nat) (g : Port → Port) : (s.onPort p g).tims = s.tims := rfl
@[simp] theorem onPort_tb (s : State) (p : Nat) (g : Port → Port) : (s.onPort p g).tb = s.tb := rfl
@[simp] theorem onPort_stks (s : State) (p : Nat) (g : Port → Port) : (s.onPort p g).stks = s.stks := rfl
@[simp] theorem onPort_bad (s : State) (p : Nat) (g : Port → Port) : (s.onPort p g).bad = s.bad := rfl
@[simp] theorem onPort_stkLog (s : State) (p : Nat) (g : Port → Port) : (s.onPort p g).stkLog = s.stkLog := rfl
@[simp] theorem onPort_lib (s : State) (p : Nat) (g : Port → Port) : (s.onPort p g).lib = s.lib := rfl
@[simp] theorem onPort_hp (s : State) (p : Nat) (g : Port → Port) : (s.onPort p g).hp = s.hp := rfl
@[simp] theorem onPort_dlanes (s : State) (p : Nat) (g : Port → Port) : (s.onPort p g).dlanes = s.dlanes := rfl
@[simp] theorem onPort_grp (s : State) (p : Nat) (g : Port → Port) : (s.onPort p g).grp = s.grp := rfl
@[simp] theorem onPort_wks (s : State) (p : Nat) (g : Port → Port) : (s.onPort p g).wks = s.wks := rfl
@[simp] theorem onPort_cals (s : State) (p : Nat) (g : Port → Port) : (s.onPort p g).cals = s.cals := rfl
@[simp] theorem onPort_corrs (s : State) (p : Nat) (g : Port → Port) : (s.onPort p g).corrs = s.corrs := rfl
@[simp] theorem onPort_gates (s : State) (p : Nat) (g : Port → Port) : (s.onPort p g).gates = s.gates := rfl
@[simp] theorem onPort_tap (s : State) (p : Nat) (g : Port → Port) : (s.onPort p g).tap = s.tap := rfl
@[simp] theorem onPort_ist (s : State) (p : Nat) (g : Port → Port) : (s.onPort p g).ist = s.ist := rfl
@[simp] theorem onPort_wo1 (s : State) (p : Nat) (g : Port → Port) : (s.onPort p g).wo1 = s.wo1 := rfl
@[simp] theorem onPort_rd (s : State) (p : Nat) (g : Port → Port) (i : Nat) : (s.onPort p g).rd i = s.rd i := rfl
@[simp] theorem onPort_f (s : State) (p : Nat) (g : Port → Port) (i : RF) : (s.onPort p g).f i = s.f i := rfl
@[simp] theorem onPort_flag (s : State) (p : Nat) (g : Port → Port) (i : RF) : (s.onPort p g).flag i = s.flag i := rfl
@[simp] theorem onPort_ldByte (s : State) (p : Nat) (g : Port → Port) (i : Nat) : (s.onPort p g).ldByte i = s.ldByte i := rfl
@[simp] theorem onPort_chan (s : State) (p : Nat) (g : Port → Port) (i : Nat) : (s.onPort p g).chan i = s.chan i := rfl
@[simp] theorem onPort_ctx (s : State) (p : Nat) (g : Port → Port) (i : Nat) : (s.onPort p g).ctx i = s.ctx i := rfl
@[simp] theorem onPort_freeBits (s : State) (p : Nat) (g : Port → Port) (i : Nat) : (s.onPort p g).freeBits i = s.freeBits i := rfl

/-! ### onDlane -/

@[simp] theorem onDlane_regs (s : State) (j : Nat) (g : DutLane → DutLane) : (s.onDlane j g).regs = s.regs := rfl
@[simp] theorem onDlane_mem (s : State) (j : Nat) (g : DutLane → DutLane) : (s.onDlane j g).mem = s.mem := rfl
@[simp] theorem onDlane_pending (s : State) (j : Nat) (g : DutLane → DutLane) : (s.onDlane j g).pending = s.pending := rfl
@[simp] theorem onDlane_fresh (s : State) (j : Nat) (g : DutLane → DutLane) : (s.onDlane j g).fresh = s.fresh := rfl
@[simp] theorem onDlane_now (s : State) (j : Nat) (g : DutLane → DutLane) : (s.onDlane j g).now = s.now := rfl
@[simp] theorem onDlane_out (s : State) (j : Nat) (g : DutLane → DutLane) : (s.onDlane j g).out = s.out := rfl
@[simp] theorem onDlane_sys (s : State) (j : Nat) (g : DutLane → DutLane) : (s.onDlane j g).sys = s.sys := rfl
@[simp] theorem onDlane_chans (s : State) (j : Nat) (g : DutLane → DutLane) : (s.onDlane j g).chans = s.chans := rfl
@[simp] theorem onDlane_ctxs (s : State) (j : Nat) (g : DutLane → DutLane) : (s.onDlane j g).ctxs = s.ctxs := rfl
@[simp] theorem onDlane_fcl (s : State) (j : Nat) (g : DutLane → DutLane) : (s.onDlane j g).fcl = s.fcl := rfl
@[simp] theorem onDlane_arch (s : State) (j : Nat) (g : DutLane → DutLane) : (s.onDlane j g).arch = s.arch := rfl
@[simp] theorem onDlane_sec (s : State) (j : Nat) (g : DutLane → DutLane) : (s.onDlane j g).sec = s.sec := rfl
@[simp] theorem onDlane_ldg (s : State) (j : Nat) (g : DutLane → DutLane) : (s.onDlane j g).ldg = s.ldg := rfl
@[simp] theorem onDlane_clk (s : State) (j : Nat) (g : DutLane → DutLane) : (s.onDlane j g).clk = s.clk := rfl
@[simp] theorem onDlane_ntm (s : State) (j : Nat) (g : DutLane → DutLane) : (s.onDlane j g).ntm = s.ntm := rfl
@[simp] theorem onDlane_meter (s : State) (j : Nat) (g : DutLane → DutLane) : (s.onDlane j g).meter = s.meter := rfl
@[simp] theorem onDlane_pmus (s : State) (j : Nat) (g : DutLane → DutLane) : (s.onDlane j g).pmus = s.pmus := rfl
@[simp] theorem onDlane_acqs (s : State) (j : Nat) (g : DutLane → DutLane) : (s.onDlane j g).acqs = s.acqs := rfl
@[simp] theorem onDlane_tims (s : State) (j : Nat) (g : DutLane → DutLane) : (s.onDlane j g).tims = s.tims := rfl
@[simp] theorem onDlane_tb (s : State) (j : Nat) (g : DutLane → DutLane) : (s.onDlane j g).tb = s.tb := rfl
@[simp] theorem onDlane_stks (s : State) (j : Nat) (g : DutLane → DutLane) : (s.onDlane j g).stks = s.stks := rfl
@[simp] theorem onDlane_bad (s : State) (j : Nat) (g : DutLane → DutLane) : (s.onDlane j g).bad = s.bad := rfl
@[simp] theorem onDlane_stkLog (s : State) (j : Nat) (g : DutLane → DutLane) : (s.onDlane j g).stkLog = s.stkLog := rfl
@[simp] theorem onDlane_lib (s : State) (j : Nat) (g : DutLane → DutLane) : (s.onDlane j g).lib = s.lib := rfl
@[simp] theorem onDlane_hp (s : State) (j : Nat) (g : DutLane → DutLane) : (s.onDlane j g).hp = s.hp := rfl
@[simp] theorem onDlane_ports (s : State) (j : Nat) (g : DutLane → DutLane) : (s.onDlane j g).ports = s.ports := rfl
@[simp] theorem onDlane_grp (s : State) (j : Nat) (g : DutLane → DutLane) : (s.onDlane j g).grp = s.grp := rfl
@[simp] theorem onDlane_wks (s : State) (j : Nat) (g : DutLane → DutLane) : (s.onDlane j g).wks = s.wks := rfl
@[simp] theorem onDlane_cals (s : State) (j : Nat) (g : DutLane → DutLane) : (s.onDlane j g).cals = s.cals := rfl
@[simp] theorem onDlane_corrs (s : State) (j : Nat) (g : DutLane → DutLane) : (s.onDlane j g).corrs = s.corrs := rfl
@[simp] theorem onDlane_gates (s : State) (j : Nat) (g : DutLane → DutLane) : (s.onDlane j g).gates = s.gates := rfl
@[simp] theorem onDlane_tap (s : State) (j : Nat) (g : DutLane → DutLane) : (s.onDlane j g).tap = s.tap := rfl
@[simp] theorem onDlane_ist (s : State) (j : Nat) (g : DutLane → DutLane) : (s.onDlane j g).ist = s.ist := rfl
@[simp] theorem onDlane_wo1 (s : State) (j : Nat) (g : DutLane → DutLane) : (s.onDlane j g).wo1 = s.wo1 := rfl
@[simp] theorem onDlane_rd (s : State) (j : Nat) (g : DutLane → DutLane) (i : Nat) : (s.onDlane j g).rd i = s.rd i := rfl
@[simp] theorem onDlane_f (s : State) (j : Nat) (g : DutLane → DutLane) (i : RF) : (s.onDlane j g).f i = s.f i := rfl
@[simp] theorem onDlane_flag (s : State) (j : Nat) (g : DutLane → DutLane) (i : RF) : (s.onDlane j g).flag i = s.flag i := rfl
@[simp] theorem onDlane_ldByte (s : State) (j : Nat) (g : DutLane → DutLane) (i : Nat) : (s.onDlane j g).ldByte i = s.ldByte i := rfl
@[simp] theorem onDlane_chan (s : State) (j : Nat) (g : DutLane → DutLane) (i : Nat) : (s.onDlane j g).chan i = s.chan i := rfl
@[simp] theorem onDlane_ctx (s : State) (j : Nat) (g : DutLane → DutLane) (i : Nat) : (s.onDlane j g).ctx i = s.ctx i := rfl
@[simp] theorem onDlane_freeBits (s : State) (j : Nat) (g : DutLane → DutLane) (i : Nat) : (s.onDlane j g).freeBits i = s.freeBits i := rfl

/-! ### onGrp -/

@[simp] theorem onGrp_regs (s : State) (g : Grp → Grp) : (s.onGrp g).regs = s.regs := rfl
@[simp] theorem onGrp_mem (s : State) (g : Grp → Grp) : (s.onGrp g).mem = s.mem := rfl
@[simp] theorem onGrp_pending (s : State) (g : Grp → Grp) : (s.onGrp g).pending = s.pending := rfl
@[simp] theorem onGrp_fresh (s : State) (g : Grp → Grp) : (s.onGrp g).fresh = s.fresh := rfl
@[simp] theorem onGrp_now (s : State) (g : Grp → Grp) : (s.onGrp g).now = s.now := rfl
@[simp] theorem onGrp_out (s : State) (g : Grp → Grp) : (s.onGrp g).out = s.out := rfl
@[simp] theorem onGrp_sys (s : State) (g : Grp → Grp) : (s.onGrp g).sys = s.sys := rfl
@[simp] theorem onGrp_chans (s : State) (g : Grp → Grp) : (s.onGrp g).chans = s.chans := rfl
@[simp] theorem onGrp_ctxs (s : State) (g : Grp → Grp) : (s.onGrp g).ctxs = s.ctxs := rfl
@[simp] theorem onGrp_fcl (s : State) (g : Grp → Grp) : (s.onGrp g).fcl = s.fcl := rfl
@[simp] theorem onGrp_arch (s : State) (g : Grp → Grp) : (s.onGrp g).arch = s.arch := rfl
@[simp] theorem onGrp_sec (s : State) (g : Grp → Grp) : (s.onGrp g).sec = s.sec := rfl
@[simp] theorem onGrp_ldg (s : State) (g : Grp → Grp) : (s.onGrp g).ldg = s.ldg := rfl
@[simp] theorem onGrp_clk (s : State) (g : Grp → Grp) : (s.onGrp g).clk = s.clk := rfl
@[simp] theorem onGrp_ntm (s : State) (g : Grp → Grp) : (s.onGrp g).ntm = s.ntm := rfl
@[simp] theorem onGrp_meter (s : State) (g : Grp → Grp) : (s.onGrp g).meter = s.meter := rfl
@[simp] theorem onGrp_pmus (s : State) (g : Grp → Grp) : (s.onGrp g).pmus = s.pmus := rfl
@[simp] theorem onGrp_acqs (s : State) (g : Grp → Grp) : (s.onGrp g).acqs = s.acqs := rfl
@[simp] theorem onGrp_tims (s : State) (g : Grp → Grp) : (s.onGrp g).tims = s.tims := rfl
@[simp] theorem onGrp_tb (s : State) (g : Grp → Grp) : (s.onGrp g).tb = s.tb := rfl
@[simp] theorem onGrp_stks (s : State) (g : Grp → Grp) : (s.onGrp g).stks = s.stks := rfl
@[simp] theorem onGrp_bad (s : State) (g : Grp → Grp) : (s.onGrp g).bad = s.bad := rfl
@[simp] theorem onGrp_stkLog (s : State) (g : Grp → Grp) : (s.onGrp g).stkLog = s.stkLog := rfl
@[simp] theorem onGrp_lib (s : State) (g : Grp → Grp) : (s.onGrp g).lib = s.lib := rfl
@[simp] theorem onGrp_hp (s : State) (g : Grp → Grp) : (s.onGrp g).hp = s.hp := rfl
@[simp] theorem onGrp_ports (s : State) (g : Grp → Grp) : (s.onGrp g).ports = s.ports := rfl
@[simp] theorem onGrp_dlanes (s : State) (g : Grp → Grp) : (s.onGrp g).dlanes = s.dlanes := rfl
@[simp] theorem onGrp_wks (s : State) (g : Grp → Grp) : (s.onGrp g).wks = s.wks := rfl
@[simp] theorem onGrp_cals (s : State) (g : Grp → Grp) : (s.onGrp g).cals = s.cals := rfl
@[simp] theorem onGrp_corrs (s : State) (g : Grp → Grp) : (s.onGrp g).corrs = s.corrs := rfl
@[simp] theorem onGrp_gates (s : State) (g : Grp → Grp) : (s.onGrp g).gates = s.gates := rfl
@[simp] theorem onGrp_tap (s : State) (g : Grp → Grp) : (s.onGrp g).tap = s.tap := rfl
@[simp] theorem onGrp_ist (s : State) (g : Grp → Grp) : (s.onGrp g).ist = s.ist := rfl
@[simp] theorem onGrp_wo1 (s : State) (g : Grp → Grp) : (s.onGrp g).wo1 = s.wo1 := rfl
@[simp] theorem onGrp_rd (s : State) (g : Grp → Grp) (i : Nat) : (s.onGrp g).rd i = s.rd i := rfl
@[simp] theorem onGrp_f (s : State) (g : Grp → Grp) (i : RF) : (s.onGrp g).f i = s.f i := rfl
@[simp] theorem onGrp_flag (s : State) (g : Grp → Grp) (i : RF) : (s.onGrp g).flag i = s.flag i := rfl
@[simp] theorem onGrp_ldByte (s : State) (g : Grp → Grp) (i : Nat) : (s.onGrp g).ldByte i = s.ldByte i := rfl
@[simp] theorem onGrp_chan (s : State) (g : Grp → Grp) (i : Nat) : (s.onGrp g).chan i = s.chan i := rfl
@[simp] theorem onGrp_ctx (s : State) (g : Grp → Grp) (i : Nat) : (s.onGrp g).ctx i = s.ctx i := rfl
@[simp] theorem onGrp_freeBits (s : State) (g : Grp → Grp) (i : Nat) : (s.onGrp g).freeBits i = s.freeBits i := rfl

/-! ### onWks -/

@[simp] theorem onWks_regs (s : State) (g : Works → Works) : (s.onWks g).regs = s.regs := rfl
@[simp] theorem onWks_mem (s : State) (g : Works → Works) : (s.onWks g).mem = s.mem := rfl
@[simp] theorem onWks_pending (s : State) (g : Works → Works) : (s.onWks g).pending = s.pending := rfl
@[simp] theorem onWks_fresh (s : State) (g : Works → Works) : (s.onWks g).fresh = s.fresh := rfl
@[simp] theorem onWks_now (s : State) (g : Works → Works) : (s.onWks g).now = s.now := rfl
@[simp] theorem onWks_out (s : State) (g : Works → Works) : (s.onWks g).out = s.out := rfl
@[simp] theorem onWks_sys (s : State) (g : Works → Works) : (s.onWks g).sys = s.sys := rfl
@[simp] theorem onWks_chans (s : State) (g : Works → Works) : (s.onWks g).chans = s.chans := rfl
@[simp] theorem onWks_ctxs (s : State) (g : Works → Works) : (s.onWks g).ctxs = s.ctxs := rfl
@[simp] theorem onWks_fcl (s : State) (g : Works → Works) : (s.onWks g).fcl = s.fcl := rfl
@[simp] theorem onWks_arch (s : State) (g : Works → Works) : (s.onWks g).arch = s.arch := rfl
@[simp] theorem onWks_sec (s : State) (g : Works → Works) : (s.onWks g).sec = s.sec := rfl
@[simp] theorem onWks_ldg (s : State) (g : Works → Works) : (s.onWks g).ldg = s.ldg := rfl
@[simp] theorem onWks_clk (s : State) (g : Works → Works) : (s.onWks g).clk = s.clk := rfl
@[simp] theorem onWks_ntm (s : State) (g : Works → Works) : (s.onWks g).ntm = s.ntm := rfl
@[simp] theorem onWks_meter (s : State) (g : Works → Works) : (s.onWks g).meter = s.meter := rfl
@[simp] theorem onWks_pmus (s : State) (g : Works → Works) : (s.onWks g).pmus = s.pmus := rfl
@[simp] theorem onWks_acqs (s : State) (g : Works → Works) : (s.onWks g).acqs = s.acqs := rfl
@[simp] theorem onWks_tims (s : State) (g : Works → Works) : (s.onWks g).tims = s.tims := rfl
@[simp] theorem onWks_tb (s : State) (g : Works → Works) : (s.onWks g).tb = s.tb := rfl
@[simp] theorem onWks_stks (s : State) (g : Works → Works) : (s.onWks g).stks = s.stks := rfl
@[simp] theorem onWks_bad (s : State) (g : Works → Works) : (s.onWks g).bad = s.bad := rfl
@[simp] theorem onWks_stkLog (s : State) (g : Works → Works) : (s.onWks g).stkLog = s.stkLog := rfl
@[simp] theorem onWks_lib (s : State) (g : Works → Works) : (s.onWks g).lib = s.lib := rfl
@[simp] theorem onWks_hp (s : State) (g : Works → Works) : (s.onWks g).hp = s.hp := rfl
@[simp] theorem onWks_ports (s : State) (g : Works → Works) : (s.onWks g).ports = s.ports := rfl
@[simp] theorem onWks_dlanes (s : State) (g : Works → Works) : (s.onWks g).dlanes = s.dlanes := rfl
@[simp] theorem onWks_grp (s : State) (g : Works → Works) : (s.onWks g).grp = s.grp := rfl
@[simp] theorem onWks_cals (s : State) (g : Works → Works) : (s.onWks g).cals = s.cals := rfl
@[simp] theorem onWks_corrs (s : State) (g : Works → Works) : (s.onWks g).corrs = s.corrs := rfl
@[simp] theorem onWks_gates (s : State) (g : Works → Works) : (s.onWks g).gates = s.gates := rfl
@[simp] theorem onWks_tap (s : State) (g : Works → Works) : (s.onWks g).tap = s.tap := rfl
@[simp] theorem onWks_ist (s : State) (g : Works → Works) : (s.onWks g).ist = s.ist := rfl
@[simp] theorem onWks_wo1 (s : State) (g : Works → Works) : (s.onWks g).wo1 = s.wo1 := rfl
@[simp] theorem onWks_rd (s : State) (g : Works → Works) (i : Nat) : (s.onWks g).rd i = s.rd i := rfl
@[simp] theorem onWks_f (s : State) (g : Works → Works) (i : RF) : (s.onWks g).f i = s.f i := rfl
@[simp] theorem onWks_flag (s : State) (g : Works → Works) (i : RF) : (s.onWks g).flag i = s.flag i := rfl
@[simp] theorem onWks_ldByte (s : State) (g : Works → Works) (i : Nat) : (s.onWks g).ldByte i = s.ldByte i := rfl
@[simp] theorem onWks_chan (s : State) (g : Works → Works) (i : Nat) : (s.onWks g).chan i = s.chan i := rfl
@[simp] theorem onWks_ctx (s : State) (g : Works → Works) (i : Nat) : (s.onWks g).ctx i = s.ctx i := rfl
@[simp] theorem onWks_freeBits (s : State) (g : Works → Works) (i : Nat) : (s.onWks g).freeBits i = s.freeBits i := rfl

/-! ### onCal -/

@[simp] theorem onCal_regs (s : State) (b : Nat) (g : Cal → Cal) : (s.onCal b g).regs = s.regs := rfl
@[simp] theorem onCal_mem (s : State) (b : Nat) (g : Cal → Cal) : (s.onCal b g).mem = s.mem := rfl
@[simp] theorem onCal_pending (s : State) (b : Nat) (g : Cal → Cal) : (s.onCal b g).pending = s.pending := rfl
@[simp] theorem onCal_fresh (s : State) (b : Nat) (g : Cal → Cal) : (s.onCal b g).fresh = s.fresh := rfl
@[simp] theorem onCal_now (s : State) (b : Nat) (g : Cal → Cal) : (s.onCal b g).now = s.now := rfl
@[simp] theorem onCal_out (s : State) (b : Nat) (g : Cal → Cal) : (s.onCal b g).out = s.out := rfl
@[simp] theorem onCal_sys (s : State) (b : Nat) (g : Cal → Cal) : (s.onCal b g).sys = s.sys := rfl
@[simp] theorem onCal_chans (s : State) (b : Nat) (g : Cal → Cal) : (s.onCal b g).chans = s.chans := rfl
@[simp] theorem onCal_ctxs (s : State) (b : Nat) (g : Cal → Cal) : (s.onCal b g).ctxs = s.ctxs := rfl
@[simp] theorem onCal_fcl (s : State) (b : Nat) (g : Cal → Cal) : (s.onCal b g).fcl = s.fcl := rfl
@[simp] theorem onCal_arch (s : State) (b : Nat) (g : Cal → Cal) : (s.onCal b g).arch = s.arch := rfl
@[simp] theorem onCal_sec (s : State) (b : Nat) (g : Cal → Cal) : (s.onCal b g).sec = s.sec := rfl
@[simp] theorem onCal_ldg (s : State) (b : Nat) (g : Cal → Cal) : (s.onCal b g).ldg = s.ldg := rfl
@[simp] theorem onCal_clk (s : State) (b : Nat) (g : Cal → Cal) : (s.onCal b g).clk = s.clk := rfl
@[simp] theorem onCal_ntm (s : State) (b : Nat) (g : Cal → Cal) : (s.onCal b g).ntm = s.ntm := rfl
@[simp] theorem onCal_meter (s : State) (b : Nat) (g : Cal → Cal) : (s.onCal b g).meter = s.meter := rfl
@[simp] theorem onCal_pmus (s : State) (b : Nat) (g : Cal → Cal) : (s.onCal b g).pmus = s.pmus := rfl
@[simp] theorem onCal_acqs (s : State) (b : Nat) (g : Cal → Cal) : (s.onCal b g).acqs = s.acqs := rfl
@[simp] theorem onCal_tims (s : State) (b : Nat) (g : Cal → Cal) : (s.onCal b g).tims = s.tims := rfl
@[simp] theorem onCal_tb (s : State) (b : Nat) (g : Cal → Cal) : (s.onCal b g).tb = s.tb := rfl
@[simp] theorem onCal_stks (s : State) (b : Nat) (g : Cal → Cal) : (s.onCal b g).stks = s.stks := rfl
@[simp] theorem onCal_bad (s : State) (b : Nat) (g : Cal → Cal) : (s.onCal b g).bad = s.bad := rfl
@[simp] theorem onCal_stkLog (s : State) (b : Nat) (g : Cal → Cal) : (s.onCal b g).stkLog = s.stkLog := rfl
@[simp] theorem onCal_lib (s : State) (b : Nat) (g : Cal → Cal) : (s.onCal b g).lib = s.lib := rfl
@[simp] theorem onCal_hp (s : State) (b : Nat) (g : Cal → Cal) : (s.onCal b g).hp = s.hp := rfl
@[simp] theorem onCal_ports (s : State) (b : Nat) (g : Cal → Cal) : (s.onCal b g).ports = s.ports := rfl
@[simp] theorem onCal_dlanes (s : State) (b : Nat) (g : Cal → Cal) : (s.onCal b g).dlanes = s.dlanes := rfl
@[simp] theorem onCal_grp (s : State) (b : Nat) (g : Cal → Cal) : (s.onCal b g).grp = s.grp := rfl
@[simp] theorem onCal_wks (s : State) (b : Nat) (g : Cal → Cal) : (s.onCal b g).wks = s.wks := rfl
@[simp] theorem onCal_corrs (s : State) (b : Nat) (g : Cal → Cal) : (s.onCal b g).corrs = s.corrs := rfl
@[simp] theorem onCal_gates (s : State) (b : Nat) (g : Cal → Cal) : (s.onCal b g).gates = s.gates := rfl
@[simp] theorem onCal_tap (s : State) (b : Nat) (g : Cal → Cal) : (s.onCal b g).tap = s.tap := rfl
@[simp] theorem onCal_ist (s : State) (b : Nat) (g : Cal → Cal) : (s.onCal b g).ist = s.ist := rfl
@[simp] theorem onCal_wo1 (s : State) (b : Nat) (g : Cal → Cal) : (s.onCal b g).wo1 = s.wo1 := rfl
@[simp] theorem onCal_rd (s : State) (b : Nat) (g : Cal → Cal) (i : Nat) : (s.onCal b g).rd i = s.rd i := rfl
@[simp] theorem onCal_f (s : State) (b : Nat) (g : Cal → Cal) (i : RF) : (s.onCal b g).f i = s.f i := rfl
@[simp] theorem onCal_flag (s : State) (b : Nat) (g : Cal → Cal) (i : RF) : (s.onCal b g).flag i = s.flag i := rfl
@[simp] theorem onCal_ldByte (s : State) (b : Nat) (g : Cal → Cal) (i : Nat) : (s.onCal b g).ldByte i = s.ldByte i := rfl
@[simp] theorem onCal_chan (s : State) (b : Nat) (g : Cal → Cal) (i : Nat) : (s.onCal b g).chan i = s.chan i := rfl
@[simp] theorem onCal_ctx (s : State) (b : Nat) (g : Cal → Cal) (i : Nat) : (s.onCal b g).ctx i = s.ctx i := rfl
@[simp] theorem onCal_freeBits (s : State) (b : Nat) (g : Cal → Cal) (i : Nat) : (s.onCal b g).freeBits i = s.freeBits i := rfl

/-! ### setStk -/

@[simp] theorem setStk_regs (s : State) (k : Nat) (x : Stack) : (s.setStk k x).regs = s.regs := rfl
@[simp] theorem setStk_mem (s : State) (k : Nat) (x : Stack) : (s.setStk k x).mem = s.mem := rfl
@[simp] theorem setStk_pending (s : State) (k : Nat) (x : Stack) : (s.setStk k x).pending = s.pending := rfl
@[simp] theorem setStk_fresh (s : State) (k : Nat) (x : Stack) : (s.setStk k x).fresh = s.fresh := rfl
@[simp] theorem setStk_now (s : State) (k : Nat) (x : Stack) : (s.setStk k x).now = s.now := rfl
@[simp] theorem setStk_out (s : State) (k : Nat) (x : Stack) : (s.setStk k x).out = s.out := rfl
@[simp] theorem setStk_sys (s : State) (k : Nat) (x : Stack) : (s.setStk k x).sys = s.sys := rfl
@[simp] theorem setStk_chans (s : State) (k : Nat) (x : Stack) : (s.setStk k x).chans = s.chans := rfl
@[simp] theorem setStk_ctxs (s : State) (k : Nat) (x : Stack) : (s.setStk k x).ctxs = s.ctxs := rfl
@[simp] theorem setStk_fcl (s : State) (k : Nat) (x : Stack) : (s.setStk k x).fcl = s.fcl := rfl
@[simp] theorem setStk_arch (s : State) (k : Nat) (x : Stack) : (s.setStk k x).arch = s.arch := rfl
@[simp] theorem setStk_sec (s : State) (k : Nat) (x : Stack) : (s.setStk k x).sec = s.sec := rfl
@[simp] theorem setStk_ldg (s : State) (k : Nat) (x : Stack) : (s.setStk k x).ldg = s.ldg := rfl
@[simp] theorem setStk_clk (s : State) (k : Nat) (x : Stack) : (s.setStk k x).clk = s.clk := rfl
@[simp] theorem setStk_ntm (s : State) (k : Nat) (x : Stack) : (s.setStk k x).ntm = s.ntm := rfl
@[simp] theorem setStk_meter (s : State) (k : Nat) (x : Stack) : (s.setStk k x).meter = s.meter := rfl
@[simp] theorem setStk_pmus (s : State) (k : Nat) (x : Stack) : (s.setStk k x).pmus = s.pmus := rfl
@[simp] theorem setStk_acqs (s : State) (k : Nat) (x : Stack) : (s.setStk k x).acqs = s.acqs := rfl
@[simp] theorem setStk_tims (s : State) (k : Nat) (x : Stack) : (s.setStk k x).tims = s.tims := rfl
@[simp] theorem setStk_tb (s : State) (k : Nat) (x : Stack) : (s.setStk k x).tb = s.tb := rfl
@[simp] theorem setStk_bad (s : State) (k : Nat) (x : Stack) : (s.setStk k x).bad = s.bad := rfl
@[simp] theorem setStk_stkLog (s : State) (k : Nat) (x : Stack) : (s.setStk k x).stkLog = s.stkLog := rfl
@[simp] theorem setStk_lib (s : State) (k : Nat) (x : Stack) : (s.setStk k x).lib = s.lib := rfl
@[simp] theorem setStk_hp (s : State) (k : Nat) (x : Stack) : (s.setStk k x).hp = s.hp := rfl
@[simp] theorem setStk_ports (s : State) (k : Nat) (x : Stack) : (s.setStk k x).ports = s.ports := rfl
@[simp] theorem setStk_dlanes (s : State) (k : Nat) (x : Stack) : (s.setStk k x).dlanes = s.dlanes := rfl
@[simp] theorem setStk_grp (s : State) (k : Nat) (x : Stack) : (s.setStk k x).grp = s.grp := rfl
@[simp] theorem setStk_wks (s : State) (k : Nat) (x : Stack) : (s.setStk k x).wks = s.wks := rfl
@[simp] theorem setStk_cals (s : State) (k : Nat) (x : Stack) : (s.setStk k x).cals = s.cals := rfl
@[simp] theorem setStk_corrs (s : State) (k : Nat) (x : Stack) : (s.setStk k x).corrs = s.corrs := rfl
@[simp] theorem setStk_gates (s : State) (k : Nat) (x : Stack) : (s.setStk k x).gates = s.gates := rfl
@[simp] theorem setStk_tap (s : State) (k : Nat) (x : Stack) : (s.setStk k x).tap = s.tap := rfl
@[simp] theorem setStk_ist (s : State) (k : Nat) (x : Stack) : (s.setStk k x).ist = s.ist := rfl
@[simp] theorem setStk_wo1 (s : State) (k : Nat) (x : Stack) : (s.setStk k x).wo1 = s.wo1 := rfl
@[simp] theorem setStk_rd (s : State) (k : Nat) (x : Stack) (i : Nat) : (s.setStk k x).rd i = s.rd i := rfl
@[simp] theorem setStk_f (s : State) (k : Nat) (x : Stack) (i : RF) : (s.setStk k x).f i = s.f i := rfl
@[simp] theorem setStk_flag (s : State) (k : Nat) (x : Stack) (i : RF) : (s.setStk k x).flag i = s.flag i := rfl
@[simp] theorem setStk_ldByte (s : State) (k : Nat) (x : Stack) (i : Nat) : (s.setStk k x).ldByte i = s.ldByte i := rfl
@[simp] theorem setStk_chan (s : State) (k : Nat) (x : Stack) (i : Nat) : (s.setStk k x).chan i = s.chan i := rfl
@[simp] theorem setStk_ctx (s : State) (k : Nat) (x : Stack) (i : Nat) : (s.setStk k x).ctx i = s.ctx i := rfl
@[simp] theorem setStk_freeBits (s : State) (k : Nat) (x : Stack) (i : Nat) : (s.setStk k x).freeBits i = s.freeBits i := rfl

/-! ### onStk -/

@[simp] theorem onStk_regs (s : State) (k : Nat) (g : Stack → Stack) : (s.onStk k g).regs = s.regs := rfl
@[simp] theorem onStk_mem (s : State) (k : Nat) (g : Stack → Stack) : (s.onStk k g).mem = s.mem := rfl
@[simp] theorem onStk_pending (s : State) (k : Nat) (g : Stack → Stack) : (s.onStk k g).pending = s.pending := rfl
@[simp] theorem onStk_fresh (s : State) (k : Nat) (g : Stack → Stack) : (s.onStk k g).fresh = s.fresh := rfl
@[simp] theorem onStk_now (s : State) (k : Nat) (g : Stack → Stack) : (s.onStk k g).now = s.now := rfl
@[simp] theorem onStk_out (s : State) (k : Nat) (g : Stack → Stack) : (s.onStk k g).out = s.out := rfl
@[simp] theorem onStk_sys (s : State) (k : Nat) (g : Stack → Stack) : (s.onStk k g).sys = s.sys := rfl
@[simp] theorem onStk_chans (s : State) (k : Nat) (g : Stack → Stack) : (s.onStk k g).chans = s.chans := rfl
@[simp] theorem onStk_ctxs (s : State) (k : Nat) (g : Stack → Stack) : (s.onStk k g).ctxs = s.ctxs := rfl
@[simp] theorem onStk_fcl (s : State) (k : Nat) (g : Stack → Stack) : (s.onStk k g).fcl = s.fcl := rfl
@[simp] theorem onStk_arch (s : State) (k : Nat) (g : Stack → Stack) : (s.onStk k g).arch = s.arch := rfl
@[simp] theorem onStk_sec (s : State) (k : Nat) (g : Stack → Stack) : (s.onStk k g).sec = s.sec := rfl
@[simp] theorem onStk_ldg (s : State) (k : Nat) (g : Stack → Stack) : (s.onStk k g).ldg = s.ldg := rfl
@[simp] theorem onStk_clk (s : State) (k : Nat) (g : Stack → Stack) : (s.onStk k g).clk = s.clk := rfl
@[simp] theorem onStk_ntm (s : State) (k : Nat) (g : Stack → Stack) : (s.onStk k g).ntm = s.ntm := rfl
@[simp] theorem onStk_meter (s : State) (k : Nat) (g : Stack → Stack) : (s.onStk k g).meter = s.meter := rfl
@[simp] theorem onStk_pmus (s : State) (k : Nat) (g : Stack → Stack) : (s.onStk k g).pmus = s.pmus := rfl
@[simp] theorem onStk_acqs (s : State) (k : Nat) (g : Stack → Stack) : (s.onStk k g).acqs = s.acqs := rfl
@[simp] theorem onStk_tims (s : State) (k : Nat) (g : Stack → Stack) : (s.onStk k g).tims = s.tims := rfl
@[simp] theorem onStk_tb (s : State) (k : Nat) (g : Stack → Stack) : (s.onStk k g).tb = s.tb := rfl
@[simp] theorem onStk_bad (s : State) (k : Nat) (g : Stack → Stack) : (s.onStk k g).bad = s.bad := rfl
@[simp] theorem onStk_stkLog (s : State) (k : Nat) (g : Stack → Stack) : (s.onStk k g).stkLog = s.stkLog := rfl
@[simp] theorem onStk_lib (s : State) (k : Nat) (g : Stack → Stack) : (s.onStk k g).lib = s.lib := rfl
@[simp] theorem onStk_hp (s : State) (k : Nat) (g : Stack → Stack) : (s.onStk k g).hp = s.hp := rfl
@[simp] theorem onStk_ports (s : State) (k : Nat) (g : Stack → Stack) : (s.onStk k g).ports = s.ports := rfl
@[simp] theorem onStk_dlanes (s : State) (k : Nat) (g : Stack → Stack) : (s.onStk k g).dlanes = s.dlanes := rfl
@[simp] theorem onStk_grp (s : State) (k : Nat) (g : Stack → Stack) : (s.onStk k g).grp = s.grp := rfl
@[simp] theorem onStk_wks (s : State) (k : Nat) (g : Stack → Stack) : (s.onStk k g).wks = s.wks := rfl
@[simp] theorem onStk_cals (s : State) (k : Nat) (g : Stack → Stack) : (s.onStk k g).cals = s.cals := rfl
@[simp] theorem onStk_corrs (s : State) (k : Nat) (g : Stack → Stack) : (s.onStk k g).corrs = s.corrs := rfl
@[simp] theorem onStk_gates (s : State) (k : Nat) (g : Stack → Stack) : (s.onStk k g).gates = s.gates := rfl
@[simp] theorem onStk_tap (s : State) (k : Nat) (g : Stack → Stack) : (s.onStk k g).tap = s.tap := rfl
@[simp] theorem onStk_ist (s : State) (k : Nat) (g : Stack → Stack) : (s.onStk k g).ist = s.ist := rfl
@[simp] theorem onStk_wo1 (s : State) (k : Nat) (g : Stack → Stack) : (s.onStk k g).wo1 = s.wo1 := rfl
@[simp] theorem onStk_rd (s : State) (k : Nat) (g : Stack → Stack) (i : Nat) : (s.onStk k g).rd i = s.rd i := rfl
@[simp] theorem onStk_f (s : State) (k : Nat) (g : Stack → Stack) (i : RF) : (s.onStk k g).f i = s.f i := rfl
@[simp] theorem onStk_flag (s : State) (k : Nat) (g : Stack → Stack) (i : RF) : (s.onStk k g).flag i = s.flag i := rfl
@[simp] theorem onStk_ldByte (s : State) (k : Nat) (g : Stack → Stack) (i : Nat) : (s.onStk k g).ldByte i = s.ldByte i := rfl
@[simp] theorem onStk_chan (s : State) (k : Nat) (g : Stack → Stack) (i : Nat) : (s.onStk k g).chan i = s.chan i := rfl
@[simp] theorem onStk_ctx (s : State) (k : Nat) (g : Stack → Stack) (i : Nat) : (s.onStk k g).ctx i = s.ctx i := rfl
@[simp] theorem onStk_freeBits (s : State) (k : Nat) (g : Stack → Stack) (i : Nat) : (s.onStk k g).freeBits i = s.freeBits i := rfl

/-! ### setBad -/

@[simp] theorem setBad_regs (s : State) (a : Nat) (b : Bool) : (s.setBad a b).regs = s.regs := rfl
@[simp] theorem setBad_mem (s : State) (a : Nat) (b : Bool) : (s.setBad a b).mem = s.mem := rfl
@[simp] theorem setBad_pending (s : State) (a : Nat) (b : Bool) : (s.setBad a b).pending = s.pending := rfl
@[simp] theorem setBad_fresh (s : State) (a : Nat) (b : Bool) : (s.setBad a b).fresh = s.fresh := rfl
@[simp] theorem setBad_now (s : State) (a : Nat) (b : Bool) : (s.setBad a b).now = s.now := rfl
@[simp] theorem setBad_out (s : State) (a : Nat) (b : Bool) : (s.setBad a b).out = s.out := rfl
@[simp] theorem setBad_sys (s : State) (a : Nat) (b : Bool) : (s.setBad a b).sys = s.sys := rfl
@[simp] theorem setBad_chans (s : State) (a : Nat) (b : Bool) : (s.setBad a b).chans = s.chans := rfl
@[simp] theorem setBad_ctxs (s : State) (a : Nat) (b : Bool) : (s.setBad a b).ctxs = s.ctxs := rfl
@[simp] theorem setBad_fcl (s : State) (a : Nat) (b : Bool) : (s.setBad a b).fcl = s.fcl := rfl
@[simp] theorem setBad_arch (s : State) (a : Nat) (b : Bool) : (s.setBad a b).arch = s.arch := rfl
@[simp] theorem setBad_sec (s : State) (a : Nat) (b : Bool) : (s.setBad a b).sec = s.sec := rfl
@[simp] theorem setBad_ldg (s : State) (a : Nat) (b : Bool) : (s.setBad a b).ldg = s.ldg := rfl
@[simp] theorem setBad_clk (s : State) (a : Nat) (b : Bool) : (s.setBad a b).clk = s.clk := rfl
@[simp] theorem setBad_ntm (s : State) (a : Nat) (b : Bool) : (s.setBad a b).ntm = s.ntm := rfl
@[simp] theorem setBad_meter (s : State) (a : Nat) (b : Bool) : (s.setBad a b).meter = s.meter := rfl
@[simp] theorem setBad_pmus (s : State) (a : Nat) (b : Bool) : (s.setBad a b).pmus = s.pmus := rfl
@[simp] theorem setBad_acqs (s : State) (a : Nat) (b : Bool) : (s.setBad a b).acqs = s.acqs := rfl
@[simp] theorem setBad_tims (s : State) (a : Nat) (b : Bool) : (s.setBad a b).tims = s.tims := rfl
@[simp] theorem setBad_tb (s : State) (a : Nat) (b : Bool) : (s.setBad a b).tb = s.tb := rfl
@[simp] theorem setBad_stks (s : State) (a : Nat) (b : Bool) : (s.setBad a b).stks = s.stks := rfl
@[simp] theorem setBad_stkLog (s : State) (a : Nat) (b : Bool) : (s.setBad a b).stkLog = s.stkLog := rfl
@[simp] theorem setBad_lib (s : State) (a : Nat) (b : Bool) : (s.setBad a b).lib = s.lib := rfl
@[simp] theorem setBad_hp (s : State) (a : Nat) (b : Bool) : (s.setBad a b).hp = s.hp := rfl
@[simp] theorem setBad_ports (s : State) (a : Nat) (b : Bool) : (s.setBad a b).ports = s.ports := rfl
@[simp] theorem setBad_dlanes (s : State) (a : Nat) (b : Bool) : (s.setBad a b).dlanes = s.dlanes := rfl
@[simp] theorem setBad_grp (s : State) (a : Nat) (b : Bool) : (s.setBad a b).grp = s.grp := rfl
@[simp] theorem setBad_wks (s : State) (a : Nat) (b : Bool) : (s.setBad a b).wks = s.wks := rfl
@[simp] theorem setBad_cals (s : State) (a : Nat) (b : Bool) : (s.setBad a b).cals = s.cals := rfl
@[simp] theorem setBad_corrs (s : State) (a : Nat) (b : Bool) : (s.setBad a b).corrs = s.corrs := rfl
@[simp] theorem setBad_gates (s : State) (a : Nat) (b : Bool) : (s.setBad a b).gates = s.gates := rfl
@[simp] theorem setBad_tap (s : State) (a : Nat) (b : Bool) : (s.setBad a b).tap = s.tap := rfl
@[simp] theorem setBad_ist (s : State) (a : Nat) (b : Bool) : (s.setBad a b).ist = s.ist := rfl
@[simp] theorem setBad_wo1 (s : State) (a : Nat) (b : Bool) : (s.setBad a b).wo1 = s.wo1 := rfl
@[simp] theorem setBad_rd (s : State) (a : Nat) (b : Bool) (i : Nat) : (s.setBad a b).rd i = s.rd i := rfl
@[simp] theorem setBad_f (s : State) (a : Nat) (b : Bool) (i : RF) : (s.setBad a b).f i = s.f i := rfl
@[simp] theorem setBad_flag (s : State) (a : Nat) (b : Bool) (i : RF) : (s.setBad a b).flag i = s.flag i := rfl
@[simp] theorem setBad_ldByte (s : State) (a : Nat) (b : Bool) (i : Nat) : (s.setBad a b).ldByte i = s.ldByte i := rfl
@[simp] theorem setBad_chan (s : State) (a : Nat) (b : Bool) (i : Nat) : (s.setBad a b).chan i = s.chan i := rfl
@[simp] theorem setBad_ctx (s : State) (a : Nat) (b : Bool) (i : Nat) : (s.setBad a b).ctx i = s.ctx i := rfl
@[simp] theorem setBad_freeBits (s : State) (a : Nat) (b : Bool) (i : Nat) : (s.setBad a b).freeBits i = s.freeBits i := rfl

/-! ### onLib -/

@[simp] theorem onLib_regs (s : State) (g : Lib → Lib) : (s.onLib g).regs = s.regs := rfl
@[simp] theorem onLib_mem (s : State) (g : Lib → Lib) : (s.onLib g).mem = s.mem := rfl
@[simp] theorem onLib_pending (s : State) (g : Lib → Lib) : (s.onLib g).pending = s.pending := rfl
@[simp] theorem onLib_fresh (s : State) (g : Lib → Lib) : (s.onLib g).fresh = s.fresh := rfl
@[simp] theorem onLib_now (s : State) (g : Lib → Lib) : (s.onLib g).now = s.now := rfl
@[simp] theorem onLib_out (s : State) (g : Lib → Lib) : (s.onLib g).out = s.out := rfl
@[simp] theorem onLib_sys (s : State) (g : Lib → Lib) : (s.onLib g).sys = s.sys := rfl
@[simp] theorem onLib_chans (s : State) (g : Lib → Lib) : (s.onLib g).chans = s.chans := rfl
@[simp] theorem onLib_ctxs (s : State) (g : Lib → Lib) : (s.onLib g).ctxs = s.ctxs := rfl
@[simp] theorem onLib_fcl (s : State) (g : Lib → Lib) : (s.onLib g).fcl = s.fcl := rfl
@[simp] theorem onLib_arch (s : State) (g : Lib → Lib) : (s.onLib g).arch = s.arch := rfl
@[simp] theorem onLib_sec (s : State) (g : Lib → Lib) : (s.onLib g).sec = s.sec := rfl
@[simp] theorem onLib_ldg (s : State) (g : Lib → Lib) : (s.onLib g).ldg = s.ldg := rfl
@[simp] theorem onLib_clk (s : State) (g : Lib → Lib) : (s.onLib g).clk = s.clk := rfl
@[simp] theorem onLib_ntm (s : State) (g : Lib → Lib) : (s.onLib g).ntm = s.ntm := rfl
@[simp] theorem onLib_meter (s : State) (g : Lib → Lib) : (s.onLib g).meter = s.meter := rfl
@[simp] theorem onLib_pmus (s : State) (g : Lib → Lib) : (s.onLib g).pmus = s.pmus := rfl
@[simp] theorem onLib_acqs (s : State) (g : Lib → Lib) : (s.onLib g).acqs = s.acqs := rfl
@[simp] theorem onLib_tims (s : State) (g : Lib → Lib) : (s.onLib g).tims = s.tims := rfl
@[simp] theorem onLib_tb (s : State) (g : Lib → Lib) : (s.onLib g).tb = s.tb := rfl
@[simp] theorem onLib_stks (s : State) (g : Lib → Lib) : (s.onLib g).stks = s.stks := rfl
@[simp] theorem onLib_bad (s : State) (g : Lib → Lib) : (s.onLib g).bad = s.bad := rfl
@[simp] theorem onLib_stkLog (s : State) (g : Lib → Lib) : (s.onLib g).stkLog = s.stkLog := rfl
@[simp] theorem onLib_hp (s : State) (g : Lib → Lib) : (s.onLib g).hp = s.hp := rfl
@[simp] theorem onLib_ports (s : State) (g : Lib → Lib) : (s.onLib g).ports = s.ports := rfl
@[simp] theorem onLib_dlanes (s : State) (g : Lib → Lib) : (s.onLib g).dlanes = s.dlanes := rfl
@[simp] theorem onLib_grp (s : State) (g : Lib → Lib) : (s.onLib g).grp = s.grp := rfl
@[simp] theorem onLib_wks (s : State) (g : Lib → Lib) : (s.onLib g).wks = s.wks := rfl
@[simp] theorem onLib_cals (s : State) (g : Lib → Lib) : (s.onLib g).cals = s.cals := rfl
@[simp] theorem onLib_corrs (s : State) (g : Lib → Lib) : (s.onLib g).corrs = s.corrs := rfl
@[simp] theorem onLib_gates (s : State) (g : Lib → Lib) : (s.onLib g).gates = s.gates := rfl
@[simp] theorem onLib_tap (s : State) (g : Lib → Lib) : (s.onLib g).tap = s.tap := rfl
@[simp] theorem onLib_ist (s : State) (g : Lib → Lib) : (s.onLib g).ist = s.ist := rfl
@[simp] theorem onLib_wo1 (s : State) (g : Lib → Lib) : (s.onLib g).wo1 = s.wo1 := rfl
@[simp] theorem onLib_rd (s : State) (g : Lib → Lib) (i : Nat) : (s.onLib g).rd i = s.rd i := rfl
@[simp] theorem onLib_f (s : State) (g : Lib → Lib) (i : RF) : (s.onLib g).f i = s.f i := rfl
@[simp] theorem onLib_flag (s : State) (g : Lib → Lib) (i : RF) : (s.onLib g).flag i = s.flag i := rfl
@[simp] theorem onLib_ldByte (s : State) (g : Lib → Lib) (i : Nat) : (s.onLib g).ldByte i = s.ldByte i := rfl
@[simp] theorem onLib_chan (s : State) (g : Lib → Lib) (i : Nat) : (s.onLib g).chan i = s.chan i := rfl
@[simp] theorem onLib_ctx (s : State) (g : Lib → Lib) (i : Nat) : (s.onLib g).ctx i = s.ctx i := rfl
@[simp] theorem onLib_freeBits (s : State) (g : Lib → Lib) (i : Nat) : (s.onLib g).freeBits i = s.freeBits i := rfl

/-! ### onNtm -/

@[simp] theorem onNtm_regs (s : State) (g : Ntm → Ntm) : (s.onNtm g).regs = s.regs := rfl
@[simp] theorem onNtm_mem (s : State) (g : Ntm → Ntm) : (s.onNtm g).mem = s.mem := rfl
@[simp] theorem onNtm_pending (s : State) (g : Ntm → Ntm) : (s.onNtm g).pending = s.pending := rfl
@[simp] theorem onNtm_fresh (s : State) (g : Ntm → Ntm) : (s.onNtm g).fresh = s.fresh := rfl
@[simp] theorem onNtm_now (s : State) (g : Ntm → Ntm) : (s.onNtm g).now = s.now := rfl
@[simp] theorem onNtm_out (s : State) (g : Ntm → Ntm) : (s.onNtm g).out = s.out := rfl
@[simp] theorem onNtm_sys (s : State) (g : Ntm → Ntm) : (s.onNtm g).sys = s.sys := rfl
@[simp] theorem onNtm_chans (s : State) (g : Ntm → Ntm) : (s.onNtm g).chans = s.chans := rfl
@[simp] theorem onNtm_ctxs (s : State) (g : Ntm → Ntm) : (s.onNtm g).ctxs = s.ctxs := rfl
@[simp] theorem onNtm_fcl (s : State) (g : Ntm → Ntm) : (s.onNtm g).fcl = s.fcl := rfl
@[simp] theorem onNtm_arch (s : State) (g : Ntm → Ntm) : (s.onNtm g).arch = s.arch := rfl
@[simp] theorem onNtm_sec (s : State) (g : Ntm → Ntm) : (s.onNtm g).sec = s.sec := rfl
@[simp] theorem onNtm_ldg (s : State) (g : Ntm → Ntm) : (s.onNtm g).ldg = s.ldg := rfl
@[simp] theorem onNtm_clk (s : State) (g : Ntm → Ntm) : (s.onNtm g).clk = s.clk := rfl
@[simp] theorem onNtm_meter (s : State) (g : Ntm → Ntm) : (s.onNtm g).meter = s.meter := rfl
@[simp] theorem onNtm_pmus (s : State) (g : Ntm → Ntm) : (s.onNtm g).pmus = s.pmus := rfl
@[simp] theorem onNtm_acqs (s : State) (g : Ntm → Ntm) : (s.onNtm g).acqs = s.acqs := rfl
@[simp] theorem onNtm_tims (s : State) (g : Ntm → Ntm) : (s.onNtm g).tims = s.tims := rfl
@[simp] theorem onNtm_tb (s : State) (g : Ntm → Ntm) : (s.onNtm g).tb = s.tb := rfl
@[simp] theorem onNtm_stks (s : State) (g : Ntm → Ntm) : (s.onNtm g).stks = s.stks := rfl
@[simp] theorem onNtm_bad (s : State) (g : Ntm → Ntm) : (s.onNtm g).bad = s.bad := rfl
@[simp] theorem onNtm_stkLog (s : State) (g : Ntm → Ntm) : (s.onNtm g).stkLog = s.stkLog := rfl
@[simp] theorem onNtm_lib (s : State) (g : Ntm → Ntm) : (s.onNtm g).lib = s.lib := rfl
@[simp] theorem onNtm_hp (s : State) (g : Ntm → Ntm) : (s.onNtm g).hp = s.hp := rfl
@[simp] theorem onNtm_ports (s : State) (g : Ntm → Ntm) : (s.onNtm g).ports = s.ports := rfl
@[simp] theorem onNtm_dlanes (s : State) (g : Ntm → Ntm) : (s.onNtm g).dlanes = s.dlanes := rfl
@[simp] theorem onNtm_grp (s : State) (g : Ntm → Ntm) : (s.onNtm g).grp = s.grp := rfl
@[simp] theorem onNtm_wks (s : State) (g : Ntm → Ntm) : (s.onNtm g).wks = s.wks := rfl
@[simp] theorem onNtm_cals (s : State) (g : Ntm → Ntm) : (s.onNtm g).cals = s.cals := rfl
@[simp] theorem onNtm_corrs (s : State) (g : Ntm → Ntm) : (s.onNtm g).corrs = s.corrs := rfl
@[simp] theorem onNtm_gates (s : State) (g : Ntm → Ntm) : (s.onNtm g).gates = s.gates := rfl
@[simp] theorem onNtm_tap (s : State) (g : Ntm → Ntm) : (s.onNtm g).tap = s.tap := rfl
@[simp] theorem onNtm_ist (s : State) (g : Ntm → Ntm) : (s.onNtm g).ist = s.ist := rfl
@[simp] theorem onNtm_wo1 (s : State) (g : Ntm → Ntm) : (s.onNtm g).wo1 = s.wo1 := rfl
@[simp] theorem onNtm_rd (s : State) (g : Ntm → Ntm) (i : Nat) : (s.onNtm g).rd i = s.rd i := rfl
@[simp] theorem onNtm_f (s : State) (g : Ntm → Ntm) (i : RF) : (s.onNtm g).f i = s.f i := rfl
@[simp] theorem onNtm_flag (s : State) (g : Ntm → Ntm) (i : RF) : (s.onNtm g).flag i = s.flag i := rfl
@[simp] theorem onNtm_ldByte (s : State) (g : Ntm → Ntm) (i : Nat) : (s.onNtm g).ldByte i = s.ldByte i := rfl
@[simp] theorem onNtm_chan (s : State) (g : Ntm → Ntm) (i : Nat) : (s.onNtm g).chan i = s.chan i := rfl
@[simp] theorem onNtm_ctx (s : State) (g : Ntm → Ntm) (i : Nat) : (s.onNtm g).ctx i = s.ctx i := rfl
@[simp] theorem onNtm_freeBits (s : State) (g : Ntm → Ntm) (i : Nat) : (s.onNtm g).freeBits i = s.freeBits i := rfl

/-! ### onMeter -/

@[simp] theorem onMeter_regs (s : State) (g : Meter → Meter) : (s.onMeter g).regs = s.regs := rfl
@[simp] theorem onMeter_mem (s : State) (g : Meter → Meter) : (s.onMeter g).mem = s.mem := rfl
@[simp] theorem onMeter_pending (s : State) (g : Meter → Meter) : (s.onMeter g).pending = s.pending := rfl
@[simp] theorem onMeter_fresh (s : State) (g : Meter → Meter) : (s.onMeter g).fresh = s.fresh := rfl
@[simp] theorem onMeter_now (s : State) (g : Meter → Meter) : (s.onMeter g).now = s.now := rfl
@[simp] theorem onMeter_out (s : State) (g : Meter → Meter) : (s.onMeter g).out = s.out := rfl
@[simp] theorem onMeter_sys (s : State) (g : Meter → Meter) : (s.onMeter g).sys = s.sys := rfl
@[simp] theorem onMeter_chans (s : State) (g : Meter → Meter) : (s.onMeter g).chans = s.chans := rfl
@[simp] theorem onMeter_ctxs (s : State) (g : Meter → Meter) : (s.onMeter g).ctxs = s.ctxs := rfl
@[simp] theorem onMeter_fcl (s : State) (g : Meter → Meter) : (s.onMeter g).fcl = s.fcl := rfl
@[simp] theorem onMeter_arch (s : State) (g : Meter → Meter) : (s.onMeter g).arch = s.arch := rfl
@[simp] theorem onMeter_sec (s : State) (g : Meter → Meter) : (s.onMeter g).sec = s.sec := rfl
@[simp] theorem onMeter_ldg (s : State) (g : Meter → Meter) : (s.onMeter g).ldg = s.ldg := rfl
@[simp] theorem onMeter_clk (s : State) (g : Meter → Meter) : (s.onMeter g).clk = s.clk := rfl
@[simp] theorem onMeter_ntm (s : State) (g : Meter → Meter) : (s.onMeter g).ntm = s.ntm := rfl
@[simp] theorem onMeter_pmus (s : State) (g : Meter → Meter) : (s.onMeter g).pmus = s.pmus := rfl
@[simp] theorem onMeter_acqs (s : State) (g : Meter → Meter) : (s.onMeter g).acqs = s.acqs := rfl
@[simp] theorem onMeter_tims (s : State) (g : Meter → Meter) : (s.onMeter g).tims = s.tims := rfl
@[simp] theorem onMeter_tb (s : State) (g : Meter → Meter) : (s.onMeter g).tb = s.tb := rfl
@[simp] theorem onMeter_stks (s : State) (g : Meter → Meter) : (s.onMeter g).stks = s.stks := rfl
@[simp] theorem onMeter_bad (s : State) (g : Meter → Meter) : (s.onMeter g).bad = s.bad := rfl
@[simp] theorem onMeter_stkLog (s : State) (g : Meter → Meter) : (s.onMeter g).stkLog = s.stkLog := rfl
@[simp] theorem onMeter_lib (s : State) (g : Meter → Meter) : (s.onMeter g).lib = s.lib := rfl
@[simp] theorem onMeter_hp (s : State) (g : Meter → Meter) : (s.onMeter g).hp = s.hp := rfl
@[simp] theorem onMeter_ports (s : State) (g : Meter → Meter) : (s.onMeter g).ports = s.ports := rfl
@[simp] theorem onMeter_dlanes (s : State) (g : Meter → Meter) : (s.onMeter g).dlanes = s.dlanes := rfl
@[simp] theorem onMeter_grp (s : State) (g : Meter → Meter) : (s.onMeter g).grp = s.grp := rfl
@[simp] theorem onMeter_wks (s : State) (g : Meter → Meter) : (s.onMeter g).wks = s.wks := rfl
@[simp] theorem onMeter_cals (s : State) (g : Meter → Meter) : (s.onMeter g).cals = s.cals := rfl
@[simp] theorem onMeter_corrs (s : State) (g : Meter → Meter) : (s.onMeter g).corrs = s.corrs := rfl
@[simp] theorem onMeter_gates (s : State) (g : Meter → Meter) : (s.onMeter g).gates = s.gates := rfl
@[simp] theorem onMeter_tap (s : State) (g : Meter → Meter) : (s.onMeter g).tap = s.tap := rfl
@[simp] theorem onMeter_ist (s : State) (g : Meter → Meter) : (s.onMeter g).ist = s.ist := rfl
@[simp] theorem onMeter_wo1 (s : State) (g : Meter → Meter) : (s.onMeter g).wo1 = s.wo1 := rfl
@[simp] theorem onMeter_rd (s : State) (g : Meter → Meter) (i : Nat) : (s.onMeter g).rd i = s.rd i := rfl
@[simp] theorem onMeter_f (s : State) (g : Meter → Meter) (i : RF) : (s.onMeter g).f i = s.f i := rfl
@[simp] theorem onMeter_flag (s : State) (g : Meter → Meter) (i : RF) : (s.onMeter g).flag i = s.flag i := rfl
@[simp] theorem onMeter_ldByte (s : State) (g : Meter → Meter) (i : Nat) : (s.onMeter g).ldByte i = s.ldByte i := rfl
@[simp] theorem onMeter_chan (s : State) (g : Meter → Meter) (i : Nat) : (s.onMeter g).chan i = s.chan i := rfl
@[simp] theorem onMeter_ctx (s : State) (g : Meter → Meter) (i : Nat) : (s.onMeter g).ctx i = s.ctx i := rfl
@[simp] theorem onMeter_freeBits (s : State) (g : Meter → Meter) (i : Nat) : (s.onMeter g).freeBits i = s.freeBits i := rfl

/-! ### setPmu -/

@[simp] theorem setPmu_regs (s : State) (ch : Nat) (x : Pmu) : (s.setPmu ch x).regs = s.regs := rfl
@[simp] theorem setPmu_mem (s : State) (ch : Nat) (x : Pmu) : (s.setPmu ch x).mem = s.mem := rfl
@[simp] theorem setPmu_pending (s : State) (ch : Nat) (x : Pmu) : (s.setPmu ch x).pending = s.pending := rfl
@[simp] theorem setPmu_fresh (s : State) (ch : Nat) (x : Pmu) : (s.setPmu ch x).fresh = s.fresh := rfl
@[simp] theorem setPmu_now (s : State) (ch : Nat) (x : Pmu) : (s.setPmu ch x).now = s.now := rfl
@[simp] theorem setPmu_out (s : State) (ch : Nat) (x : Pmu) : (s.setPmu ch x).out = s.out := rfl
@[simp] theorem setPmu_sys (s : State) (ch : Nat) (x : Pmu) : (s.setPmu ch x).sys = s.sys := rfl
@[simp] theorem setPmu_chans (s : State) (ch : Nat) (x : Pmu) : (s.setPmu ch x).chans = s.chans := rfl
@[simp] theorem setPmu_ctxs (s : State) (ch : Nat) (x : Pmu) : (s.setPmu ch x).ctxs = s.ctxs := rfl
@[simp] theorem setPmu_fcl (s : State) (ch : Nat) (x : Pmu) : (s.setPmu ch x).fcl = s.fcl := rfl
@[simp] theorem setPmu_arch (s : State) (ch : Nat) (x : Pmu) : (s.setPmu ch x).arch = s.arch := rfl
@[simp] theorem setPmu_sec (s : State) (ch : Nat) (x : Pmu) : (s.setPmu ch x).sec = s.sec := rfl
@[simp] theorem setPmu_ldg (s : State) (ch : Nat) (x : Pmu) : (s.setPmu ch x).ldg = s.ldg := rfl
@[simp] theorem setPmu_clk (s : State) (ch : Nat) (x : Pmu) : (s.setPmu ch x).clk = s.clk := rfl
@[simp] theorem setPmu_ntm (s : State) (ch : Nat) (x : Pmu) : (s.setPmu ch x).ntm = s.ntm := rfl
@[simp] theorem setPmu_meter (s : State) (ch : Nat) (x : Pmu) : (s.setPmu ch x).meter = s.meter := rfl
@[simp] theorem setPmu_acqs (s : State) (ch : Nat) (x : Pmu) : (s.setPmu ch x).acqs = s.acqs := rfl
@[simp] theorem setPmu_tims (s : State) (ch : Nat) (x : Pmu) : (s.setPmu ch x).tims = s.tims := rfl
@[simp] theorem setPmu_tb (s : State) (ch : Nat) (x : Pmu) : (s.setPmu ch x).tb = s.tb := rfl
@[simp] theorem setPmu_stks (s : State) (ch : Nat) (x : Pmu) : (s.setPmu ch x).stks = s.stks := rfl
@[simp] theorem setPmu_bad (s : State) (ch : Nat) (x : Pmu) : (s.setPmu ch x).bad = s.bad := rfl
@[simp] theorem setPmu_stkLog (s : State) (ch : Nat) (x : Pmu) : (s.setPmu ch x).stkLog = s.stkLog := rfl
@[simp] theorem setPmu_lib (s : State) (ch : Nat) (x : Pmu) : (s.setPmu ch x).lib = s.lib := rfl
@[simp] theorem setPmu_hp (s : State) (ch : Nat) (x : Pmu) : (s.setPmu ch x).hp = s.hp := rfl
@[simp] theorem setPmu_ports (s : State) (ch : Nat) (x : Pmu) : (s.setPmu ch x).ports = s.ports := rfl
@[simp] theorem setPmu_dlanes (s : State) (ch : Nat) (x : Pmu) : (s.setPmu ch x).dlanes = s.dlanes := rfl
@[simp] theorem setPmu_grp (s : State) (ch : Nat) (x : Pmu) : (s.setPmu ch x).grp = s.grp := rfl
@[simp] theorem setPmu_wks (s : State) (ch : Nat) (x : Pmu) : (s.setPmu ch x).wks = s.wks := rfl
@[simp] theorem setPmu_cals (s : State) (ch : Nat) (x : Pmu) : (s.setPmu ch x).cals = s.cals := rfl
@[simp] theorem setPmu_corrs (s : State) (ch : Nat) (x : Pmu) : (s.setPmu ch x).corrs = s.corrs := rfl
@[simp] theorem setPmu_gates (s : State) (ch : Nat) (x : Pmu) : (s.setPmu ch x).gates = s.gates := rfl
@[simp] theorem setPmu_tap (s : State) (ch : Nat) (x : Pmu) : (s.setPmu ch x).tap = s.tap := rfl
@[simp] theorem setPmu_ist (s : State) (ch : Nat) (x : Pmu) : (s.setPmu ch x).ist = s.ist := rfl
@[simp] theorem setPmu_wo1 (s : State) (ch : Nat) (x : Pmu) : (s.setPmu ch x).wo1 = s.wo1 := rfl
@[simp] theorem setPmu_rd (s : State) (ch : Nat) (x : Pmu) (i : Nat) : (s.setPmu ch x).rd i = s.rd i := rfl
@[simp] theorem setPmu_f (s : State) (ch : Nat) (x : Pmu) (i : RF) : (s.setPmu ch x).f i = s.f i := rfl
@[simp] theorem setPmu_flag (s : State) (ch : Nat) (x : Pmu) (i : RF) : (s.setPmu ch x).flag i = s.flag i := rfl
@[simp] theorem setPmu_ldByte (s : State) (ch : Nat) (x : Pmu) (i : Nat) : (s.setPmu ch x).ldByte i = s.ldByte i := rfl
@[simp] theorem setPmu_chan (s : State) (ch : Nat) (x : Pmu) (i : Nat) : (s.setPmu ch x).chan i = s.chan i := rfl
@[simp] theorem setPmu_ctx (s : State) (ch : Nat) (x : Pmu) (i : Nat) : (s.setPmu ch x).ctx i = s.ctx i := rfl
@[simp] theorem setPmu_freeBits (s : State) (ch : Nat) (x : Pmu) (i : Nat) : (s.setPmu ch x).freeBits i = s.freeBits i := rfl

/-! ### onPmu -/

@[simp] theorem onPmu_regs (s : State) (ch : Nat) (g : Pmu → Pmu) : (s.onPmu ch g).regs = s.regs := rfl
@[simp] theorem onPmu_mem (s : State) (ch : Nat) (g : Pmu → Pmu) : (s.onPmu ch g).mem = s.mem := rfl
@[simp] theorem onPmu_pending (s : State) (ch : Nat) (g : Pmu → Pmu) : (s.onPmu ch g).pending = s.pending := rfl
@[simp] theorem onPmu_fresh (s : State) (ch : Nat) (g : Pmu → Pmu) : (s.onPmu ch g).fresh = s.fresh := rfl
@[simp] theorem onPmu_now (s : State) (ch : Nat) (g : Pmu → Pmu) : (s.onPmu ch g).now = s.now := rfl
@[simp] theorem onPmu_out (s : State) (ch : Nat) (g : Pmu → Pmu) : (s.onPmu ch g).out = s.out := rfl
@[simp] theorem onPmu_sys (s : State) (ch : Nat) (g : Pmu → Pmu) : (s.onPmu ch g).sys = s.sys := rfl
@[simp] theorem onPmu_chans (s : State) (ch : Nat) (g : Pmu → Pmu) : (s.onPmu ch g).chans = s.chans := rfl
@[simp] theorem onPmu_ctxs (s : State) (ch : Nat) (g : Pmu → Pmu) : (s.onPmu ch g).ctxs = s.ctxs := rfl
@[simp] theorem onPmu_fcl (s : State) (ch : Nat) (g : Pmu → Pmu) : (s.onPmu ch g).fcl = s.fcl := rfl
@[simp] theorem onPmu_arch (s : State) (ch : Nat) (g : Pmu → Pmu) : (s.onPmu ch g).arch = s.arch := rfl
@[simp] theorem onPmu_sec (s : State) (ch : Nat) (g : Pmu → Pmu) : (s.onPmu ch g).sec = s.sec := rfl
@[simp] theorem onPmu_ldg (s : State) (ch : Nat) (g : Pmu → Pmu) : (s.onPmu ch g).ldg = s.ldg := rfl
@[simp] theorem onPmu_clk (s : State) (ch : Nat) (g : Pmu → Pmu) : (s.onPmu ch g).clk = s.clk := rfl
@[simp] theorem onPmu_ntm (s : State) (ch : Nat) (g : Pmu → Pmu) : (s.onPmu ch g).ntm = s.ntm := rfl
@[simp] theorem onPmu_meter (s : State) (ch : Nat) (g : Pmu → Pmu) : (s.onPmu ch g).meter = s.meter := rfl
@[simp] theorem onPmu_acqs (s : State) (ch : Nat) (g : Pmu → Pmu) : (s.onPmu ch g).acqs = s.acqs := rfl
@[simp] theorem onPmu_tims (s : State) (ch : Nat) (g : Pmu → Pmu) : (s.onPmu ch g).tims = s.tims := rfl
@[simp] theorem onPmu_tb (s : State) (ch : Nat) (g : Pmu → Pmu) : (s.onPmu ch g).tb = s.tb := rfl
@[simp] theorem onPmu_stks (s : State) (ch : Nat) (g : Pmu → Pmu) : (s.onPmu ch g).stks = s.stks := rfl
@[simp] theorem onPmu_bad (s : State) (ch : Nat) (g : Pmu → Pmu) : (s.onPmu ch g).bad = s.bad := rfl
@[simp] theorem onPmu_stkLog (s : State) (ch : Nat) (g : Pmu → Pmu) : (s.onPmu ch g).stkLog = s.stkLog := rfl
@[simp] theorem onPmu_lib (s : State) (ch : Nat) (g : Pmu → Pmu) : (s.onPmu ch g).lib = s.lib := rfl
@[simp] theorem onPmu_hp (s : State) (ch : Nat) (g : Pmu → Pmu) : (s.onPmu ch g).hp = s.hp := rfl
@[simp] theorem onPmu_ports (s : State) (ch : Nat) (g : Pmu → Pmu) : (s.onPmu ch g).ports = s.ports := rfl
@[simp] theorem onPmu_dlanes (s : State) (ch : Nat) (g : Pmu → Pmu) : (s.onPmu ch g).dlanes = s.dlanes := rfl
@[simp] theorem onPmu_grp (s : State) (ch : Nat) (g : Pmu → Pmu) : (s.onPmu ch g).grp = s.grp := rfl
@[simp] theorem onPmu_wks (s : State) (ch : Nat) (g : Pmu → Pmu) : (s.onPmu ch g).wks = s.wks := rfl
@[simp] theorem onPmu_cals (s : State) (ch : Nat) (g : Pmu → Pmu) : (s.onPmu ch g).cals = s.cals := rfl
@[simp] theorem onPmu_corrs (s : State) (ch : Nat) (g : Pmu → Pmu) : (s.onPmu ch g).corrs = s.corrs := rfl
@[simp] theorem onPmu_gates (s : State) (ch : Nat) (g : Pmu → Pmu) : (s.onPmu ch g).gates = s.gates := rfl
@[simp] theorem onPmu_tap (s : State) (ch : Nat) (g : Pmu → Pmu) : (s.onPmu ch g).tap = s.tap := rfl
@[simp] theorem onPmu_ist (s : State) (ch : Nat) (g : Pmu → Pmu) : (s.onPmu ch g).ist = s.ist := rfl
@[simp] theorem onPmu_wo1 (s : State) (ch : Nat) (g : Pmu → Pmu) : (s.onPmu ch g).wo1 = s.wo1 := rfl
@[simp] theorem onPmu_rd (s : State) (ch : Nat) (g : Pmu → Pmu) (i : Nat) : (s.onPmu ch g).rd i = s.rd i := rfl
@[simp] theorem onPmu_f (s : State) (ch : Nat) (g : Pmu → Pmu) (i : RF) : (s.onPmu ch g).f i = s.f i := rfl
@[simp] theorem onPmu_flag (s : State) (ch : Nat) (g : Pmu → Pmu) (i : RF) : (s.onPmu ch g).flag i = s.flag i := rfl
@[simp] theorem onPmu_ldByte (s : State) (ch : Nat) (g : Pmu → Pmu) (i : Nat) : (s.onPmu ch g).ldByte i = s.ldByte i := rfl
@[simp] theorem onPmu_chan (s : State) (ch : Nat) (g : Pmu → Pmu) (i : Nat) : (s.onPmu ch g).chan i = s.chan i := rfl
@[simp] theorem onPmu_ctx (s : State) (ch : Nat) (g : Pmu → Pmu) (i : Nat) : (s.onPmu ch g).ctx i = s.ctx i := rfl
@[simp] theorem onPmu_freeBits (s : State) (ch : Nat) (g : Pmu → Pmu) (i : Nat) : (s.onPmu ch g).freeBits i = s.freeBits i := rfl

/-! ### setAcq -/

@[simp] theorem setAcq_regs (s : State) (e : Nat) (x : Acq) : (s.setAcq e x).regs = s.regs := rfl
@[simp] theorem setAcq_mem (s : State) (e : Nat) (x : Acq) : (s.setAcq e x).mem = s.mem := rfl
@[simp] theorem setAcq_pending (s : State) (e : Nat) (x : Acq) : (s.setAcq e x).pending = s.pending := rfl
@[simp] theorem setAcq_fresh (s : State) (e : Nat) (x : Acq) : (s.setAcq e x).fresh = s.fresh := rfl
@[simp] theorem setAcq_now (s : State) (e : Nat) (x : Acq) : (s.setAcq e x).now = s.now := rfl
@[simp] theorem setAcq_out (s : State) (e : Nat) (x : Acq) : (s.setAcq e x).out = s.out := rfl
@[simp] theorem setAcq_sys (s : State) (e : Nat) (x : Acq) : (s.setAcq e x).sys = s.sys := rfl
@[simp] theorem setAcq_chans (s : State) (e : Nat) (x : Acq) : (s.setAcq e x).chans = s.chans := rfl
@[simp] theorem setAcq_ctxs (s : State) (e : Nat) (x : Acq) : (s.setAcq e x).ctxs = s.ctxs := rfl
@[simp] theorem setAcq_fcl (s : State) (e : Nat) (x : Acq) : (s.setAcq e x).fcl = s.fcl := rfl
@[simp] theorem setAcq_arch (s : State) (e : Nat) (x : Acq) : (s.setAcq e x).arch = s.arch := rfl
@[simp] theorem setAcq_sec (s : State) (e : Nat) (x : Acq) : (s.setAcq e x).sec = s.sec := rfl
@[simp] theorem setAcq_ldg (s : State) (e : Nat) (x : Acq) : (s.setAcq e x).ldg = s.ldg := rfl
@[simp] theorem setAcq_clk (s : State) (e : Nat) (x : Acq) : (s.setAcq e x).clk = s.clk := rfl
@[simp] theorem setAcq_ntm (s : State) (e : Nat) (x : Acq) : (s.setAcq e x).ntm = s.ntm := rfl
@[simp] theorem setAcq_meter (s : State) (e : Nat) (x : Acq) : (s.setAcq e x).meter = s.meter := rfl
@[simp] theorem setAcq_pmus (s : State) (e : Nat) (x : Acq) : (s.setAcq e x).pmus = s.pmus := rfl
@[simp] theorem setAcq_tims (s : State) (e : Nat) (x : Acq) : (s.setAcq e x).tims = s.tims := rfl
@[simp] theorem setAcq_tb (s : State) (e : Nat) (x : Acq) : (s.setAcq e x).tb = s.tb := rfl
@[simp] theorem setAcq_stks (s : State) (e : Nat) (x : Acq) : (s.setAcq e x).stks = s.stks := rfl
@[simp] theorem setAcq_bad (s : State) (e : Nat) (x : Acq) : (s.setAcq e x).bad = s.bad := rfl
@[simp] theorem setAcq_stkLog (s : State) (e : Nat) (x : Acq) : (s.setAcq e x).stkLog = s.stkLog := rfl
@[simp] theorem setAcq_lib (s : State) (e : Nat) (x : Acq) : (s.setAcq e x).lib = s.lib := rfl
@[simp] theorem setAcq_hp (s : State) (e : Nat) (x : Acq) : (s.setAcq e x).hp = s.hp := rfl
@[simp] theorem setAcq_ports (s : State) (e : Nat) (x : Acq) : (s.setAcq e x).ports = s.ports := rfl
@[simp] theorem setAcq_dlanes (s : State) (e : Nat) (x : Acq) : (s.setAcq e x).dlanes = s.dlanes := rfl
@[simp] theorem setAcq_grp (s : State) (e : Nat) (x : Acq) : (s.setAcq e x).grp = s.grp := rfl
@[simp] theorem setAcq_wks (s : State) (e : Nat) (x : Acq) : (s.setAcq e x).wks = s.wks := rfl
@[simp] theorem setAcq_cals (s : State) (e : Nat) (x : Acq) : (s.setAcq e x).cals = s.cals := rfl
@[simp] theorem setAcq_corrs (s : State) (e : Nat) (x : Acq) : (s.setAcq e x).corrs = s.corrs := rfl
@[simp] theorem setAcq_gates (s : State) (e : Nat) (x : Acq) : (s.setAcq e x).gates = s.gates := rfl
@[simp] theorem setAcq_tap (s : State) (e : Nat) (x : Acq) : (s.setAcq e x).tap = s.tap := rfl
@[simp] theorem setAcq_ist (s : State) (e : Nat) (x : Acq) : (s.setAcq e x).ist = s.ist := rfl
@[simp] theorem setAcq_wo1 (s : State) (e : Nat) (x : Acq) : (s.setAcq e x).wo1 = s.wo1 := rfl
@[simp] theorem setAcq_rd (s : State) (e : Nat) (x : Acq) (i : Nat) : (s.setAcq e x).rd i = s.rd i := rfl
@[simp] theorem setAcq_f (s : State) (e : Nat) (x : Acq) (i : RF) : (s.setAcq e x).f i = s.f i := rfl
@[simp] theorem setAcq_flag (s : State) (e : Nat) (x : Acq) (i : RF) : (s.setAcq e x).flag i = s.flag i := rfl
@[simp] theorem setAcq_ldByte (s : State) (e : Nat) (x : Acq) (i : Nat) : (s.setAcq e x).ldByte i = s.ldByte i := rfl
@[simp] theorem setAcq_chan (s : State) (e : Nat) (x : Acq) (i : Nat) : (s.setAcq e x).chan i = s.chan i := rfl
@[simp] theorem setAcq_ctx (s : State) (e : Nat) (x : Acq) (i : Nat) : (s.setAcq e x).ctx i = s.ctx i := rfl
@[simp] theorem setAcq_freeBits (s : State) (e : Nat) (x : Acq) (i : Nat) : (s.setAcq e x).freeBits i = s.freeBits i := rfl

/-! ### onAcq -/

@[simp] theorem onAcq_regs (s : State) (e : Nat) (g : Acq → Acq) : (s.onAcq e g).regs = s.regs := rfl
@[simp] theorem onAcq_mem (s : State) (e : Nat) (g : Acq → Acq) : (s.onAcq e g).mem = s.mem := rfl
@[simp] theorem onAcq_pending (s : State) (e : Nat) (g : Acq → Acq) : (s.onAcq e g).pending = s.pending := rfl
@[simp] theorem onAcq_fresh (s : State) (e : Nat) (g : Acq → Acq) : (s.onAcq e g).fresh = s.fresh := rfl
@[simp] theorem onAcq_now (s : State) (e : Nat) (g : Acq → Acq) : (s.onAcq e g).now = s.now := rfl
@[simp] theorem onAcq_out (s : State) (e : Nat) (g : Acq → Acq) : (s.onAcq e g).out = s.out := rfl
@[simp] theorem onAcq_sys (s : State) (e : Nat) (g : Acq → Acq) : (s.onAcq e g).sys = s.sys := rfl
@[simp] theorem onAcq_chans (s : State) (e : Nat) (g : Acq → Acq) : (s.onAcq e g).chans = s.chans := rfl
@[simp] theorem onAcq_ctxs (s : State) (e : Nat) (g : Acq → Acq) : (s.onAcq e g).ctxs = s.ctxs := rfl
@[simp] theorem onAcq_fcl (s : State) (e : Nat) (g : Acq → Acq) : (s.onAcq e g).fcl = s.fcl := rfl
@[simp] theorem onAcq_arch (s : State) (e : Nat) (g : Acq → Acq) : (s.onAcq e g).arch = s.arch := rfl
@[simp] theorem onAcq_sec (s : State) (e : Nat) (g : Acq → Acq) : (s.onAcq e g).sec = s.sec := rfl
@[simp] theorem onAcq_ldg (s : State) (e : Nat) (g : Acq → Acq) : (s.onAcq e g).ldg = s.ldg := rfl
@[simp] theorem onAcq_clk (s : State) (e : Nat) (g : Acq → Acq) : (s.onAcq e g).clk = s.clk := rfl
@[simp] theorem onAcq_ntm (s : State) (e : Nat) (g : Acq → Acq) : (s.onAcq e g).ntm = s.ntm := rfl
@[simp] theorem onAcq_meter (s : State) (e : Nat) (g : Acq → Acq) : (s.onAcq e g).meter = s.meter := rfl
@[simp] theorem onAcq_pmus (s : State) (e : Nat) (g : Acq → Acq) : (s.onAcq e g).pmus = s.pmus := rfl
@[simp] theorem onAcq_tims (s : State) (e : Nat) (g : Acq → Acq) : (s.onAcq e g).tims = s.tims := rfl
@[simp] theorem onAcq_tb (s : State) (e : Nat) (g : Acq → Acq) : (s.onAcq e g).tb = s.tb := rfl
@[simp] theorem onAcq_stks (s : State) (e : Nat) (g : Acq → Acq) : (s.onAcq e g).stks = s.stks := rfl
@[simp] theorem onAcq_bad (s : State) (e : Nat) (g : Acq → Acq) : (s.onAcq e g).bad = s.bad := rfl
@[simp] theorem onAcq_stkLog (s : State) (e : Nat) (g : Acq → Acq) : (s.onAcq e g).stkLog = s.stkLog := rfl
@[simp] theorem onAcq_lib (s : State) (e : Nat) (g : Acq → Acq) : (s.onAcq e g).lib = s.lib := rfl
@[simp] theorem onAcq_hp (s : State) (e : Nat) (g : Acq → Acq) : (s.onAcq e g).hp = s.hp := rfl
@[simp] theorem onAcq_ports (s : State) (e : Nat) (g : Acq → Acq) : (s.onAcq e g).ports = s.ports := rfl
@[simp] theorem onAcq_dlanes (s : State) (e : Nat) (g : Acq → Acq) : (s.onAcq e g).dlanes = s.dlanes := rfl
@[simp] theorem onAcq_grp (s : State) (e : Nat) (g : Acq → Acq) : (s.onAcq e g).grp = s.grp := rfl
@[simp] theorem onAcq_wks (s : State) (e : Nat) (g : Acq → Acq) : (s.onAcq e g).wks = s.wks := rfl
@[simp] theorem onAcq_cals (s : State) (e : Nat) (g : Acq → Acq) : (s.onAcq e g).cals = s.cals := rfl
@[simp] theorem onAcq_corrs (s : State) (e : Nat) (g : Acq → Acq) : (s.onAcq e g).corrs = s.corrs := rfl
@[simp] theorem onAcq_gates (s : State) (e : Nat) (g : Acq → Acq) : (s.onAcq e g).gates = s.gates := rfl
@[simp] theorem onAcq_tap (s : State) (e : Nat) (g : Acq → Acq) : (s.onAcq e g).tap = s.tap := rfl
@[simp] theorem onAcq_ist (s : State) (e : Nat) (g : Acq → Acq) : (s.onAcq e g).ist = s.ist := rfl
@[simp] theorem onAcq_wo1 (s : State) (e : Nat) (g : Acq → Acq) : (s.onAcq e g).wo1 = s.wo1 := rfl
@[simp] theorem onAcq_rd (s : State) (e : Nat) (g : Acq → Acq) (i : Nat) : (s.onAcq e g).rd i = s.rd i := rfl
@[simp] theorem onAcq_f (s : State) (e : Nat) (g : Acq → Acq) (i : RF) : (s.onAcq e g).f i = s.f i := rfl
@[simp] theorem onAcq_flag (s : State) (e : Nat) (g : Acq → Acq) (i : RF) : (s.onAcq e g).flag i = s.flag i := rfl
@[simp] theorem onAcq_ldByte (s : State) (e : Nat) (g : Acq → Acq) (i : Nat) : (s.onAcq e g).ldByte i = s.ldByte i := rfl
@[simp] theorem onAcq_chan (s : State) (e : Nat) (g : Acq → Acq) (i : Nat) : (s.onAcq e g).chan i = s.chan i := rfl
@[simp] theorem onAcq_ctx (s : State) (e : Nat) (g : Acq → Acq) (i : Nat) : (s.onAcq e g).ctx i = s.ctx i := rfl
@[simp] theorem onAcq_freeBits (s : State) (e : Nat) (g : Acq → Acq) (i : Nat) : (s.onAcq e g).freeBits i = s.freeBits i := rfl

/-! ### setTim -/

@[simp] theorem setTim_regs (s : State) (k : Nat) (x : Tim) : (s.setTim k x).regs = s.regs := rfl
@[simp] theorem setTim_mem (s : State) (k : Nat) (x : Tim) : (s.setTim k x).mem = s.mem := rfl
@[simp] theorem setTim_pending (s : State) (k : Nat) (x : Tim) : (s.setTim k x).pending = s.pending := rfl
@[simp] theorem setTim_fresh (s : State) (k : Nat) (x : Tim) : (s.setTim k x).fresh = s.fresh := rfl
@[simp] theorem setTim_now (s : State) (k : Nat) (x : Tim) : (s.setTim k x).now = s.now := rfl
@[simp] theorem setTim_out (s : State) (k : Nat) (x : Tim) : (s.setTim k x).out = s.out := rfl
@[simp] theorem setTim_sys (s : State) (k : Nat) (x : Tim) : (s.setTim k x).sys = s.sys := rfl
@[simp] theorem setTim_chans (s : State) (k : Nat) (x : Tim) : (s.setTim k x).chans = s.chans := rfl
@[simp] theorem setTim_ctxs (s : State) (k : Nat) (x : Tim) : (s.setTim k x).ctxs = s.ctxs := rfl
@[simp] theorem setTim_fcl (s : State) (k : Nat) (x : Tim) : (s.setTim k x).fcl = s.fcl := rfl
@[simp] theorem setTim_arch (s : State) (k : Nat) (x : Tim) : (s.setTim k x).arch = s.arch := rfl
@[simp] theorem setTim_sec (s : State) (k : Nat) (x : Tim) : (s.setTim k x).sec = s.sec := rfl
@[simp] theorem setTim_ldg (s : State) (k : Nat) (x : Tim) : (s.setTim k x).ldg = s.ldg := rfl
@[simp] theorem setTim_clk (s : State) (k : Nat) (x : Tim) : (s.setTim k x).clk = s.clk := rfl
@[simp] theorem setTim_ntm (s : State) (k : Nat) (x : Tim) : (s.setTim k x).ntm = s.ntm := rfl
@[simp] theorem setTim_meter (s : State) (k : Nat) (x : Tim) : (s.setTim k x).meter = s.meter := rfl
@[simp] theorem setTim_pmus (s : State) (k : Nat) (x : Tim) : (s.setTim k x).pmus = s.pmus := rfl
@[simp] theorem setTim_acqs (s : State) (k : Nat) (x : Tim) : (s.setTim k x).acqs = s.acqs := rfl
@[simp] theorem setTim_tb (s : State) (k : Nat) (x : Tim) : (s.setTim k x).tb = s.tb := rfl
@[simp] theorem setTim_stks (s : State) (k : Nat) (x : Tim) : (s.setTim k x).stks = s.stks := rfl
@[simp] theorem setTim_bad (s : State) (k : Nat) (x : Tim) : (s.setTim k x).bad = s.bad := rfl
@[simp] theorem setTim_stkLog (s : State) (k : Nat) (x : Tim) : (s.setTim k x).stkLog = s.stkLog := rfl
@[simp] theorem setTim_lib (s : State) (k : Nat) (x : Tim) : (s.setTim k x).lib = s.lib := rfl
@[simp] theorem setTim_hp (s : State) (k : Nat) (x : Tim) : (s.setTim k x).hp = s.hp := rfl
@[simp] theorem setTim_ports (s : State) (k : Nat) (x : Tim) : (s.setTim k x).ports = s.ports := rfl
@[simp] theorem setTim_dlanes (s : State) (k : Nat) (x : Tim) : (s.setTim k x).dlanes = s.dlanes := rfl
@[simp] theorem setTim_grp (s : State) (k : Nat) (x : Tim) : (s.setTim k x).grp = s.grp := rfl
@[simp] theorem setTim_wks (s : State) (k : Nat) (x : Tim) : (s.setTim k x).wks = s.wks := rfl
@[simp] theorem setTim_cals (s : State) (k : Nat) (x : Tim) : (s.setTim k x).cals = s.cals := rfl
@[simp] theorem setTim_corrs (s : State) (k : Nat) (x : Tim) : (s.setTim k x).corrs = s.corrs := rfl
@[simp] theorem setTim_gates (s : State) (k : Nat) (x : Tim) : (s.setTim k x).gates = s.gates := rfl
@[simp] theorem setTim_tap (s : State) (k : Nat) (x : Tim) : (s.setTim k x).tap = s.tap := rfl
@[simp] theorem setTim_ist (s : State) (k : Nat) (x : Tim) : (s.setTim k x).ist = s.ist := rfl
@[simp] theorem setTim_wo1 (s : State) (k : Nat) (x : Tim) : (s.setTim k x).wo1 = s.wo1 := rfl
@[simp] theorem setTim_rd (s : State) (k : Nat) (x : Tim) (i : Nat) : (s.setTim k x).rd i = s.rd i := rfl
@[simp] theorem setTim_f (s : State) (k : Nat) (x : Tim) (i : RF) : (s.setTim k x).f i = s.f i := rfl
@[simp] theorem setTim_flag (s : State) (k : Nat) (x : Tim) (i : RF) : (s.setTim k x).flag i = s.flag i := rfl
@[simp] theorem setTim_ldByte (s : State) (k : Nat) (x : Tim) (i : Nat) : (s.setTim k x).ldByte i = s.ldByte i := rfl
@[simp] theorem setTim_chan (s : State) (k : Nat) (x : Tim) (i : Nat) : (s.setTim k x).chan i = s.chan i := rfl
@[simp] theorem setTim_ctx (s : State) (k : Nat) (x : Tim) (i : Nat) : (s.setTim k x).ctx i = s.ctx i := rfl
@[simp] theorem setTim_freeBits (s : State) (k : Nat) (x : Tim) (i : Nat) : (s.setTim k x).freeBits i = s.freeBits i := rfl

/-! ### onTim -/

@[simp] theorem onTim_regs (s : State) (k : Nat) (g : Tim → Tim) : (s.onTim k g).regs = s.regs := rfl
@[simp] theorem onTim_mem (s : State) (k : Nat) (g : Tim → Tim) : (s.onTim k g).mem = s.mem := rfl
@[simp] theorem onTim_pending (s : State) (k : Nat) (g : Tim → Tim) : (s.onTim k g).pending = s.pending := rfl
@[simp] theorem onTim_fresh (s : State) (k : Nat) (g : Tim → Tim) : (s.onTim k g).fresh = s.fresh := rfl
@[simp] theorem onTim_now (s : State) (k : Nat) (g : Tim → Tim) : (s.onTim k g).now = s.now := rfl
@[simp] theorem onTim_out (s : State) (k : Nat) (g : Tim → Tim) : (s.onTim k g).out = s.out := rfl
@[simp] theorem onTim_sys (s : State) (k : Nat) (g : Tim → Tim) : (s.onTim k g).sys = s.sys := rfl
@[simp] theorem onTim_chans (s : State) (k : Nat) (g : Tim → Tim) : (s.onTim k g).chans = s.chans := rfl
@[simp] theorem onTim_ctxs (s : State) (k : Nat) (g : Tim → Tim) : (s.onTim k g).ctxs = s.ctxs := rfl
@[simp] theorem onTim_fcl (s : State) (k : Nat) (g : Tim → Tim) : (s.onTim k g).fcl = s.fcl := rfl
@[simp] theorem onTim_arch (s : State) (k : Nat) (g : Tim → Tim) : (s.onTim k g).arch = s.arch := rfl
@[simp] theorem onTim_sec (s : State) (k : Nat) (g : Tim → Tim) : (s.onTim k g).sec = s.sec := rfl
@[simp] theorem onTim_ldg (s : State) (k : Nat) (g : Tim → Tim) : (s.onTim k g).ldg = s.ldg := rfl
@[simp] theorem onTim_clk (s : State) (k : Nat) (g : Tim → Tim) : (s.onTim k g).clk = s.clk := rfl
@[simp] theorem onTim_ntm (s : State) (k : Nat) (g : Tim → Tim) : (s.onTim k g).ntm = s.ntm := rfl
@[simp] theorem onTim_meter (s : State) (k : Nat) (g : Tim → Tim) : (s.onTim k g).meter = s.meter := rfl
@[simp] theorem onTim_pmus (s : State) (k : Nat) (g : Tim → Tim) : (s.onTim k g).pmus = s.pmus := rfl
@[simp] theorem onTim_acqs (s : State) (k : Nat) (g : Tim → Tim) : (s.onTim k g).acqs = s.acqs := rfl
@[simp] theorem onTim_tb (s : State) (k : Nat) (g : Tim → Tim) : (s.onTim k g).tb = s.tb := rfl
@[simp] theorem onTim_stks (s : State) (k : Nat) (g : Tim → Tim) : (s.onTim k g).stks = s.stks := rfl
@[simp] theorem onTim_bad (s : State) (k : Nat) (g : Tim → Tim) : (s.onTim k g).bad = s.bad := rfl
@[simp] theorem onTim_stkLog (s : State) (k : Nat) (g : Tim → Tim) : (s.onTim k g).stkLog = s.stkLog := rfl
@[simp] theorem onTim_lib (s : State) (k : Nat) (g : Tim → Tim) : (s.onTim k g).lib = s.lib := rfl
@[simp] theorem onTim_hp (s : State) (k : Nat) (g : Tim → Tim) : (s.onTim k g).hp = s.hp := rfl
@[simp] theorem onTim_ports (s : State) (k : Nat) (g : Tim → Tim) : (s.onTim k g).ports = s.ports := rfl
@[simp] theorem onTim_dlanes (s : State) (k : Nat) (g : Tim → Tim) : (s.onTim k g).dlanes = s.dlanes := rfl
@[simp] theorem onTim_grp (s : State) (k : Nat) (g : Tim → Tim) : (s.onTim k g).grp = s.grp := rfl
@[simp] theorem onTim_wks (s : State) (k : Nat) (g : Tim → Tim) : (s.onTim k g).wks = s.wks := rfl
@[simp] theorem onTim_cals (s : State) (k : Nat) (g : Tim → Tim) : (s.onTim k g).cals = s.cals := rfl
@[simp] theorem onTim_corrs (s : State) (k : Nat) (g : Tim → Tim) : (s.onTim k g).corrs = s.corrs := rfl
@[simp] theorem onTim_gates (s : State) (k : Nat) (g : Tim → Tim) : (s.onTim k g).gates = s.gates := rfl
@[simp] theorem onTim_tap (s : State) (k : Nat) (g : Tim → Tim) : (s.onTim k g).tap = s.tap := rfl
@[simp] theorem onTim_ist (s : State) (k : Nat) (g : Tim → Tim) : (s.onTim k g).ist = s.ist := rfl
@[simp] theorem onTim_wo1 (s : State) (k : Nat) (g : Tim → Tim) : (s.onTim k g).wo1 = s.wo1 := rfl
@[simp] theorem onTim_rd (s : State) (k : Nat) (g : Tim → Tim) (i : Nat) : (s.onTim k g).rd i = s.rd i := rfl
@[simp] theorem onTim_f (s : State) (k : Nat) (g : Tim → Tim) (i : RF) : (s.onTim k g).f i = s.f i := rfl
@[simp] theorem onTim_flag (s : State) (k : Nat) (g : Tim → Tim) (i : RF) : (s.onTim k g).flag i = s.flag i := rfl
@[simp] theorem onTim_ldByte (s : State) (k : Nat) (g : Tim → Tim) (i : Nat) : (s.onTim k g).ldByte i = s.ldByte i := rfl
@[simp] theorem onTim_chan (s : State) (k : Nat) (g : Tim → Tim) (i : Nat) : (s.onTim k g).chan i = s.chan i := rfl
@[simp] theorem onTim_ctx (s : State) (k : Nat) (g : Tim → Tim) (i : Nat) : (s.onTim k g).ctx i = s.ctx i := rfl
@[simp] theorem onTim_freeBits (s : State) (k : Nat) (g : Tim → Tim) (i : Nat) : (s.onTim k g).freeBits i = s.freeBits i := rfl

/-! ### onIst -/

@[simp] theorem onIst_regs (s : State) (g : Inventory → Inventory) : (s.onIst g).regs = s.regs := rfl
@[simp] theorem onIst_mem (s : State) (g : Inventory → Inventory) : (s.onIst g).mem = s.mem := rfl
@[simp] theorem onIst_pending (s : State) (g : Inventory → Inventory) : (s.onIst g).pending = s.pending := rfl
@[simp] theorem onIst_fresh (s : State) (g : Inventory → Inventory) : (s.onIst g).fresh = s.fresh := rfl
@[simp] theorem onIst_now (s : State) (g : Inventory → Inventory) : (s.onIst g).now = s.now := rfl
@[simp] theorem onIst_out (s : State) (g : Inventory → Inventory) : (s.onIst g).out = s.out := rfl
@[simp] theorem onIst_sys (s : State) (g : Inventory → Inventory) : (s.onIst g).sys = s.sys := rfl
@[simp] theorem onIst_chans (s : State) (g : Inventory → Inventory) : (s.onIst g).chans = s.chans := rfl
@[simp] theorem onIst_ctxs (s : State) (g : Inventory → Inventory) : (s.onIst g).ctxs = s.ctxs := rfl
@[simp] theorem onIst_fcl (s : State) (g : Inventory → Inventory) : (s.onIst g).fcl = s.fcl := rfl
@[simp] theorem onIst_arch (s : State) (g : Inventory → Inventory) : (s.onIst g).arch = s.arch := rfl
@[simp] theorem onIst_sec (s : State) (g : Inventory → Inventory) : (s.onIst g).sec = s.sec := rfl
@[simp] theorem onIst_ldg (s : State) (g : Inventory → Inventory) : (s.onIst g).ldg = s.ldg := rfl
@[simp] theorem onIst_clk (s : State) (g : Inventory → Inventory) : (s.onIst g).clk = s.clk := rfl
@[simp] theorem onIst_ntm (s : State) (g : Inventory → Inventory) : (s.onIst g).ntm = s.ntm := rfl
@[simp] theorem onIst_meter (s : State) (g : Inventory → Inventory) : (s.onIst g).meter = s.meter := rfl
@[simp] theorem onIst_pmus (s : State) (g : Inventory → Inventory) : (s.onIst g).pmus = s.pmus := rfl
@[simp] theorem onIst_acqs (s : State) (g : Inventory → Inventory) : (s.onIst g).acqs = s.acqs := rfl
@[simp] theorem onIst_tims (s : State) (g : Inventory → Inventory) : (s.onIst g).tims = s.tims := rfl
@[simp] theorem onIst_tb (s : State) (g : Inventory → Inventory) : (s.onIst g).tb = s.tb := rfl
@[simp] theorem onIst_stks (s : State) (g : Inventory → Inventory) : (s.onIst g).stks = s.stks := rfl
@[simp] theorem onIst_bad (s : State) (g : Inventory → Inventory) : (s.onIst g).bad = s.bad := rfl
@[simp] theorem onIst_stkLog (s : State) (g : Inventory → Inventory) : (s.onIst g).stkLog = s.stkLog := rfl
@[simp] theorem onIst_lib (s : State) (g : Inventory → Inventory) : (s.onIst g).lib = s.lib := rfl
@[simp] theorem onIst_hp (s : State) (g : Inventory → Inventory) : (s.onIst g).hp = s.hp := rfl
@[simp] theorem onIst_ports (s : State) (g : Inventory → Inventory) : (s.onIst g).ports = s.ports := rfl
@[simp] theorem onIst_dlanes (s : State) (g : Inventory → Inventory) : (s.onIst g).dlanes = s.dlanes := rfl
@[simp] theorem onIst_grp (s : State) (g : Inventory → Inventory) : (s.onIst g).grp = s.grp := rfl
@[simp] theorem onIst_wks (s : State) (g : Inventory → Inventory) : (s.onIst g).wks = s.wks := rfl
@[simp] theorem onIst_cals (s : State) (g : Inventory → Inventory) : (s.onIst g).cals = s.cals := rfl
@[simp] theorem onIst_corrs (s : State) (g : Inventory → Inventory) : (s.onIst g).corrs = s.corrs := rfl
@[simp] theorem onIst_gates (s : State) (g : Inventory → Inventory) : (s.onIst g).gates = s.gates := rfl
@[simp] theorem onIst_tap (s : State) (g : Inventory → Inventory) : (s.onIst g).tap = s.tap := rfl
@[simp] theorem onIst_wo1 (s : State) (g : Inventory → Inventory) : (s.onIst g).wo1 = s.wo1 := rfl
@[simp] theorem onIst_rd (s : State) (g : Inventory → Inventory) (i : Nat) : (s.onIst g).rd i = s.rd i := rfl
@[simp] theorem onIst_f (s : State) (g : Inventory → Inventory) (i : RF) : (s.onIst g).f i = s.f i := rfl
@[simp] theorem onIst_flag (s : State) (g : Inventory → Inventory) (i : RF) : (s.onIst g).flag i = s.flag i := rfl
@[simp] theorem onIst_ldByte (s : State) (g : Inventory → Inventory) (i : Nat) : (s.onIst g).ldByte i = s.ldByte i := rfl
@[simp] theorem onIst_chan (s : State) (g : Inventory → Inventory) (i : Nat) : (s.onIst g).chan i = s.chan i := rfl
@[simp] theorem onIst_ctx (s : State) (g : Inventory → Inventory) (i : Nat) : (s.onIst g).ctx i = s.ctx i := rfl
@[simp] theorem onIst_freeBits (s : State) (g : Inventory → Inventory) (i : Nat) : (s.onIst g).freeBits i = s.freeBits i := rfl

/-! ### What an update writes -/

@[simp] theorem emit_out (s : State) (o : Out) : (s.emit o).out = s.out ++ [o] := rfl
@[simp] theorem nextFree_fresh (s : State) : s.nextFree.fresh = s.fresh + 1 := rfl
@[simp] theorem chan_setChan_same (s : State) (k : Nat) (x : Chan) : (s.setChan k x).chan k = x := SMap.get_put_same ..
theorem chan_setChan_ne (s : State) {k j : Nat} (x : Chan) (h : j ≠ k) : (s.setChan k x).chan j = s.chan j := SMap.get_put_ne _ _ _ _ h
@[simp] theorem chan_onChan_same (s : State) (k : Nat) (g : Chan → Chan) : (s.onChan k g).chan k = g (s.chan k) := chan_setChan_same ..
theorem chan_onChan_ne (s : State) {k j : Nat} (g : Chan → Chan) (h : j ≠ k) : (s.onChan k g).chan j = s.chan j := chan_setChan_ne _ _ h
@[simp] theorem ctx_setCtx_same (s : State) (k : Nat) (x : Ctx) : (s.setCtx k x).ctx k = x := SMap.get_put_same ..
theorem ctx_setCtx_ne (s : State) {k j : Nat} (x : Ctx) (h : j ≠ k) : (s.setCtx k x).ctx j = s.ctx j := SMap.get_put_ne _ _ _ _ h
@[simp] theorem ctx_onCtx_same (s : State) (k : Nat) (g : Ctx → Ctx) : (s.onCtx k g).ctx k = g (s.ctx k) := ctx_setCtx_same ..
theorem ctx_onCtx_ne (s : State) {k j : Nat} (g : Ctx → Ctx) (h : j ≠ k) : (s.onCtx k g).ctx j = s.ctx j := ctx_setCtx_ne _ _ h
@[simp] theorem ring_setRing_same (s : State) (k : Nat) (x : Ring) : (s.setRing k x).ring k = x := SMap.get_put_same ..
theorem ring_setRing_ne (s : State) {k j : Nat} (x : Ring) (h : j ≠ k) : (s.setRing k x).ring j = s.ring j := SMap.get_put_ne _ _ _ _ h
@[simp] theorem ring_onRing_same (s : State) (k : Nat) (g : Ring → Ring) : (s.onRing k g).ring k = g (s.ring k) := ring_setRing_same ..
theorem ring_onRing_ne (s : State) {k j : Nat} (g : Ring → Ring) (h : j ≠ k) : (s.onRing k g).ring j = s.ring j := ring_setRing_ne _ _ h
@[simp] theorem port_setPort_same (s : State) (k : Nat) (x : Port) : (s.setPort k x).port k = x := SMap.get_put_same ..
theorem port_setPort_ne (s : State) {k j : Nat} (x : Port) (h : j ≠ k) : (s.setPort k x).port j = s.port j := SMap.get_put_ne _ _ _ _ h
@[simp] theorem port_onPort_same (s : State) (k : Nat) (g : Port → Port) : (s.onPort k g).port k = g (s.port k) := port_setPort_same ..
theorem port_onPort_ne (s : State) {k j : Nat} (g : Port → Port) (h : j ≠ k) : (s.onPort k g).port j = s.port j := port_setPort_ne _ _ h
@[simp] theorem stk_setStk_same (s : State) (k : Nat) (x : Stack) : (s.setStk k x).stk k = x := SMap.get_put_same ..
theorem stk_setStk_ne (s : State) {k j : Nat} (x : Stack) (h : j ≠ k) : (s.setStk k x).stk j = s.stk j := SMap.get_put_ne _ _ _ _ h
@[simp] theorem stk_onStk_same (s : State) (k : Nat) (g : Stack → Stack) : (s.onStk k g).stk k = g (s.stk k) := stk_setStk_same ..
theorem stk_onStk_ne (s : State) {k j : Nat} (g : Stack → Stack) (h : j ≠ k) : (s.onStk k g).stk j = s.stk j := stk_setStk_ne _ _ h
@[simp] theorem pmu_setPmu_same (s : State) (k : Nat) (x : Pmu) : (s.setPmu k x).pmu k = x := SMap.get_put_same ..
theorem pmu_setPmu_ne (s : State) {k j : Nat} (x : Pmu) (h : j ≠ k) : (s.setPmu k x).pmu j = s.pmu j := SMap.get_put_ne _ _ _ _ h
@[simp] theorem pmu_onPmu_same (s : State) (k : Nat) (g : Pmu → Pmu) : (s.onPmu k g).pmu k = g (s.pmu k) := pmu_setPmu_same ..
theorem pmu_onPmu_ne (s : State) {k j : Nat} (g : Pmu → Pmu) (h : j ≠ k) : (s.onPmu k g).pmu j = s.pmu j := pmu_setPmu_ne _ _ h
@[simp] theorem acq_setAcq_same (s : State) (k : Nat) (x : Acq) : (s.setAcq k x).acq k = x := SMap.get_put_same ..
theorem acq_setAcq_ne (s : State) {k j : Nat} (x : Acq) (h : j ≠ k) : (s.setAcq k x).acq j = s.acq j := SMap.get_put_ne _ _ _ _ h
@[simp] theorem acq_onAcq_same (s : State) (k : Nat) (g : Acq → Acq) : (s.onAcq k g).acq k = g (s.acq k) := acq_setAcq_same ..
theorem acq_onAcq_ne (s : State) {k j : Nat} (g : Acq → Acq) (h : j ≠ k) : (s.onAcq k g).acq j = s.acq j := acq_setAcq_ne _ _ h
@[simp] theorem tim_setTim_same (s : State) (k : Nat) (x : Tim) : (s.setTim k x).tim k = x := SMap.get_put_same ..
theorem tim_setTim_ne (s : State) {k j : Nat} (x : Tim) (h : j ≠ k) : (s.setTim k x).tim j = s.tim j := SMap.get_put_ne _ _ _ _ h
@[simp] theorem tim_onTim_same (s : State) (k : Nat) (g : Tim → Tim) : (s.onTim k g).tim k = g (s.tim k) := tim_setTim_same ..
theorem tim_onTim_ne (s : State) {k j : Nat} (g : Tim → Tim) (h : j ≠ k) : (s.onTim k g).tim j = s.tim j := tim_setTim_ne _ _ h
@[simp] theorem cal_onCal_same (s : State) (b : Nat) (g : Cal → Cal) : (s.onCal b g).cal b = g (s.cal b) := SMap.get_put_same ..
theorem cal_onCal_ne (s : State) {b c : Nat} (g : Cal → Cal) (h : c ≠ b) : (s.onCal b g).cal c = s.cal c := SMap.get_put_ne _ _ _ _ h
@[simp] theorem entry_setEntry_same (s : State) (k : Nat) (e : FaultEntry) : (s.setEntry k e).entry k = e := SMap.get_put_same ..
theorem entry_setEntry_ne (s : State) {k j : Nat} (e : FaultEntry) (h : j ≠ k) : (s.setEntry k e).entry j = s.entry j := SMap.get_put_ne _ _ _ _ h
@[simp] theorem fence_setFence_same (s : State) (u : Nat) (x : Option Fence) : (s.setFence u x).fence u = x := SMap.get_put_same ..
theorem fence_setFence_ne (s : State) {u v : Nat} (x : Option Fence) (h : v ≠ u) : (s.setFence u x).fence v = s.fence v := SMap.get_put_ne _ _ _ _ h
@[simp] theorem gate_setGate_same (s : State) (k : Nat) (v : Gate) : (s.setGate k v).gate k = v := SMap.get_put_same ..
theorem gate_setGate_ne (s : State) {k j : Nat} (v : Gate) (h : j ≠ k) : (s.setGate k v).gate j = s.gate j := SMap.get_put_ne _ _ _ _ h

end Sys2Proof.Machine
end

