-- ==== Sys2Proof/Laws/Ops.lean ====
section
/-! SUPPORT. One law per shared operation: which parts of the state it can change, and which registers. -/
namespace Sys2Proof.Machine

/-! ### Loops -/

/-- What one turn keeps, the loop keeps. -/
theorem eachOf_inv {α : Type} (p : State → Prop) (act : α → State → State) (h : ∀ a s, p s → p (act a s)) :
    ∀ (l : List α) (s : State), p s → p (s.eachOf l act) := by
  intro l
  induction l with
  | nil => intro s hs; exact hs
  | cons a l ih => intro s hs; exact ih _ (h a s hs)

theorem each_inv (p : State → Prop) (act : Nat → State → State) (h : ∀ a s, p s → p (act a s)) (n : Nat) (s : State) (hs : p s) :
    p (s.each n act) :=
  eachOf_inv p act h (List.range n) s hs

/-- A part of the state that no turn changes is as it was. -/
theorem eachOf_keep {α β : Type} (v : State → β) (act : α → State → State) (h : ∀ a s, v (act a s) = v s) (l : List α) (s : State) :
    v (s.eachOf l act) = v s :=
  eachOf_inv (fun t => v t = v s) act (fun a t ht => (h a t).trans ht) l s rfl

theorem each_keep {β : Type} (v : State → β) (act : Nat → State → State) (h : ∀ a s, v (act a s) = v s) (n : Nat) (s : State) :
    v (s.each n act) = v s :=
  eachOf_keep v act h (List.range n) s

@[simp] theorem eachOf_nil {α : Type} (s : State) (act : α → State → State) : s.eachOf [] act = s := rfl
@[simp] theorem eachOf_cons {α : Type} (s : State) (a : α) (l : List α) (act : α → State → State) :
    s.eachOf (a :: l) act = (act a s).eachOf l act := rfl

/-! ### What an interrupt and a fault leave alone -/

/-- Everything but the register map and what is sent: what an interrupt leaves alone. -/
def State.quiet (s : State) : State := { s with regs := [], out := [] }

/-- Everything but those, the Archive and the fault collector: what an entered fault leaves alone. -/
def State.still (s : State) : State := { s with regs := [], out := [], arch := {}, fcl := {} }

@[simp] theorem wr_quiet (s : State) (a : Nat) (v : Word) : (s.wr a v).quiet = s.quiet := rfl
@[simp] theorem setF_quiet (s : State) (r : RF) (v : Nat) : (s.setF r v).quiet = s.quiet := rfl
@[simp] theorem setFlag_quiet (s : State) (r : RF) (b : Bool) : (s.setFlag r b).quiet = s.quiet := rfl
@[simp] theorem satInc_quiet (s : State) (r : RF) : (s.satInc r).quiet = s.quiet := rfl
@[simp] theorem emit_quiet (s : State) (o : Out) : (s.emit o).quiet = s.quiet := rfl
@[simp] theorem wr_still (s : State) (a : Nat) (v : Word) : (s.wr a v).still = s.still := rfl
@[simp] theorem setF_still (s : State) (r : RF) (v : Nat) : (s.setF r v).still = s.still := rfl
@[simp] theorem setFlag_still (s : State) (r : RF) (b : Bool) : (s.setFlag r b).still = s.still := rfl
@[simp] theorem satInc_still (s : State) (r : RF) : (s.satInc r).still = s.still := rfl
@[simp] theorem emit_still (s : State) (o : Out) : (s.emit o).still = s.still := rfl
@[simp] theorem onArch_still (s : State) (g : Archive → Archive) : (s.onArch g).still = s.still := rfl
@[simp] theorem setEntry_still (s : State) (k : Nat) (e : FaultEntry) : (s.setEntry k e).still = s.still := rfl
@[simp] theorem fcl_still (s : State) (x : Fcl) : ({ s with fcl := x } : State).still = s.still := rfl

theorem still_of_quiet {s t : State} (h : t.quiet = s.quiet) : t.still = s.still :=
  congrArg (fun x : State => { x with arch := {}, fcl := {} }) h

/-- A message is sent or becomes pending (R451). -/
@[simp] theorem signal_quiet (s : State) (v : Nat) : (s.signal v).quiet = s.quiet := by
  unfold State.signal; split <;> simp

theorem release_quiet (s : State) (v : Nat) : (s.release v).quiet = s.quiet := by
  unfold State.release; dsimp only; split <;> rfl

/-- An event counts and may signal (R544). -/
@[simp] theorem irq_quiet (s : State) (n : Nat) : (s.irq n).quiet = s.quiet := by
  unfold State.irq; dsimp only
  split
  · rfl
  · split <;> simp

@[simp] theorem irq_still (s : State) (n : Nat) : (s.irq n).still = s.still := still_of_quiet (irq_quiet s n)

/-- A result of a mode request is shown and counted (R46). -/
theorem modeResult_quiet (s : State) (seq r : Nat) : (s.modeResult seq r).quiet = s.quiet := by
  unfold State.modeResult; rw [irq_quiet, setF_quiet, setF_quiet]

theorem modeIrq_quiet (s s0 : State) : (s.modeIrq s0).quiet = s.quiet := by
  unfold State.modeIrq; split
  · rfl
  · exact irq_quiet s _

/-- A log record is queued or counted as dropped (R539). -/
@[simp] theorem logRecord_still (s : State) (kind cls unit cause mode : Nat) (esc : Bool) (detail reset boot : Nat) :
    (s.logRecord kind cls unit cause mode esc detail reset boot).still = s.still := by
  unfold State.logRecord; extract_lets n
  split
  · exact satInc_still ..
  · rename_i flags body slot a w s1 s2 hc
    have h : s2.still = s.still := rfl
    split
    · rw [irq_still, h]
    · exact h

/-- A fault is entered, merged or counted, and may be logged (R534, R539). -/
@[simp] theorem enter_still (s : State) (u cause cls detail : Nat) (cond : Condition) (esc : Bool) :
    (s.enter u cause cls detail cond esc).still = s.still := by
  unfold State.enter; dsimp only
  split
  · split <;> simp
  · split
    · split <;> simp
    · simp

@[simp] theorem note_still (s : State) (u cause detail : Nat) : (s.note u cause detail).still = s.still := by
  unfold State.note; rw [enter_still]

/-- A denied write is recorded and noted (R610). -/
theorem deny_still (s : State) (a : Nat) (w : BusWrite) (cause : Nat) : (s.deny a w cause).still = s.still := by
  unfold State.deny; extract_lets t
  have h : t.still = s.still := by
    simp only [t]; split
    · exact satInc_still ..
    · rw [wr_still, setF_still, setF_still, setF_still, setF_still, setF_still, setFlag_still]
  rw [note_still, h]

/-! ### Registers -/

theorem signal_rd (s : State) (v a : Nat) (h : ∀ j, a ≠ Reg.HST_MSIX_PBA j) : (s.signal v).rd a = s.rd a := by
  unfold State.signal; split
  · rfl
  · exact rd_setFlag_ne _ _ _ (h _)

/-- An event changes no register but its own count and the pending bits. -/
theorem irq_rd (s : State) (n a : Nat) (h : a ≠ Reg.IRQ_SRC_CNT n) (hp : ∀ j, a ≠ Reg.HST_MSIX_PBA j) : (s.irq n).rd a = s.rd a := by
  unfold State.irq; dsimp only
  split
  · rfl
  · split
    · rw [signal_rd _ _ _ hp, rd_setF_ne _ _ _ h]
    · exact rd_setF_ne _ _ _ h

theorem logRecord_rd (s : State) (kind cls unit cause mode : Nat) (esc : Bool) (detail reset boot a : Nat) (h : a ≠ Reg.FCL_STATUS)
    (hq : a ≠ Reg.IRQ_SRC_CNT 0x104) (hp : ∀ j, a ≠ Reg.HST_MSIX_PBA j) :
    (s.logRecord kind cls unit cause mode esc detail reset boot).rd a = s.rd a := by
  unfold State.logRecord; extract_lets n
  split
  · exact rd_satInc_ne _ _ h
  · rename_i flags body slot b w s1 s2 hc
    have h : s2.rd a = s.rd a := rfl
    split
    · rw [irq_rd _ _ _ hq hp, h]
    · exact h

/-- A fault that is entered changes no register but the counts of sources 0x100 to 0x104, the pending bits, FCL_STATUS and FCL_LOST. -/
theorem enter_rd (s : State) (u cause cls detail : Nat) (cond : Condition) (esc : Bool) (a : Nat) (h1 : a ≠ Reg.FCL_STATUS)
    (h2 : a ≠ Reg.FCL_LOST) (hq : a ≠ Reg.IRQ_SRC_CNT (0x100 + cls)) (hq' : a ≠ Reg.IRQ_SRC_CNT 0x104)
    (hp : ∀ j, a ≠ Reg.HST_MSIX_PBA j) : (s.enter u cause cls detail cond esc).rd a = s.rd a := by
  refine Eq.trans ?_ (irq_rd s (0x100 + cls) a hq hp)
  unfold State.enter; dsimp only
  split
  · split
    · rw [logRecord_rd _ _ _ _ _ _ _ _ _ _ _ h1 hq' hp]; rfl
    · rfl
  · split
    · split
      · rw [logRecord_rd _ _ _ _ _ _ _ _ _ _ _ h1 hq' hp]; rfl
      · rfl
    · rw [rd_satInc_ne _ _ h2]; rfl

/-! ### The canonical form of the register map -/

theorem wf_setF (s : State) (r : RF) (v : Nat) (h : Regs.wf s.regs = true) : Regs.wf (s.setF r v).regs = true := regs_wf_wr _ _ _ h

theorem signal_wf (s : State) (v : Nat) (h : Regs.wf s.regs = true) : Regs.wf (s.signal v).regs = true := by
  unfold State.signal; split
  · exact h
  · exact regs_wf_wr _ _ _ h

theorem irq_wf (s : State) (n : Nat) (h : Regs.wf s.regs = true) : Regs.wf (s.irq n).regs = true := by
  unfold State.irq; dsimp only
  split
  · exact h
  · split
    · exact signal_wf _ _ (regs_wf_wr _ _ _ h)
    · exact regs_wf_wr _ _ _ h

theorem logRecord_wf (s : State) (kind cls unit cause mode : Nat) (esc : Bool) (detail reset boot : Nat) (h : Regs.wf s.regs = true) :
    Regs.wf (s.logRecord kind cls unit cause mode esc detail reset boot).regs = true := by
  unfold State.logRecord; extract_lets n
  split
  · exact regs_wf_wr _ _ _ h
  · split
    · exact irq_wf _ _ h
    · exact h

theorem enter_wf (s : State) (u cause cls detail : Nat) (cond : Condition) (esc : Bool) (h : Regs.wf s.regs = true) :
    Regs.wf (s.enter u cause cls detail cond esc).regs = true := by
  have hq := irq_wf s (0x100 + cls) h
  unfold State.enter; dsimp only
  split
  · split
    · exact logRecord_wf _ _ _ _ _ _ _ _ _ _ hq
    · exact hq
  · split
    · split
      · exact logRecord_wf _ _ _ _ _ _ _ _ _ _ hq
      · exact hq
    · exact regs_wf_wr _ _ _ hq

theorem deny_wf (s : State) (a : Nat) (w : BusWrite) (cause : Nat) (h : Regs.wf s.regs = true) : Regs.wf (s.deny a w cause).regs = true := by
  unfold State.deny; dsimp only
  refine enter_wf _ _ _ _ _ _ _ ?_
  split
  · exact regs_wf_wr _ _ _ h
  · exact regs_wf_wr _ _ _ (wf_setF _ _ _ (wf_setF _ _ _ (wf_setF _ _ _ (wf_setF _ _ _ (wf_setF _ _ _ (wf_setF _ _ _ h))))))

/-! ### Writes of registers -/

/-- A write that no cause turns away: the state it leaves is acted on. -/
theorem onWrite_of_admitted (s : State) (a : Nat) (w : BusWrite) (act : State → State) (h : (s.busWrite a w).2 = true) :
    s.onWrite a w act = act (s.busWrite a w).1 := by
  unfold State.onWrite
  split <;> simp_all

/-- A write that is turned away: nothing acts. -/
theorem onWrite_of_denied (s : State) (a : Nat) (w : BusWrite) (act : State → State) (h : (s.busWrite a w).2 = false) :
    s.onWrite a w act = (s.busWrite a w).1 := by
  unfold State.onWrite
  split <;> simp_all

/-- A write that acts whatever its data, turned away by nothing. -/
theorem onPlain_of_admitted (s : State) (a : Nat) (w : BusWrite) (act : State → State) (h1 : s.barDown a w.master = false)
    (h2 : s.denyBoot (blockOf a) = false) (h3 : s.denyPower (blockOf a) = false) (h4 : s.denyGate (blockOf a) a w.master = false)
    (h5 : w.whole = true) : s.onPlain a w act = act ((s.istWrite a).useGate a w.master) := by
  simp [State.onPlain, h1, h2, h3, h4, h5]

/-- In Cold and Standby a host's write reaches nothing (Table 2-1). -/
theorem busWrite_barDown (s : State) (a : Nat) (w : BusWrite) (h : s.barDown a w.master = true) : s.busWrite a w = (s, false) := by
  simp [State.busWrite, h]

/-- No inventory step is in progress: a write reaches none. -/
theorem istWrite_idle (s : State) (a : Nat) (h : s.ist.step = none) : s.istWrite a = s := by
  simp [State.istWrite, h]

/-- A host's write needs no gate. -/
theorem useGate_host (s : State) (a : Nat) : s.useGate a .host = s := by simp [State.useGate]

/-! ### Field by field -/

theorem mem_of_quiet {s t : State} (h : t.quiet = s.quiet) : t.mem = s.mem := (congrArg State.mem h :)
theorem pending_of_quiet {s t : State} (h : t.quiet = s.quiet) : t.pending = s.pending := (congrArg State.pending h :)
theorem fresh_of_quiet {s t : State} (h : t.quiet = s.quiet) : t.fresh = s.fresh := (congrArg State.fresh h :)
theorem now_of_quiet {s t : State} (h : t.quiet = s.quiet) : t.now = s.now := (congrArg State.now h :)
theorem sys_of_quiet {s t : State} (h : t.quiet = s.quiet) : t.sys = s.sys := (congrArg State.sys h :)
theorem chans_of_quiet {s t : State} (h : t.quiet = s.quiet) : t.chans = s.chans := (congrArg State.chans h :)
theorem ctxs_of_quiet {s t : State} (h : t.quiet = s.quiet) : t.ctxs = s.ctxs := (congrArg State.ctxs h :)
theorem fcl_of_quiet {s t : State} (h : t.quiet = s.quiet) : t.fcl = s.fcl := (congrArg State.fcl h :)
theorem arch_of_quiet {s t : State} (h : t.quiet = s.quiet) : t.arch = s.arch := (congrArg State.arch h :)
theorem sec_of_quiet {s t : State} (h : t.quiet = s.quiet) : t.sec = s.sec := (congrArg State.sec h :)
theorem ldg_of_quiet {s t : State} (h : t.quiet = s.quiet) : t.ldg = s.ldg := (congrArg State.ldg h :)
theorem clk_of_quiet {s t : State} (h : t.quiet = s.quiet) : t.clk = s.clk := (congrArg State.clk h :)
theorem ntm_of_quiet {s t : State} (h : t.quiet = s.quiet) : t.ntm = s.ntm := (congrArg State.ntm h :)
theorem meter_of_quiet {s t : State} (h : t.quiet = s.quiet) : t.meter = s.meter := (congrArg State.meter h :)
theorem pmus_of_quiet {s t : State} (h : t.quiet = s.quiet) : t.pmus = s.pmus := (congrArg State.pmus h :)
theorem acqs_of_quiet {s t : State} (h : t.quiet = s.quiet) : t.acqs = s.acqs := (congrArg State.acqs h :)
theorem tims_of_quiet {s t : State} (h : t.quiet = s.quiet) : t.tims = s.tims := (congrArg State.tims h :)
theorem tb_of_quiet {s t : State} (h : t.quiet = s.quiet) : t.tb = s.tb := (congrArg State.tb h :)
theorem stks_of_quiet {s t : State} (h : t.quiet = s.quiet) : t.stks = s.stks := (congrArg State.stks h :)
theorem bad_of_quiet {s t : State} (h : t.quiet = s.quiet) : t.bad = s.bad := (congrArg State.bad h :)
theorem stkLog_of_quiet {s t : State} (h : t.quiet = s.quiet) : t.stkLog = s.stkLog := (congrArg State.stkLog h :)
theorem lib_of_quiet {s t : State} (h : t.quiet = s.quiet) : t.lib = s.lib := (congrArg State.lib h :)
theorem hp_of_quiet {s t : State} (h : t.quiet = s.quiet) : t.hp = s.hp := (congrArg State.hp h :)
theorem ports_of_quiet {s t : State} (h : t.quiet = s.quiet) : t.ports = s.ports := (congrArg State.ports h :)
theorem dlanes_of_quiet {s t : State} (h : t.quiet = s.quiet) : t.dlanes = s.dlanes := (congrArg State.dlanes h :)
theorem grp_of_quiet {s t : State} (h : t.quiet = s.quiet) : t.grp = s.grp := (congrArg State.grp h :)
theorem wks_of_quiet {s t : State} (h : t.quiet = s.quiet) : t.wks = s.wks := (congrArg State.wks h :)
theorem cals_of_quiet {s t : State} (h : t.quiet = s.quiet) : t.cals = s.cals := (congrArg State.cals h :)
theorem corrs_of_quiet {s t : State} (h : t.quiet = s.quiet) : t.corrs = s.corrs := (congrArg State.corrs h :)
theorem gates_of_quiet {s t : State} (h : t.quiet = s.quiet) : t.gates = s.gates := (congrArg State.gates h :)
theorem tap_of_quiet {s t : State} (h : t.quiet = s.quiet) : t.tap = s.tap := (congrArg State.tap h :)
theorem ist_of_quiet {s t : State} (h : t.quiet = s.quiet) : t.ist = s.ist := (congrArg State.ist h :)
theorem wo1_of_quiet {s t : State} (h : t.quiet = s.quiet) : t.wo1 = s.wo1 := (congrArg State.wo1 h :)
theorem mem_of_still {s t : State} (h : t.still = s.still) : t.mem = s.mem := (congrArg State.mem h :)
theorem pending_of_still {s t : State} (h : t.still = s.still) : t.pending = s.pending := (congrArg State.pending h :)
theorem fresh_of_still {s t : State} (h : t.still = s.still) : t.fresh = s.fresh := (congrArg State.fresh h :)
theorem now_of_still {s t : State} (h : t.still = s.still) : t.now = s.now := (congrArg State.now h :)
theorem sys_of_still {s t : State} (h : t.still = s.still) : t.sys = s.sys := (congrArg State.sys h :)
theorem chans_of_still {s t : State} (h : t.still = s.still) : t.chans = s.chans := (congrArg State.chans h :)
theorem ctxs_of_still {s t : State} (h : t.still = s.still) : t.ctxs = s.ctxs := (congrArg State.ctxs h :)
theorem sec_of_still {s t : State} (h : t.still = s.still) : t.sec = s.sec := (congrArg State.sec h :)
theorem ldg_of_still {s t : State} (h : t.still = s.still) : t.ldg = s.ldg := (congrArg State.ldg h :)
theorem clk_of_still {s t : State} (h : t.still = s.still) : t.clk = s.clk := (congrArg State.clk h :)
theorem ntm_of_still {s t : State} (h : t.still = s.still) : t.ntm = s.ntm := (congrArg State.ntm h :)
theorem meter_of_still {s t : State} (h : t.still = s.still) : t.meter = s.meter := (congrArg State.meter h :)
theorem pmus_of_still {s t : State} (h : t.still = s.still) : t.pmus = s.pmus := (congrArg State.pmus h :)
theorem acqs_of_still {s t : State} (h : t.still = s.still) : t.acqs = s.acqs := (congrArg State.acqs h :)
theorem tims_of_still {s t : State} (h : t.still = s.still) : t.tims = s.tims := (congrArg State.tims h :)
theorem tb_of_still {s t : State} (h : t.still = s.still) : t.tb = s.tb := (congrArg State.tb h :)
theorem stks_of_still {s t : State} (h : t.still = s.still) : t.stks = s.stks := (congrArg State.stks h :)
theorem bad_of_still {s t : State} (h : t.still = s.still) : t.bad = s.bad := (congrArg State.bad h :)
theorem stkLog_of_still {s t : State} (h : t.still = s.still) : t.stkLog = s.stkLog := (congrArg State.stkLog h :)
theorem lib_of_still {s t : State} (h : t.still = s.still) : t.lib = s.lib := (congrArg State.lib h :)
theorem hp_of_still {s t : State} (h : t.still = s.still) : t.hp = s.hp := (congrArg State.hp h :)
theorem ports_of_still {s t : State} (h : t.still = s.still) : t.ports = s.ports := (congrArg State.ports h :)
theorem dlanes_of_still {s t : State} (h : t.still = s.still) : t.dlanes = s.dlanes := (congrArg State.dlanes h :)
theorem grp_of_still {s t : State} (h : t.still = s.still) : t.grp = s.grp := (congrArg State.grp h :)
theorem wks_of_still {s t : State} (h : t.still = s.still) : t.wks = s.wks := (congrArg State.wks h :)
theorem cals_of_still {s t : State} (h : t.still = s.still) : t.cals = s.cals := (congrArg State.cals h :)
theorem corrs_of_still {s t : State} (h : t.still = s.still) : t.corrs = s.corrs := (congrArg State.corrs h :)
theorem gates_of_still {s t : State} (h : t.still = s.still) : t.gates = s.gates := (congrArg State.gates h :)
theorem tap_of_still {s t : State} (h : t.still = s.still) : t.tap = s.tap := (congrArg State.tap h :)
theorem ist_of_still {s t : State} (h : t.still = s.still) : t.ist = s.ist := (congrArg State.ist h :)
theorem wo1_of_still {s t : State} (h : t.still = s.still) : t.wo1 = s.wo1 := (congrArg State.wo1 h :)
@[simp] theorem signal_mem (s : State) (v : Nat) : (s.signal v).mem = s.mem := mem_of_quiet (signal_quiet s v)
@[simp] theorem signal_pending (s : State) (v : Nat) : (s.signal v).pending = s.pending := pending_of_quiet (signal_quiet s v)
@[simp] theorem signal_fresh (s : State) (v : Nat) : (s.signal v).fresh = s.fresh := fresh_of_quiet (signal_quiet s v)
@[simp] theorem signal_now (s : State) (v : Nat) : (s.signal v).now = s.now := now_of_quiet (signal_quiet s v)
@[simp] theorem signal_sys (s : State) (v : Nat) : (s.signal v).sys = s.sys := sys_of_quiet (signal_quiet s v)
@[simp] theorem signal_chans (s : State) (v : Nat) : (s.signal v).chans = s.chans := chans_of_quiet (signal_quiet s v)
@[simp] theorem signal_ctxs (s : State) (v : Nat) : (s.signal v).ctxs = s.ctxs := ctxs_of_quiet (signal_quiet s v)
@[simp] theorem signal_fcl (s : State) (v : Nat) : (s.signal v).fcl = s.fcl := fcl_of_quiet (signal_quiet s v)
@[simp] theorem signal_arch (s : State) (v : Nat) : (s.signal v).arch = s.arch := arch_of_quiet (signal_quiet s v)
@[simp] theorem signal_sec (s : State) (v : Nat) : (s.signal v).sec = s.sec := sec_of_quiet (signal_quiet s v)
@[simp] theorem signal_ldg (s : State) (v : Nat) : (s.signal v).ldg = s.ldg := ldg_of_quiet (signal_quiet s v)
@[simp] theorem signal_clk (s : State) (v : Nat) : (s.signal v).clk = s.clk := clk_of_quiet (signal_quiet s v)
@[simp] theorem signal_ntm (s : State) (v : Nat) : (s.signal v).ntm = s.ntm := ntm_of_quiet (signal_quiet s v)
@[simp] theorem signal_meter (s : State) (v : Nat) : (s.signal v).meter = s.meter := meter_of_quiet (signal_quiet s v)
@[simp] theorem signal_pmus (s : State) (v : Nat) : (s.signal v).pmus = s.pmus := pmus_of_quiet (signal_quiet s v)
@[simp] theorem signal_acqs (s : State) (v : Nat) : (s.signal v).acqs = s.acqs := acqs_of_quiet (signal_quiet s v)
@[simp] theorem signal_tims (s : State) (v : Nat) : (s.signal v).tims = s.tims := tims_of_quiet (signal_quiet s v)
@[simp] theorem signal_tb (s : State) (v : Nat) : (s.signal v).tb = s.tb := tb_of_quiet (signal_quiet s v)
@[simp] theorem signal_stks (s : State) (v : Nat) : (s.signal v).stks = s.stks := stks_of_quiet (signal_quiet s v)
@[simp] theorem signal_bad (s : State) (v : Nat) : (s.signal v).bad = s.bad := bad_of_quiet (signal_quiet s v)
@[simp] theorem signal_stkLog (s : State) (v : Nat) : (s.signal v).stkLog = s.stkLog := stkLog_of_quiet (signal_quiet s v)
@[simp] theorem signal_lib (s : State) (v : Nat) : (s.signal v).lib = s.lib := lib_of_quiet (signal_quiet s v)
@[simp] theorem signal_hp (s : State) (v : Nat) : (s.signal v).hp = s.hp := hp_of_quiet (signal_quiet s v)
@[simp] theorem signal_ports (s : State) (v : Nat) : (s.signal v).ports = s.ports := ports_of_quiet (signal_quiet s v)
@[simp] theorem signal_dlanes (s : State) (v : Nat) : (s.signal v).dlanes = s.dlanes := dlanes_of_quiet (signal_quiet s v)
@[simp] theorem signal_grp (s : State) (v : Nat) : (s.signal v).grp = s.grp := grp_of_quiet (signal_quiet s v)
@[simp] theorem signal_wks (s : State) (v : Nat) : (s.signal v).wks = s.wks := wks_of_quiet (signal_quiet s v)
@[simp] theorem signal_cals (s : State) (v : Nat) : (s.signal v).cals = s.cals := cals_of_quiet (signal_quiet s v)
@[simp] theorem signal_corrs (s : State) (v : Nat) : (s.signal v).corrs = s.corrs := corrs_of_quiet (signal_quiet s v)
@[simp] theorem signal_gates (s : State) (v : Nat) : (s.signal v).gates = s.gates := gates_of_quiet (signal_quiet s v)
@[simp] theorem signal_tap (s : State) (v : Nat) : (s.signal v).tap = s.tap := tap_of_quiet (signal_quiet s v)
@[simp] theorem signal_ist (s : State) (v : Nat) : (s.signal v).ist = s.ist := ist_of_quiet (signal_quiet s v)
@[simp] theorem signal_wo1 (s : State) (v : Nat) : (s.signal v).wo1 = s.wo1 := wo1_of_quiet (signal_quiet s v)
@[simp] theorem irq_mem (s : State) (n : Nat) : (s.irq n).mem = s.mem := mem_of_quiet (irq_quiet s n)
@[simp] theorem irq_pending (s : State) (n : Nat) : (s.irq n).pending = s.pending := pending_of_quiet (irq_quiet s n)
@[simp] theorem irq_fresh (s : State) (n : Nat) : (s.irq n).fresh = s.fresh := fresh_of_quiet (irq_quiet s n)
@[simp] theorem irq_now (s : State) (n : Nat) : (s.irq n).now = s.now := now_of_quiet (irq_quiet s n)
@[simp] theorem irq_sys (s : State) (n : Nat) : (s.irq n).sys = s.sys := sys_of_quiet (irq_quiet s n)
@[simp] theorem irq_chans (s : State) (n : Nat) : (s.irq n).chans = s.chans := chans_of_quiet (irq_quiet s n)
@[simp] theorem irq_ctxs (s : State) (n : Nat) : (s.irq n).ctxs = s.ctxs := ctxs_of_quiet (irq_quiet s n)
@[simp] theorem irq_fcl (s : State) (n : Nat) : (s.irq n).fcl = s.fcl := fcl_of_quiet (irq_quiet s n)
@[simp] theorem irq_arch (s : State) (n : Nat) : (s.irq n).arch = s.arch := arch_of_quiet (irq_quiet s n)
@[simp] theorem irq_sec (s : State) (n : Nat) : (s.irq n).sec = s.sec := sec_of_quiet (irq_quiet s n)
@[simp] theorem irq_ldg (s : State) (n : Nat) : (s.irq n).ldg = s.ldg := ldg_of_quiet (irq_quiet s n)
@[simp] theorem irq_clk (s : State) (n : Nat) : (s.irq n).clk = s.clk := clk_of_quiet (irq_quiet s n)
@[simp] theorem irq_ntm (s : State) (n : Nat) : (s.irq n).ntm = s.ntm := ntm_of_quiet (irq_quiet s n)
@[simp] theorem irq_meter (s : State) (n : Nat) : (s.irq n).meter = s.meter := meter_of_quiet (irq_quiet s n)
@[simp] theorem irq_pmus (s : State) (n : Nat) : (s.irq n).pmus = s.pmus := pmus_of_quiet (irq_quiet s n)
@[simp] theorem irq_acqs (s : State) (n : Nat) : (s.irq n).acqs = s.acqs := acqs_of_quiet (irq_quiet s n)
@[simp] theorem irq_tims (s : State) (n : Nat) : (s.irq n).tims = s.tims := tims_of_quiet (irq_quiet s n)
@[simp] theorem irq_tb (s : State) (n : Nat) : (s.irq n).tb = s.tb := tb_of_quiet (irq_quiet s n)
@[simp] theorem irq_stks (s : State) (n : Nat) : (s.irq n).stks = s.stks := stks_of_quiet (irq_quiet s n)
@[simp] theorem irq_bad (s : State) (n : Nat) : (s.irq n).bad = s.bad := bad_of_quiet (irq_quiet s n)
@[simp] theorem irq_stkLog (s : State) (n : Nat) : (s.irq n).stkLog = s.stkLog := stkLog_of_quiet (irq_quiet s n)
@[simp] theorem irq_lib (s : State) (n : Nat) : (s.irq n).lib = s.lib := lib_of_quiet (irq_quiet s n)
@[simp] theorem irq_hp (s : State) (n : Nat) : (s.irq n).hp = s.hp := hp_of_quiet (irq_quiet s n)
@[simp] theorem irq_ports (s : State) (n : Nat) : (s.irq n).ports = s.ports := ports_of_quiet (irq_quiet s n)
@[simp] theorem irq_dlanes (s : State) (n : Nat) : (s.irq n).dlanes = s.dlanes := dlanes_of_quiet (irq_quiet s n)
@[simp] theorem irq_grp (s : State) (n : Nat) : (s.irq n).grp = s.grp := grp_of_quiet (irq_quiet s n)
@[simp] theorem irq_wks (s : State) (n : Nat) : (s.irq n).wks = s.wks := wks_of_quiet (irq_quiet s n)
@[simp] theorem irq_cals (s : State) (n : Nat) : (s.irq n).cals = s.cals := cals_of_quiet (irq_quiet s n)
@[simp] theorem irq_corrs (s : State) (n : Nat) : (s.irq n).corrs = s.corrs := corrs_of_quiet (irq_quiet s n)
@[simp] theorem irq_gates (s : State) (n : Nat) : (s.irq n).gates = s.gates := gates_of_quiet (irq_quiet s n)
@[simp] theorem irq_tap (s : State) (n : Nat) : (s.irq n).tap = s.tap := tap_of_quiet (irq_quiet s n)
@[simp] theorem irq_ist (s : State) (n : Nat) : (s.irq n).ist = s.ist := ist_of_quiet (irq_quiet s n)
@[simp] theorem irq_wo1 (s : State) (n : Nat) : (s.irq n).wo1 = s.wo1 := wo1_of_quiet (irq_quiet s n)
@[simp] theorem modeResult_mem (s : State) (seq r : Nat) : (s.modeResult seq r).mem = s.mem := mem_of_quiet (modeResult_quiet s seq r)
@[simp] theorem modeResult_pending (s : State) (seq r : Nat) : (s.modeResult seq r).pending = s.pending := pending_of_quiet (modeResult_quiet s seq r)
@[simp] theorem modeResult_fresh (s : State) (seq r : Nat) : (s.modeResult seq r).fresh = s.fresh := fresh_of_quiet (modeResult_quiet s seq r)
@[simp] theorem modeResult_now (s : State) (seq r : Nat) : (s.modeResult seq r).now = s.now := now_of_quiet (modeResult_quiet s seq r)
@[simp] theorem modeResult_sys (s : State) (seq r : Nat) : (s.modeResult seq r).sys = s.sys := sys_of_quiet (modeResult_quiet s seq r)
@[simp] theorem modeResult_chans (s : State) (seq r : Nat) : (s.modeResult seq r).chans = s.chans := chans_of_quiet (modeResult_quiet s seq r)
@[simp] theorem modeResult_ctxs (s : State) (seq r : Nat) : (s.modeResult seq r).ctxs = s.ctxs := ctxs_of_quiet (modeResult_quiet s seq r)
@[simp] theorem modeResult_fcl (s : State) (seq r : Nat) : (s.modeResult seq r).fcl = s.fcl := fcl_of_quiet (modeResult_quiet s seq r)
@[simp] theorem modeResult_arch (s : State) (seq r : Nat) : (s.modeResult seq r).arch = s.arch := arch_of_quiet (modeResult_quiet s seq r)
@[simp] theorem modeResult_sec (s : State) (seq r : Nat) : (s.modeResult seq r).sec = s.sec := sec_of_quiet (modeResult_quiet s seq r)
@[simp] theorem modeResult_ldg (s : State) (seq r : Nat) : (s.modeResult seq r).ldg = s.ldg := ldg_of_quiet (modeResult_quiet s seq r)
@[simp] theorem modeResult_clk (s : State) (seq r : Nat) : (s.modeResult seq r).clk = s.clk := clk_of_quiet (modeResult_quiet s seq r)
@[simp] theorem modeResult_ntm (s : State) (seq r : Nat) : (s.modeResult seq r).ntm = s.ntm := ntm_of_quiet (modeResult_quiet s seq r)
@[simp] theorem modeResult_meter (s : State) (seq r : Nat) : (s.modeResult seq r).meter = s.meter := meter_of_quiet (modeResult_quiet s seq r)
@[simp] theorem modeResult_pmus (s : State) (seq r : Nat) : (s.modeResult seq r).pmus = s.pmus := pmus_of_quiet (modeResult_quiet s seq r)
@[simp] theorem modeResult_acqs (s : State) (seq r : Nat) : (s.modeResult seq r).acqs = s.acqs := acqs_of_quiet (modeResult_quiet s seq r)
@[simp] theorem modeResult_tims (s : State) (seq r : Nat) : (s.modeResult seq r).tims = s.tims := tims_of_quiet (modeResult_quiet s seq r)
@[simp] theorem modeResult_tb (s : State) (seq r : Nat) : (s.modeResult seq r).tb = s.tb := tb_of_quiet (modeResult_quiet s seq r)
@[simp] theorem modeResult_stks (s : State) (seq r : Nat) : (s.modeResult seq r).stks = s.stks := stks_of_quiet (modeResult_quiet s seq r)
@[simp] theorem modeResult_bad (s : State) (seq r : Nat) : (s.modeResult seq r).bad = s.bad := bad_of_quiet (modeResult_quiet s seq r)
@[simp] theorem modeResult_stkLog (s : State) (seq r : Nat) : (s.modeResult seq r).stkLog = s.stkLog := stkLog_of_quiet (modeResult_quiet s seq r)
@[simp] theorem modeResult_lib (s : State) (seq r : Nat) : (s.modeResult seq r).lib = s.lib := lib_of_quiet (modeResult_quiet s seq r)
@[simp] theorem modeResult_hp (s : State) (seq r : Nat) : (s.modeResult seq r).hp = s.hp := hp_of_quiet (modeResult_quiet s seq r)
@[simp] theorem modeResult_ports (s : State) (seq r : Nat) : (s.modeResult seq r).ports = s.ports := ports_of_quiet (modeResult_quiet s seq r)
@[simp] theorem modeResult_dlanes (s : State) (seq r : Nat) : (s.modeResult seq r).dlanes = s.dlanes := dlanes_of_quiet (modeResult_quiet s seq r)
@[simp] theorem modeResult_grp (s : State) (seq r : Nat) : (s.modeResult seq r).grp = s.grp := grp_of_quiet (modeResult_quiet s seq r)
@[simp] theorem modeResult_wks (s : State) (seq r : Nat) : (s.modeResult seq r).wks = s.wks := wks_of_quiet (modeResult_quiet s seq r)
@[simp] theorem modeResult_cals (s : State) (seq r : Nat) : (s.modeResult seq r).cals = s.cals := cals_of_quiet (modeResult_quiet s seq r)
@[simp] theorem modeResult_corrs (s : State) (seq r : Nat) : (s.modeResult seq r).corrs = s.corrs := corrs_of_quiet (modeResult_quiet s seq r)
@[simp] theorem modeResult_gates (s : State) (seq r : Nat) : (s.modeResult seq r).gates = s.gates := gates_of_quiet (modeResult_quiet s seq r)
@[simp] theorem modeResult_tap (s : State) (seq r : Nat) : (s.modeResult seq r).tap = s.tap := tap_of_quiet (modeResult_quiet s seq r)
@[simp] theorem modeResult_ist (s : State) (seq r : Nat) : (s.modeResult seq r).ist = s.ist := ist_of_quiet (modeResult_quiet s seq r)
@[simp] theorem modeResult_wo1 (s : State) (seq r : Nat) : (s.modeResult seq r).wo1 = s.wo1 := wo1_of_quiet (modeResult_quiet s seq r)
@[simp] theorem enter_mem (s : State) (u cause cls detail : Nat) (cond : Condition) (esc : Bool) : (s.enter u cause cls detail cond esc).mem = s.mem := mem_of_still (enter_still s u cause cls detail cond esc)
@[simp] theorem enter_pending (s : State) (u cause cls detail : Nat) (cond : Condition) (esc : Bool) : (s.enter u cause cls detail cond esc).pending = s.pending := pending_of_still (enter_still s u cause cls detail cond esc)
@[simp] theorem enter_fresh (s : State) (u cause cls detail : Nat) (cond : Condition) (esc : Bool) : (s.enter u cause cls detail cond esc).fresh = s.fresh := fresh_of_still (enter_still s u cause cls detail cond esc)
@[simp] theorem enter_now (s : State) (u cause cls detail : Nat) (cond : Condition) (esc : Bool) : (s.enter u cause cls detail cond esc).now = s.now := now_of_still (enter_still s u cause cls detail cond esc)
@[simp] theorem enter_sys (s : State) (u cause cls detail : Nat) (cond : Condition) (esc : Bool) : (s.enter u cause cls detail cond esc).sys = s.sys := sys_of_still (enter_still s u cause cls detail cond esc)
@[simp] theorem enter_chans (s : State) (u cause cls detail : Nat) (cond : Condition) (esc : Bool) : (s.enter u cause cls detail cond esc).chans = s.chans := chans_of_still (enter_still s u cause cls detail cond esc)
@[simp] theorem enter_ctxs (s : State) (u cause cls detail : Nat) (cond : Condition) (esc : Bool) : (s.enter u cause cls detail cond esc).ctxs = s.ctxs := ctxs_of_still (enter_still s u cause cls detail cond esc)
@[simp] theorem enter_sec (s : State) (u cause cls detail : Nat) (cond : Condition) (esc : Bool) : (s.enter u cause cls detail cond esc).sec = s.sec := sec_of_still (enter_still s u cause cls detail cond esc)
@[simp] theorem enter_ldg (s : State) (u cause cls detail : Nat) (cond : Condition) (esc : Bool) : (s.enter u cause cls detail cond esc).ldg = s.ldg := ldg_of_still (enter_still s u cause cls detail cond esc)
@[simp] theorem enter_clk (s : State) (u cause cls detail : Nat) (cond : Condition) (esc : Bool) : (s.enter u cause cls detail cond esc).clk = s.clk := clk_of_still (enter_still s u cause cls detail cond esc)
@[simp] theorem enter_ntm (s : State) (u cause cls detail : Nat) (cond : Condition) (esc : Bool) : (s.enter u cause cls detail cond esc).ntm = s.ntm := ntm_of_still (enter_still s u cause cls detail cond esc)
@[simp] theorem enter_meter (s : State) (u cause cls detail : Nat) (cond : Condition) (esc : Bool) : (s.enter u cause cls detail cond esc).meter = s.meter := meter_of_still (enter_still s u cause cls detail cond esc)
@[simp] theorem enter_pmus (s : State) (u cause cls detail : Nat) (cond : Condition) (esc : Bool) : (s.enter u cause cls detail cond esc).pmus = s.pmus := pmus_of_still (enter_still s u cause cls detail cond esc)
@[simp] theorem enter_acqs (s : State) (u cause cls detail : Nat) (cond : Condition) (esc : Bool) : (s.enter u cause cls detail cond esc).acqs = s.acqs := acqs_of_still (enter_still s u cause cls detail cond esc)
@[simp] theorem enter_tims (s : State) (u cause cls detail : Nat) (cond : Condition) (esc : Bool) : (s.enter u cause cls detail cond esc).tims = s.tims := tims_of_still (enter_still s u cause cls detail cond esc)
@[simp] theorem enter_tb (s : State) (u cause cls detail : Nat) (cond : Condition) (esc : Bool) : (s.enter u cause cls detail cond esc).tb = s.tb := tb_of_still (enter_still s u cause cls detail cond esc)
@[simp] theorem enter_stks (s : State) (u cause cls detail : Nat) (cond : Condition) (esc : Bool) : (s.enter u cause cls detail cond esc).stks = s.stks := stks_of_still (enter_still s u cause cls detail cond esc)
@[simp] theorem enter_bad (s : State) (u cause cls detail : Nat) (cond : Condition) (esc : Bool) : (s.enter u cause cls detail cond esc).bad = s.bad := bad_of_still (enter_still s u cause cls detail cond esc)
@[simp] theorem enter_stkLog (s : State) (u cause cls detail : Nat) (cond : Condition) (esc : Bool) : (s.enter u cause cls detail cond esc).stkLog = s.stkLog := stkLog_of_still (enter_still s u cause cls detail cond esc)
@[simp] theorem enter_lib (s : State) (u cause cls detail : Nat) (cond : Condition) (esc : Bool) : (s.enter u cause cls detail cond esc).lib = s.lib := lib_of_still (enter_still s u cause cls detail cond esc)
@[simp] theorem enter_hp (s : State) (u cause cls detail : Nat) (cond : Condition) (esc : Bool) : (s.enter u cause cls detail cond esc).hp = s.hp := hp_of_still (enter_still s u cause cls detail cond esc)
@[simp] theorem enter_ports (s : State) (u cause cls detail : Nat) (cond : Condition) (esc : Bool) : (s.enter u cause cls detail cond esc).ports = s.ports := ports_of_still (enter_still s u cause cls detail cond esc)
@[simp] theorem enter_dlanes (s : State) (u cause cls detail : Nat) (cond : Condition) (esc : Bool) : (s.enter u cause cls detail cond esc).dlanes = s.dlanes := dlanes_of_still (enter_still s u cause cls detail cond esc)
@[simp] theorem enter_grp (s : State) (u cause cls detail : Nat) (cond : Condition) (esc : Bool) : (s.enter u cause cls detail cond esc).grp = s.grp := grp_of_still (enter_still s u cause cls detail cond esc)
@[simp] theorem enter_wks (s : State) (u cause cls detail : Nat) (cond : Condition) (esc : Bool) : (s.enter u cause cls detail cond esc).wks = s.wks := wks_of_still (enter_still s u cause cls detail cond esc)
@[simp] theorem enter_cals (s : State) (u cause cls detail : Nat) (cond : Condition) (esc : Bool) : (s.enter u cause cls detail cond esc).cals = s.cals := cals_of_still (enter_still s u cause cls detail cond esc)
@[simp] theorem enter_corrs (s : State) (u cause cls detail : Nat) (cond : Condition) (esc : Bool) : (s.enter u cause cls detail cond esc).corrs = s.corrs := corrs_of_still (enter_still s u cause cls detail cond esc)
@[simp] theorem enter_gates (s : State) (u cause cls detail : Nat) (cond : Condition) (esc : Bool) : (s.enter u cause cls detail cond esc).gates = s.gates := gates_of_still (enter_still s u cause cls detail cond esc)
@[simp] theorem enter_tap (s : State) (u cause cls detail : Nat) (cond : Condition) (esc : Bool) : (s.enter u cause cls detail cond esc).tap = s.tap := tap_of_still (enter_still s u cause cls detail cond esc)
@[simp] theorem enter_ist (s : State) (u cause cls detail : Nat) (cond : Condition) (esc : Bool) : (s.enter u cause cls detail cond esc).ist = s.ist := ist_of_still (enter_still s u cause cls detail cond esc)
@[simp] theorem enter_wo1 (s : State) (u cause cls detail : Nat) (cond : Condition) (esc : Bool) : (s.enter u cause cls detail cond esc).wo1 = s.wo1 := wo1_of_still (enter_still s u cause cls detail cond esc)
@[simp] theorem note_mem (s : State) (u cause detail : Nat) : (s.note u cause detail).mem = s.mem := mem_of_still (note_still s u cause detail)
@[simp] theorem note_pending (s : State) (u cause detail : Nat) : (s.note u cause detail).pending = s.pending := pending_of_still (note_still s u cause detail)
@[simp] theorem note_fresh (s : State) (u cause detail : Nat) : (s.note u cause detail).fresh = s.fresh := fresh_of_still (note_still s u cause detail)
@[simp] theorem note_now (s : State) (u cause detail : Nat) : (s.note u cause detail).now = s.now := now_of_still (note_still s u cause detail)
@[simp] theorem note_sys (s : State) (u cause detail : Nat) : (s.note u cause detail).sys = s.sys := sys_of_still (note_still s u cause detail)
@[simp] theorem note_chans (s : State) (u cause detail : Nat) : (s.note u cause detail).chans = s.chans := chans_of_still (note_still s u cause detail)
@[simp] theorem note_ctxs (s : State) (u cause detail : Nat) : (s.note u cause detail).ctxs = s.ctxs := ctxs_of_still (note_still s u cause detail)
@[simp] theorem note_sec (s : State) (u cause detail : Nat) : (s.note u cause detail).sec = s.sec := sec_of_still (note_still s u cause detail)
@[simp] theorem note_ldg (s : State) (u cause detail : Nat) : (s.note u cause detail).ldg = s.ldg := ldg_of_still (note_still s u cause detail)
@[simp] theorem note_clk (s : State) (u cause detail : Nat) : (s.note u cause detail).clk = s.clk := clk_of_still (note_still s u cause detail)
@[simp] theorem note_ntm (s : State) (u cause detail : Nat) : (s.note u cause detail).ntm = s.ntm := ntm_of_still (note_still s u cause detail)
@[simp] theorem note_meter (s : State) (u cause detail : Nat) : (s.note u cause detail).meter = s.meter := meter_of_still (note_still s u cause detail)
@[simp] theorem note_pmus (s : State) (u cause detail : Nat) : (s.note u cause detail).pmus = s.pmus := pmus_of_still (note_still s u cause detail)
@[simp] theorem note_acqs (s : State) (u cause detail : Nat) : (s.note u cause detail).acqs = s.acqs := acqs_of_still (note_still s u cause detail)
@[simp] theorem note_tims (s : State) (u cause detail : Nat) : (s.note u cause detail).tims = s.tims := tims_of_still (note_still s u cause detail)
@[simp] theorem note_tb (s : State) (u cause detail : Nat) : (s.note u cause detail).tb = s.tb := tb_of_still (note_still s u cause detail)
@[simp] theorem note_stks (s : State) (u cause detail : Nat) : (s.note u cause detail).stks = s.stks := stks_of_still (note_still s u cause detail)
@[simp] theorem note_bad (s : State) (u cause detail : Nat) : (s.note u cause detail).bad = s.bad := bad_of_still (note_still s u cause detail)
@[simp] theorem note_stkLog (s : State) (u cause detail : Nat) : (s.note u cause detail).stkLog = s.stkLog := stkLog_of_still (note_still s u cause detail)
@[simp] theorem note_lib (s : State) (u cause detail : Nat) : (s.note u cause detail).lib = s.lib := lib_of_still (note_still s u cause detail)
@[simp] theorem note_hp (s : State) (u cause detail : Nat) : (s.note u cause detail).hp = s.hp := hp_of_still (note_still s u cause detail)
@[simp] theorem note_ports (s : State) (u cause detail : Nat) : (s.note u cause detail).ports = s.ports := ports_of_still (note_still s u cause detail)
@[simp] theorem note_dlanes (s : State) (u cause detail : Nat) : (s.note u cause detail).dlanes = s.dlanes := dlanes_of_still (note_still s u cause detail)
@[simp] theorem note_grp (s : State) (u cause detail : Nat) : (s.note u cause detail).grp = s.grp := grp_of_still (note_still s u cause detail)
@[simp] theorem note_wks (s : State) (u cause detail : Nat) : (s.note u cause detail).wks = s.wks := wks_of_still (note_still s u cause detail)
@[simp] theorem note_cals (s : State) (u cause detail : Nat) : (s.note u cause detail).cals = s.cals := cals_of_still (note_still s u cause detail)
@[simp] theorem note_corrs (s : State) (u cause detail : Nat) : (s.note u cause detail).corrs = s.corrs := corrs_of_still (note_still s u cause detail)
@[simp] theorem note_gates (s : State) (u cause detail : Nat) : (s.note u cause detail).gates = s.gates := gates_of_still (note_still s u cause detail)
@[simp] theorem note_tap (s : State) (u cause detail : Nat) : (s.note u cause detail).tap = s.tap := tap_of_still (note_still s u cause detail)
@[simp] theorem note_ist (s : State) (u cause detail : Nat) : (s.note u cause detail).ist = s.ist := ist_of_still (note_still s u cause detail)
@[simp] theorem note_wo1 (s : State) (u cause detail : Nat) : (s.note u cause detail).wo1 = s.wo1 := wo1_of_still (note_still s u cause detail)
@[simp] theorem deny_mem (s : State) (a : Nat) (w : BusWrite) (cause : Nat) : (s.deny a w cause).mem = s.mem := mem_of_still (deny_still s a w cause)
@[simp] theorem deny_pending (s : State) (a : Nat) (w : BusWrite) (cause : Nat) : (s.deny a w cause).pending = s.pending := pending_of_still (deny_still s a w cause)
@[simp] theorem deny_fresh (s : State) (a : Nat) (w : BusWrite) (cause : Nat) : (s.deny a w cause).fresh = s.fresh := fresh_of_still (deny_still s a w cause)
@[simp] theorem deny_now (s : State) (a : Nat) (w : BusWrite) (cause : Nat) : (s.deny a w cause).now = s.now := now_of_still (deny_still s a w cause)
@[simp] theorem deny_sys (s : State) (a : Nat) (w : BusWrite) (cause : Nat) : (s.deny a w cause).sys = s.sys := sys_of_still (deny_still s a w cause)
@[simp] theorem deny_chans (s : State) (a : Nat) (w : BusWrite) (cause : Nat) : (s.deny a w cause).chans = s.chans := chans_of_still (deny_still s a w cause)
@[simp] theorem deny_ctxs (s : State) (a : Nat) (w : BusWrite) (cause : Nat) : (s.deny a w cause).ctxs = s.ctxs := ctxs_of_still (deny_still s a w cause)
@[simp] theorem deny_sec (s : State) (a : Nat) (w : BusWrite) (cause : Nat) : (s.deny a w cause).sec = s.sec := sec_of_still (deny_still s a w cause)
@[simp] theorem deny_ldg (s : State) (a : Nat) (w : BusWrite) (cause : Nat) : (s.deny a w cause).ldg = s.ldg := ldg_of_still (deny_still s a w cause)
@[simp] theorem deny_clk (s : State) (a : Nat) (w : BusWrite) (cause : Nat) : (s.deny a w cause).clk = s.clk := clk_of_still (deny_still s a w cause)
@[simp] theorem deny_ntm (s : State) (a : Nat) (w : BusWrite) (cause : Nat) : (s.deny a w cause).ntm = s.ntm := ntm_of_still (deny_still s a w cause)
@[simp] theorem deny_meter (s : State) (a : Nat) (w : BusWrite) (cause : Nat) : (s.deny a w cause).meter = s.meter := meter_of_still (deny_still s a w cause)
@[simp] theorem deny_pmus (s : State) (a : Nat) (w : BusWrite) (cause : Nat) : (s.deny a w cause).pmus = s.pmus := pmus_of_still (deny_still s a w cause)
@[simp] theorem deny_acqs (s : State) (a : Nat) (w : BusWrite) (cause : Nat) : (s.deny a w cause).acqs = s.acqs := acqs_of_still (deny_still s a w cause)
@[simp] theorem deny_tims (s : State) (a : Nat) (w : BusWrite) (cause : Nat) : (s.deny a w cause).tims = s.tims := tims_of_still (deny_still s a w cause)
@[simp] theorem deny_tb (s : State) (a : Nat) (w : BusWrite) (cause : Nat) : (s.deny a w cause).tb = s.tb := tb_of_still (deny_still s a w cause)
@[simp] theorem deny_stks (s : State) (a : Nat) (w : BusWrite) (cause : Nat) : (s.deny a w cause).stks = s.stks := stks_of_still (deny_still s a w cause)
@[simp] theorem deny_bad (s : State) (a : Nat) (w : BusWrite) (cause : Nat) : (s.deny a w cause).bad = s.bad := bad_of_still (deny_still s a w cause)
@[simp] theorem deny_stkLog (s : State) (a : Nat) (w : BusWrite) (cause : Nat) : (s.deny a w cause).stkLog = s.stkLog := stkLog_of_still (deny_still s a w cause)
@[simp] theorem deny_lib (s : State) (a : Nat) (w : BusWrite) (cause : Nat) : (s.deny a w cause).lib = s.lib := lib_of_still (deny_still s a w cause)
@[simp] theorem deny_hp (s : State) (a : Nat) (w : BusWrite) (cause : Nat) : (s.deny a w cause).hp = s.hp := hp_of_still (deny_still s a w cause)
@[simp] theorem deny_ports (s : State) (a : Nat) (w : BusWrite) (cause : Nat) : (s.deny a w cause).ports = s.ports := ports_of_still (deny_still s a w cause)
@[simp] theorem deny_dlanes (s : State) (a : Nat) (w : BusWrite) (cause : Nat) : (s.deny a w cause).dlanes = s.dlanes := dlanes_of_still (deny_still s a w cause)
@[simp] theorem deny_grp (s : State) (a : Nat) (w : BusWrite) (cause : Nat) : (s.deny a w cause).grp = s.grp := grp_of_still (deny_still s a w cause)
@[simp] theorem deny_wks (s : State) (a : Nat) (w : BusWrite) (cause : Nat) : (s.deny a w cause).wks = s.wks := wks_of_still (deny_still s a w cause)
@[simp] theorem deny_cals (s : State) (a : Nat) (w : BusWrite) (cause : Nat) : (s.deny a w cause).cals = s.cals := cals_of_still (deny_still s a w cause)
@[simp] theorem deny_corrs (s : State) (a : Nat) (w : BusWrite) (cause : Nat) : (s.deny a w cause).corrs = s.corrs := corrs_of_still (deny_still s a w cause)
@[simp] theorem deny_gates (s : State) (a : Nat) (w : BusWrite) (cause : Nat) : (s.deny a w cause).gates = s.gates := gates_of_still (deny_still s a w cause)
@[simp] theorem deny_tap (s : State) (a : Nat) (w : BusWrite) (cause : Nat) : (s.deny a w cause).tap = s.tap := tap_of_still (deny_still s a w cause)
@[simp] theorem deny_ist (s : State) (a : Nat) (w : BusWrite) (cause : Nat) : (s.deny a w cause).ist = s.ist := ist_of_still (deny_still s a w cause)
@[simp] theorem deny_wo1 (s : State) (a : Nat) (w : BusWrite) (cause : Nat) : (s.deny a w cause).wo1 = s.wo1 := wo1_of_still (deny_still s a w cause)

end Sys2Proof.Machine
end

