-- ==== Sys2Proof/Laws/Bus.lean ====
section
/-! SUPPORT. Laws of a register write on its way to its register, and of the answer of a command. -/
namespace Sys2Proof.Machine

/-- Everything that a register write on its way to its register leaves alone: all but the register map, what is sent, the claim of an
inventory step on a channel, the collector, the Archive, the gates, the inventory and the write-once list. -/
def State.beyondBus (s : State) : State :=
  { s with regs := [], out := [], chans := [], fcl := {}, arch := {}, gates := [], ist := {}, wo1 := [] }

theorem beyondBus_of_still {s t : State} (h : t.still = s.still) : t.beyondBus = s.beyondBus :=
  congrArg (fun x : State => { x with chans := [], gates := [], ist := {}, wo1 := [] }) h

theorem setFlag_beyondBus (s : State) (r : RF) (b : Bool) : (s.setFlag r b).beyondBus = s.beyondBus := rfl
theorem satInc_beyondBus (s : State) (r : RF) : (s.satInc r).beyondBus = s.beyondBus := rfl
theorem onChan_beyondBus (s : State) (ch : Nat) (g : Chan → Chan) : (s.onChan ch g).beyondBus = s.beyondBus := rfl
theorem ist_beyondBus (s : State) (x : Inventory) : ({ s with ist := x } : State).beyondBus = s.beyondBus := rfl

/-- An inventory step that is abandoned (R605). -/
theorem istDrop_beyondBus (s : State) (p : IstStep → Bool) : (s.istDrop p).beyondBus = s.beyondBus := by
  unfold State.istDrop
  split
  · rfl
  · split
    · rfl
    · dsimp only
      rw [satInc_beyondBus, setFlag_beyondBus]
      split
      · rw [onChan_beyondBus, ist_beyondBus]
      · rw [ist_beyondBus]

theorem istWrite_beyondBus (s : State) (a : Nat) : (s.istWrite a).beyondBus = s.beyondBus := by
  unfold State.istWrite
  split
  · rfl
  · split
    · exact istDrop_beyondBus ..
    · exact istDrop_beyondBus ..
    · exact istDrop_beyondBus ..
    · exact istDrop_beyondBus ..
    · rfl

theorem useGate_beyondBus (s : State) (a : Nat) (m : Master) : (s.useGate a m).beyondBus = s.beyondBus := by
  unfold State.useGate; split <;> rfl

theorem deny_beyondBus (s : State) (a : Nat) (w : BusWrite) (cause : Nat) : (s.deny a w cause).beyondBus = s.beyondBus :=
  beyondBus_of_still (deny_still s a w cause)

/-- A write, denied or not, changes nothing beyond those (R609, R610). -/
theorem busWrite_beyondBus (s : State) (a : Nat) (w : BusWrite) : (s.busWrite a w).1.beyondBus = s.beyondBus := by
  unfold State.busWrite
  split
  · rfl
  · rw [← istWrite_beyondBus s a]
    generalize s.istWrite a = t
    dsimp only
    split
    · split
      · rfl
      · exact deny_beyondBus ..
    · split
      · split
        · rfl
        · exact deny_beyondBus ..
      · split
        · split
          · exact (useGate_beyondBus ..).trans rfl
          · exact (useGate_beyondBus (t.wr a _) a w.master).trans rfl
        · split
          · exact (deny_beyondBus ..).trans rfl
          · exact deny_beyondBus ..
        · exact deny_beyondBus ..

end Sys2Proof.Machine

namespace Sys2Proof

open Sys2Proof.Machine

theorem stored_beyondBus (s : State) (a : Nat) (w : BusWrite) : (stored s a w).beyondBus = s.beyondBus := busWrite_beyondBus s a w

theorem mem_of_beyondBus {s t : State} (h : t.beyondBus = s.beyondBus) : t.mem = s.mem := (congrArg State.mem h :)
theorem pending_of_beyondBus {s t : State} (h : t.beyondBus = s.beyondBus) : t.pending = s.pending := (congrArg State.pending h :)
theorem fresh_of_beyondBus {s t : State} (h : t.beyondBus = s.beyondBus) : t.fresh = s.fresh := (congrArg State.fresh h :)
theorem now_of_beyondBus {s t : State} (h : t.beyondBus = s.beyondBus) : t.now = s.now := (congrArg State.now h :)
theorem sys_of_beyondBus {s t : State} (h : t.beyondBus = s.beyondBus) : t.sys = s.sys := (congrArg State.sys h :)
theorem ctxs_of_beyondBus {s t : State} (h : t.beyondBus = s.beyondBus) : t.ctxs = s.ctxs := (congrArg State.ctxs h :)
theorem sec_of_beyondBus {s t : State} (h : t.beyondBus = s.beyondBus) : t.sec = s.sec := (congrArg State.sec h :)
theorem ldg_of_beyondBus {s t : State} (h : t.beyondBus = s.beyondBus) : t.ldg = s.ldg := (congrArg State.ldg h :)
theorem clk_of_beyondBus {s t : State} (h : t.beyondBus = s.beyondBus) : t.clk = s.clk := (congrArg State.clk h :)
theorem ntm_of_beyondBus {s t : State} (h : t.beyondBus = s.beyondBus) : t.ntm = s.ntm := (congrArg State.ntm h :)
theorem meter_of_beyondBus {s t : State} (h : t.beyondBus = s.beyondBus) : t.meter = s.meter := (congrArg State.meter h :)
theorem pmus_of_beyondBus {s t : State} (h : t.beyondBus = s.beyondBus) : t.pmus = s.pmus := (congrArg State.pmus h :)
theorem acqs_of_beyondBus {s t : State} (h : t.beyondBus = s.beyondBus) : t.acqs = s.acqs := (congrArg State.acqs h :)
theorem tims_of_beyondBus {s t : State} (h : t.beyondBus = s.beyondBus) : t.tims = s.tims := (congrArg State.tims h :)
theorem tb_of_beyondBus {s t : State} (h : t.beyondBus = s.beyondBus) : t.tb = s.tb := (congrArg State.tb h :)
theorem stks_of_beyondBus {s t : State} (h : t.beyondBus = s.beyondBus) : t.stks = s.stks := (congrArg State.stks h :)
theorem bad_of_beyondBus {s t : State} (h : t.beyondBus = s.beyondBus) : t.bad = s.bad := (congrArg State.bad h :)
theorem stkLog_of_beyondBus {s t : State} (h : t.beyondBus = s.beyondBus) : t.stkLog = s.stkLog := (congrArg State.stkLog h :)
theorem lib_of_beyondBus {s t : State} (h : t.beyondBus = s.beyondBus) : t.lib = s.lib := (congrArg State.lib h :)
theorem hp_of_beyondBus {s t : State} (h : t.beyondBus = s.beyondBus) : t.hp = s.hp := (congrArg State.hp h :)
theorem ports_of_beyondBus {s t : State} (h : t.beyondBus = s.beyondBus) : t.ports = s.ports := (congrArg State.ports h :)
theorem dlanes_of_beyondBus {s t : State} (h : t.beyondBus = s.beyondBus) : t.dlanes = s.dlanes := (congrArg State.dlanes h :)
theorem grp_of_beyondBus {s t : State} (h : t.beyondBus = s.beyondBus) : t.grp = s.grp := (congrArg State.grp h :)
theorem wks_of_beyondBus {s t : State} (h : t.beyondBus = s.beyondBus) : t.wks = s.wks := (congrArg State.wks h :)
theorem cals_of_beyondBus {s t : State} (h : t.beyondBus = s.beyondBus) : t.cals = s.cals := (congrArg State.cals h :)
theorem corrs_of_beyondBus {s t : State} (h : t.beyondBus = s.beyondBus) : t.corrs = s.corrs := (congrArg State.corrs h :)
theorem tap_of_beyondBus {s t : State} (h : t.beyondBus = s.beyondBus) : t.tap = s.tap := (congrArg State.tap h :)
@[simp] theorem stored_mem (s : State) (a : Nat) (w : BusWrite) : (stored s a w).mem = s.mem := mem_of_beyondBus (stored_beyondBus s a w)
@[simp] theorem stored_pending (s : State) (a : Nat) (w : BusWrite) : (stored s a w).pending = s.pending := pending_of_beyondBus (stored_beyondBus s a w)
@[simp] theorem stored_fresh (s : State) (a : Nat) (w : BusWrite) : (stored s a w).fresh = s.fresh := fresh_of_beyondBus (stored_beyondBus s a w)
@[simp] theorem stored_now (s : State) (a : Nat) (w : BusWrite) : (stored s a w).now = s.now := now_of_beyondBus (stored_beyondBus s a w)
@[simp] theorem stored_sys (s : State) (a : Nat) (w : BusWrite) : (stored s a w).sys = s.sys := sys_of_beyondBus (stored_beyondBus s a w)
@[simp] theorem stored_ctxs (s : State) (a : Nat) (w : BusWrite) : (stored s a w).ctxs = s.ctxs := ctxs_of_beyondBus (stored_beyondBus s a w)
@[simp] theorem stored_sec (s : State) (a : Nat) (w : BusWrite) : (stored s a w).sec = s.sec := sec_of_beyondBus (stored_beyondBus s a w)
@[simp] theorem stored_ldg (s : State) (a : Nat) (w : BusWrite) : (stored s a w).ldg = s.ldg := ldg_of_beyondBus (stored_beyondBus s a w)
@[simp] theorem stored_clk (s : State) (a : Nat) (w : BusWrite) : (stored s a w).clk = s.clk := clk_of_beyondBus (stored_beyondBus s a w)
@[simp] theorem stored_ntm (s : State) (a : Nat) (w : BusWrite) : (stored s a w).ntm = s.ntm := ntm_of_beyondBus (stored_beyondBus s a w)
@[simp] theorem stored_meter (s : State) (a : Nat) (w : BusWrite) : (stored s a w).meter = s.meter := meter_of_beyondBus (stored_beyondBus s a w)
@[simp] theorem stored_pmus (s : State) (a : Nat) (w : BusWrite) : (stored s a w).pmus = s.pmus := pmus_of_beyondBus (stored_beyondBus s a w)
@[simp] theorem stored_acqs (s : State) (a : Nat) (w : BusWrite) : (stored s a w).acqs = s.acqs := acqs_of_beyondBus (stored_beyondBus s a w)
@[simp] theorem stored_tims (s : State) (a : Nat) (w : BusWrite) : (stored s a w).tims = s.tims := tims_of_beyondBus (stored_beyondBus s a w)
@[simp] theorem stored_tb (s : State) (a : Nat) (w : BusWrite) : (stored s a w).tb = s.tb := tb_of_beyondBus (stored_beyondBus s a w)
@[simp] theorem stored_stks (s : State) (a : Nat) (w : BusWrite) : (stored s a w).stks = s.stks := stks_of_beyondBus (stored_beyondBus s a w)
@[simp] theorem stored_bad (s : State) (a : Nat) (w : BusWrite) : (stored s a w).bad = s.bad := bad_of_beyondBus (stored_beyondBus s a w)
@[simp] theorem stored_stkLog (s : State) (a : Nat) (w : BusWrite) : (stored s a w).stkLog = s.stkLog := stkLog_of_beyondBus (stored_beyondBus s a w)
@[simp] theorem stored_lib (s : State) (a : Nat) (w : BusWrite) : (stored s a w).lib = s.lib := lib_of_beyondBus (stored_beyondBus s a w)
@[simp] theorem stored_hp (s : State) (a : Nat) (w : BusWrite) : (stored s a w).hp = s.hp := hp_of_beyondBus (stored_beyondBus s a w)
@[simp] theorem stored_ports (s : State) (a : Nat) (w : BusWrite) : (stored s a w).ports = s.ports := ports_of_beyondBus (stored_beyondBus s a w)
@[simp] theorem stored_dlanes (s : State) (a : Nat) (w : BusWrite) : (stored s a w).dlanes = s.dlanes := dlanes_of_beyondBus (stored_beyondBus s a w)
@[simp] theorem stored_grp (s : State) (a : Nat) (w : BusWrite) : (stored s a w).grp = s.grp := grp_of_beyondBus (stored_beyondBus s a w)
@[simp] theorem stored_wks (s : State) (a : Nat) (w : BusWrite) : (stored s a w).wks = s.wks := wks_of_beyondBus (stored_beyondBus s a w)
@[simp] theorem stored_cals (s : State) (a : Nat) (w : BusWrite) : (stored s a w).cals = s.cals := cals_of_beyondBus (stored_beyondBus s a w)
@[simp] theorem stored_corrs (s : State) (a : Nat) (w : BusWrite) : (stored s a w).corrs = s.corrs := corrs_of_beyondBus (stored_beyondBus s a w)
@[simp] theorem stored_tap (s : State) (a : Nat) (w : BusWrite) : (stored s a w).tap = s.tap := tap_of_beyondBus (stored_beyondBus s a w)

/-! ### The answer of a command -/

/-- Every command answers a next state: no meaning ends in a fault or a refusal. -/
theorem exec_next (i : Instr) (s : State) : ∃ t, exec i s = .next t := by
  cases i <;> exact ⟨_, rfl⟩

/-- A command whose meaning is known reaches what its state has. -/
theorem reaches_of_exec {c : Instr} {s t : State} {p : State → Prop} (h : exec c s = .next t) (hp : p t) : Reaches c s p := ⟨t, h, hp⟩

/-- What a command reaches holds of the state it answers, and of that state alone. -/
theorem reaches_iff {c : Instr} {s t : State} {p : State → Prop} (h : exec c s = .next t) : Reaches c s p ↔ p t := by
  constructor
  · rintro ⟨u, hu, hp⟩
    rw [h] at hu
    cases hu; exact hp
  · exact fun hp => ⟨t, h, hp⟩

theorem Reaches.mono {c : Instr} {s : State} {p q : State → Prop} (h : Reaches c s p) (hpq : ∀ t, p t → q t) : Reaches c s q :=
  let ⟨t, ht, hp⟩ := h; ⟨t, ht, hpq t hp⟩

theorem Reaches.and {c : Instr} {s : State} {p q : State → Prop} (hp : Reaches c s p) (hq : Reaches c s q) : Reaches c s (fun t => p t ∧ q t) := by
  obtain ⟨t, ht, h⟩ := hp
  exact ⟨t, ht, h, (reaches_iff ht).1 hq⟩

/-! ### Registers left alone -/

theorem OnlyRegs.refl (l : List Nat) (s : State) : OnlyRegs l s s := fun _ _ => rfl

theorem OnlyRegs.trans {l : List Nat} {s t u : State} (h1 : OnlyRegs l s t) (h2 : OnlyRegs l t u) : OnlyRegs l s u :=
  fun a h => (h2 a h).trans (h1 a h)

theorem OnlyRegs.mono {l l' : List Nat} {s t : State} (h : OnlyRegs l s t) (hl : ∀ a ∈ l, a ∈ l') : OnlyRegs l' s t :=
  fun a ha => h a (fun hx => ha (hl a hx))

theorem onlyRegs_wr (s : State) (l : List Nat) (a : Nat) (v : Word) (h : a ∈ l) : OnlyRegs l s (s.wr a v) :=
  fun _ hb => rd_wr_ne _ _ (fun e => hb (e ▸ h))

theorem onlyRegs_setF (s : State) (l : List Nat) (r : RF) (v : Nat) (h : r.addr ∈ l) : OnlyRegs l s (s.setF r v) := onlyRegs_wr _ _ _ _ h

theorem SameBeyondRegs.refl (s : State) : SameBeyondRegs s s := rfl
theorem sameBeyondRegs_wr (s : State) (a : Nat) (v : Word) : SameBeyondRegs s (s.wr a v) := rfl
theorem sameBeyondRegs_setF (s : State) (r : RF) (v : Nat) : SameBeyondRegs s (s.setF r v) := rfl

theorem SameBeyondRegs.trans {s t u : State} (h1 : SameBeyondRegs s t) (h2 : SameBeyondRegs t u) : SameBeyondRegs s u := by
  unfold SameBeyondRegs at *
  rw [← h2] at h1
  exact h1

end Sys2Proof
end

