-- ==== Sys2Proof/Laws/Memory.lean ====
section
/-! SUPPORT. Every operation on the stacks' bytes keeps them canonical, and what a write within one granule stores. -/
namespace Sys2Proof.Machine

theorem stBytes_bad (bs : List Byte) : ∀ (s : State) (a : Nat), (s.stBytes a bs).bad = s.bad := by
  induction bs with
  | nil => intros; rfl
  | cons b bs ih => intro s a; exact (ih _ _).trans rfl

/-- A write within a granule stores its bytes (R257). -/
theorem putGranule_mem (s : State) (a : Nat) (bs : List Byte) (bad : Bool) : (s.putGranule a bs bad).mem = (s.stBytes a bs).mem := rfl

theorem putGranule_wf (s : State) (a : Nat) (bs : List Byte) (bad : Bool) (h : Memory.wf s.mem = true) :
    Memory.wf (s.putGranule a bs bad).mem = true := mem_wf_stBytes bs s a h

/-- An entry of the Stacks log leaves the stacks' bytes (R261). -/
theorem stkLogEntry_mem (s : State) (kind cls st addr detail : Nat) : (s.stkLogEntry kind cls st addr detail).mem = s.mem := by
  have loop : ∀ (l : List Nat) (f : Nat → Nat) (g : Nat → Word) (t : State), (l.foldl (fun s i => s.wr (f i) (g i)) t).mem = t.mem := by
    intro l f g
    induction l with
    | nil => intro t; rfl
    | cons i l ih => intro t; exact (ih _).trans rfl
  unfold State.stkLogEntry; extract_lets head newest same
  split
  · exact setF_mem ..
  · split
    · exact satInc_mem ..
    · rename_i off plain x bytes s1 s2 _ _
      have h1 : s1.mem = s.mem :=
        loop (List.range 8) (fun i => Reg.STK_LOG (8 * (head % 64) + i)) (fun i => BitVec.ofNat 32 (leAt bytes (4 * i) 4)) s
      rw [irq_mem, setF_mem, ← h1]

/-- A granule's write keeps the stacks canonical, whichever stacks take it (R263, R266). -/
theorem writeGranule_wf (s : State) (a cls : Nat) (bs : List Byte) (bad : Bool) (h : Memory.wf s.mem = true) :
    Memory.wf (s.writeGranule a cls bs bad).2.mem = true := by
  unfold State.writeGranule; dsimp only
  have h1 : Memory.wf (if (bad || s.badGranule a && decide (bs.length < 64)) = true then s.stkLogEntry 3 cls (stackOf a) (a / 64 * 64) 0
      else s).mem = true := by
    split
    · rw [stkLogEntry_mem]; exact h
    · exact h
  generalize (if (bad || s.badGranule a && decide (bs.length < 64)) = true then s.stkLogEntry 3 cls (stackOf a) (a / 64 * 64) 0 else s) = t at *
  have h2 : Memory.wf (if s.stkUp (stackOf a) = true then t.putGranule a bs bad else t).mem = true := by
    split
    · exact putGranule_wf _ _ _ _ h1
    · exact h1
  generalize (if s.stkUp (stackOf a) = true then t.putGranule a bs bad else t) = u at *
  split
  · exact putGranule_wf _ _ _ _ h2
  · exact h2

/-- A run of bytes written keeps the stacks canonical (R257). -/
theorem stkWrite_wf (s : State) (a cls : Nat) (bs : List Byte) (bad : Nat → Bool) (h : Memory.wf s.mem = true) :
    Memory.wf (s.stkWrite a cls bs bad).2.mem = true := by
  unfold State.stkWrite
  generalize granules (bs.length + 1) a bs = l
  suffices ∀ (r : Option (Nat × Nat) × State), Memory.wf r.2.mem = true → Memory.wf (l.foldl (fun (r : Option (Nat × Nat) × State) p =>
      match r.1 with
      | some _ => r
      | none =>
        let off := p.1 - a
        if !localOk p.1 1 then (some (off, 3), r.2)
        else
          let (resp, s) := r.2.writeGranule p.1 cls p.2 ((List.range p.2.length).any (fun i => bad (off + i)))
          (if resp = 0 then none else some (off, resp), s)) r).2.mem = true from this _ h
  induction l with
  | nil => intro r hr; exact hr
  | cons p l ih =>
    intro r hr
    refine ih _ ?_
    dsimp only
    split
    · exact hr
    · split
      · exact hr
      · exact writeGranule_wf _ _ _ _ _ hr

/-- An entry put into every copy of the catalogue keeps the stacks canonical (R212). -/
theorem putEntry_wf (s : State) (i : Nat) (e : List Byte) (h : Memory.wf s.mem = true) : Memory.wf (s.putEntry i e).mem = true := by
  refine eachOf_inv (fun s => Memory.wf s.mem = true) _ (fun st t ht => ?_) s.catStacks s h
  split
  · exact mem_wf_stBytes _ _ _ ht
  · exact ht

/-- A stack that loses its contents leaves the other's bytes canonical (R244). -/
theorem stkErase_wf (s : State) (st : Nat) (h : Memory.wf s.mem = true) : Memory.wf (s.stkErase st).mem = true :=
  SMap.wf_filter _ s.mem _ h

end Sys2Proof.Machine
end

