-- ==== Sys2Proof/Tests/Slice0.lean ====
section
/-! SUPPORT. Tests: what WellFormed takes and refuses; for each statement a state that meets its hypotheses; and single commands against
values the spec gives. -/
namespace Sys2Proof.Tests

open Sys2Proof Sys2Proof.Machine

set_option Elab.async false

/-! ### Small states -/

/-- Idle, with supplies. -/
def idle : State := ({ State.reset with sys := { State.reset.sys with cold := false } } : State).setF F.SYS_MODE_MODE 3
/-- The same in another mode of Table 2-1. -/
def mode (m : Nat) : State := idle.setF F.SYS_MODE_MODE m
/-- Domains ON. -/
def on (ds : List Nat) (s : State) : State := ds.foldl (fun s d => s.setF (F.PWR_DOM_STATUS_STATE d) 2) s
/-- Fields with values. -/
def put (l : List (RF × Nat)) (s : State) : State := l.foldl (fun s p => s.setF p.1 p.2) s
/-- A host's whole-word write. -/
def hw (v : Nat) : BusWrite := { master := .host, whole := true, data := BitVec.ofNat 32 v }
/-- The state after a host's write reaches its register. -/
def after (s : State) (a v : Nat) : State := stored s a (hw v)
/-- The state a command answers. -/
def run (c : Instr) (s : State) : State := match exec c s with
  | .next t => t
  | _ => s

/-! ### Hypotheses that are met: queue, BAR0, modes, power -/

theorem witness_StepTakesFront : ({ idle with pending := [.settlingDone 0, .fuseProgramDone] } : State).pending = .settlingDone 0 :: [.fuseProgramDone] := rfl
theorem witness_IdleStep : idle.pending = [] := by decide
theorem witness_answers : (∃ t, exec .fuseProgramDone idle = .next t) ∧ (∃ t, step State.reset = .next t) := ⟨exec_next _ _, ⟨_, rfl⟩⟩
theorem witness_StepKeepsCanonical : Canonical idle := by unfold Canonical; decide
theorem witness_BarDenials : State.reset.mode = .cold ∧ (mode 2).mode = .standby ∧ (hw 0).master = .host ∧ (mode 1).denyBoot (.chn 0) = true ∧
    (idle.denyBoot (.chn 0) = false ∧ idle.denyPower (.chn 0) = true) ∧
    (idle.denyBoot .sys = false ∧ idle.denyPower .sys = false ∧ idle.denyGate .sys Reg.SYS_SCRATCH .dap = true) := by decide +kernel
theorem witness_BarRecords : idle.mode ≠ .cold ∧ idle.mode ≠ .standby ∧ idle.flag F.SYS_DENY_STATUS_DENIED = false ∧
    Admitted idle Reg.SYS_DENY_STATUS (hw 0x80000000) ∧ (hw 0x80000000).bit 31 = true := by decide +kernel

/-- A mode request: MODE and GO. -/
def req (m : Nat) : BusWrite := hw (m + 16)
/-- BUSY, with the transition to a mode under way. -/
def moving (t : Mode) (s : State) : State := { s.setFlag F.SYS_MODE_BUSY true with sys := { s.sys with target := some t } }
theorem witness_ModeRequests :
    (Instr.modeReqCalibrate (req 4) ∈ modeRequests (req 4)) ∧ (Instr.modeReqIllegal (req 3) ∈ modeRequests (req 3)) ∧
    (Admitted idle Reg.SYS_MODE_REQ (req 4) ∧ (req 4).bit 4 = true) ∧
    (stored (moving .load idle) Reg.SYS_MODE_REQ (req 4)).flag F.SYS_MODE_BUSY = true ∧
    (let q := stored idle Reg.SYS_MODE_REQ (req 3); q.flag F.SYS_MODE_BUSY = false ∧ q.f F.SYS_MODE_REQ_MODE = q.mode.code) ∧
    (let q := stored idle Reg.SYS_MODE_REQ (req 11); q.f F.SYS_MODE_REQ_MODE ≠ q.mode.code ∧ q.f F.SYS_MODE_REQ_MODE = 11 ∧ q.mode ≠ .boot) ∧
    (let q := stored idle Reg.SYS_MODE_REQ (req 4); q.f F.SYS_MODE_REQ_MODE = 4 ∧ q.mode.code ≠ 4 ∧ q.transitionCheck (.ofCode 4) = 1 ∧ q.sys.testNow = none) ∧
    (let q := stored (mode 5) Reg.SYS_MODE_REQ (req 4); q.f F.SYS_MODE_REQ_MODE = 4 ∧ q.mode.code ≠ 4 ∧ q.transitionCheck (.ofCode 4) ≠ 1) := by
  decide +kernel

/-- A self-test runs, the last one. -/
def testing (k : Nat) : State := { mode 10 with sys := { (mode 10).sys with testNow := some k } }
theorem witness_TransitionsAndTests :
    (idle.sys.target = none ∧ (moving .boot idle).flag F.SYS_MODE_BUSY = true ∧ (moving .boot idle).transitionWaits = false) ∧
    ((moving .calibrate idle).sys.target = some .calibrate ∧ (moving .standby idle).transitionWaits = false) ∧
    ((testing 1).sys.testNow = some 1 ∧ (testing 1).sys.testsLeft = [] ∧ (testing 1).mode = .selftest) ∧
    ((testing 7).sys.testNow = some 7 ∧ (testing 7).mode = .selftest) := by decide +kernel

theorem witness_WakeFromStandby :
    (mode 2).mode = .standby ∧
    (put [(F.PWR_STBY_CFG_WAKE_FABRIC, 1)] (mode 2)).flag F.PWR_STBY_CFG_WAKE_FABRIC = true ∧
    bitAt ((put [(F.PWR_STBY_CFG_WAKE_EVT, 0x8000)] (mode 2)).f F.PWR_STBY_CFG_WAKE_EVT) ((17 - 2) % 16) = true ∧
    ((moving .standby idle).mode ≠ .standby ∧ (moving .standby idle).flag F.SYS_MODE_BUSY = true ∧ (moving .standby idle).sys.target = some .standby) ∧
    (put [(F.PWR_STBY_CFG_WAKE_FABRIC, 0)] idle).flag F.PWR_STBY_CFG_WAKE_FABRIC = false ∧
    (let s := put [(F.PWR_STBY_CFG_WAKE_FABRIC, 1), (F.LNK_PORT_STATUS_STATE 0, 3)] (mode 2);
      s.mode = .standby ∧ s.portState 0 = 3 ∧ s.flag F.PWR_STBY_CFG_WAKE_FABRIC = true) := by decide +kernel

theorem witness_ColdEntries :
    (State.reset.sys.unpowered = false ∧ State.reset.mode = .cold) ∧ (idle.sys.unpowered = false ∧ idle.mode ≠ .cold) ∧
    ({ State.reset with sys := { unpowered := true } } : State).sys.unpowered = true ∧
    ({ State.reset with sys := { railsWrong := true } } : State).sys.railsWrong = true := by decide +kernel

/-- In Boot, with an image of version 5 in partition A. -/
def booting : State := { mode 1 with arch := { cells := [(0x400000, 0x56), (0x400001, 0x4B), (0x400002, 0x42), (0x400003, 0x49),
  (0x400004, 1), (0x400005, 0), (0x400006, 0xA1), (0x400007, 0), (0x400008, 5), (0x400009, 0), (0x40000A, 0), (0x40000B, 0)] } }
theorem witness_BootEnds :
    idle.mode ≠ .boot ∧ ((mode 1).mode = .boot ∧ (mode 1).loadFuses.bootImage {} = none) ∧
    (booting.mode = .boot ∧ booting.loadFuses.bootImage { imageA := some 7 } = some (1, 5, 7) ∧ booting.fcl.fences = [] ∧
      booting.fcl.windows = [] ∧ booting.arch.activeSlot errataBase = none) := by decide +kernel

/-- A domain ramps to a state. -/
def ramping (d t : Nat) : State := ({ idle with sys := { idle.sys with ramp := [(d, t)] } } : State).setF (F.PWR_DOM_STATUS_STATE d) 1
theorem witness_PowerDomains :
    (Instr.domReqOn 49 (hw 1) ∈ domRequests 49 (hw 1) ∧ Admitted idle (Reg.PWR_DOM_CTRL 49) (hw 1)) ∧
    (let q := stored idle (Reg.PWR_DOM_CTRL 0) (hw 0); q.domState 0 = domTarget (q.f (F.PWR_DOM_CTRL_REQ 0))) ∧
    (let q := stored idle (Reg.PWR_DOM_CTRL 0) (hw 1); q.domRefusal 0 (q.f (F.PWR_DOM_CTRL_REQ 0)) ≠ 0 ∧
      q.domState 0 ≠ domTarget (q.f (F.PWR_DOM_CTRL_REQ 0)) ∧ q.domState 0 ≠ 1) ∧
    (let s := put [(F.PWR_DOM_STATUS_VDH_GOOD 32, 1), (F.PWR_DOM_STATUS_VDL_GOOD 32, 1)] (on [40, 32] idle)
     let q := stored s (Reg.PWR_DOM_CTRL 0) (hw 1)
     q.domRefusal 0 (q.f (F.PWR_DOM_CTRL_REQ 0)) = 0 ∧ q.domState 0 ≠ domTarget (q.f (F.PWR_DOM_CTRL_REQ 0)) ∧
      needsRamp (q.domState 0) (domTarget (q.f (F.PWR_DOM_CTRL_REQ 0))) = true) ∧
    (let q := stored (on [40, 32, 0] idle) (Reg.PWR_DOM_CTRL 0) (hw 0)
     q.domRefusal 0 (q.f (F.PWR_DOM_CTRL_REQ 0)) = 0 ∧ q.domState 0 ≠ domTarget (q.f (F.PWR_DOM_CTRL_REQ 0)) ∧ q.domState 0 ≠ 1 ∧
      needsRamp (q.domState 0) (domTarget (q.f (F.PWR_DOM_CTRL_REQ 0))) = false) ∧
    (idle.domState 49 ≠ 1 ∧ (ramping 49 2).domState 49 = 1 ∧ SMap.get 2 (ramping 49 2).sys.ramp 49 = 2 ∧ SMap.get 2 (ramping 0 4).sys.ramp 0 = 4) ∧
    (idle.mode ≠ .cold ∧ idle.mode ≠ .boot ∧ idle.mode ≠ .standby ∧
      (put [(F.PWR_DOM_STATUS_VDH_GOOD 35, 1), (F.PWR_DOM_STATUS_VDL_GOOD 35, 1)] idle).domRails (32 + 3) = true) := by decide +kernel

/-- Channel 0 powered and owned by context 0. -/
def chn : State := put [(F.CHN_CTRL_CTX 0, 0)] (on [32, 0] idle)
/-- Its driver so. -/
def drv (x : Chan) (s : State) : State := s.onChan 0 (fun _ => x)
/-- A context's state. -/
def ctxIn (c : Nat) (k : CtxState) (s : State) : State := s.setF (F.RDR_STATUS_STATE c) k.code
/-- A context so. -/
def ctxAs (c : Nat) (x : Ctx) (s : State) : State := s.onCtx c (fun _ => x)
theorem witness_ChannelWrites :
    (Admitted chn (Reg.CHN_CTRL 0) (hw 0x10) ∧ chn.chPowered 0 = true ∧ chn.chFenced 0 = false ∧ (chn.chan 0).reconnect = none ∧ chn.mode = .idle) ∧
    (let q := stored chn (Reg.CHN_CTRL 0) (hw 0x10)
     q.rd (Reg.CHN_CTRL 0) ≠ chn.rd (Reg.CHN_CTRL 0) ∧ (chn.chan 0).wideNow = q.wide 0 ∧ (chn.chan 0).conn = 0 ∧ q.f (F.CHN_CTRL_PATH 0) = 1) ∧
    (let s := drv { conn := 1 } (put [(F.CHN_CTRL_PATH 0, 1)] chn)
     let q := stored s (Reg.CHN_CTRL 0) (hw 0)
     Admitted s (Reg.CHN_CTRL 0) (hw 0) ∧ q.rd (Reg.CHN_CTRL 0) ≠ s.rd (Reg.CHN_CTRL 0) ∧ (s.chan 0).wideNow = q.wide 0 ∧ q.f (F.CHN_CTRL_PATH 0) = 0) ∧
    (Admitted chn (Reg.CHN_VIH 0 + 4 * 4) (hw 5) ∧
      (stored chn (Reg.CHN_VIH 0 + 4 * 4) (hw 5)).rd (Reg.CHN_VIH 0 + 4 * 4) ≠ chn.rd (Reg.CHN_VIH 0 + 4 * 4)) ∧
    (Admitted chn (Reg.CHN_TERM 0) (hw 1) ∧ (stored chn (Reg.CHN_TERM 0) (hw 1)).rd (Reg.CHN_TERM 0) ≠ chn.rd (Reg.CHN_TERM 0)) ∧
    (let s := drv { conn := 1 } chn
     Admitted s (Reg.CHN_STATIC 0) (hw 1) ∧ (s.chan 0).ctl = .static ∧ (s.chan 0).conn = 1 ∧ s.chFenced 0 = false) ∧
    (let s := drv { conn := 1, ctl := .parked } (ctxIn 0 .idle chn)
     Admitted s (Reg.CHN_PARK 0) (hw 1) ∧ (s.chan 0).ctl = .parked ∧ (s.chan 0).conn ≠ 0 ∧ s.owner 0 = some 0 ∧ (s.ctxState 0).active = false) ∧
    (let s := drv { conn := 1, ctl := .parked } (ctxIn 0 .play chn)
     Admitted s (Reg.CHN_PARK 0) (hw 1) ∧ s.owner 0 = some 0 ∧ (s.ctxState 0).active = true) := by decide +kernel

theorem witness_ChannelFencesAndGuards :
    (let s := drv { conn := 1 } (ctxIn 0 .idle chn)
     Admitted s (Reg.CHN_FENCE 0) (hw 1) ∧ (hw 1).bit 0 = true ∧ (hw 1).bit 1 = false ∧ (stored s (Reg.CHN_FENCE 0) (hw 1)).chFenced 0 = false ∧
      s.owner 0 = some 0 ∧ (s.ctxState 0).active = false ∧ (s.chan 0).conn ≠ 0) ∧
    (let s := put [(F.CHN_FENCE_CAUSE 255, 1)] (on [35, 31] idle)
     Admitted s (Reg.CHN_FENCE 255) (hw 2) ∧ (stored s (Reg.CHN_FENCE 255) (hw 2)).mayUnfence 255 = true) ∧
    (let s := put [(F.CHN_FENCE_CAUSE 0, 7)] chn
     Admitted s (Reg.CHN_FENCE 0) (hw 2) ∧ (stored s (Reg.CHN_FENCE 0) (hw 2)).mayUnfence 0 = false ∧
      (stored s (Reg.CHN_FENCE 0) (hw 2)).chFenced 0 = true) ∧
    (let s := put [(F.CHN_FENCE_CAUSE 255, 1), (F.CHN_FENCE_CLEAR_PENDING 255, 1)] (on [35, 31] idle)
     s.fence (unitCode 3 (255 / 64)) = none ∧ s.fence (unitCode 2 (255 / 8)) = none ∧ s.f F.FCL_FENCE_CMD_RESULT ≠ 2 ∧
      s.flag (F.CHN_FENCE_CLEAR_PENDING 255) = true ∧ s.mayUnfence 255 = true) ∧
    chn.mayUnfence 0 = false ∧ (chn.chan 0).reconnect = none ∧
    ((drv { conn := 1 } chn).peConnected 0 = true ∧ (drv { conn := 1 } chn).wide 0 = false ∧ chn.peConnected 0 = false) ∧
    Admitted { mode 9 with regs := (on [35, 31] (mode 9)).regs } (Reg.EDG_TS_D1 255 63 + 4 * 5) (hw 1) := by decide +kernel

/-- A word of context c's program (Table 6-1), at its place. -/
def seqWord (c i op x y : Nat) (s : State) : State :=
  (s.wr (Reg.RDR_SEQ c (2 * i)) (BitVec.ofNat 32 y)).wr (Reg.RDR_SEQ c (2 * i + 1)) (BitVec.ofNat 32 (op * 2 ^ 24 + x))
/-- Context 0 plays, with this word in front. -/
def atWord (op x y : Nat) (cx : Ctx := {}) : State := ctxAs 0 cx (seqWord 0 0 op x y (ctxIn 0 .play idle))
/-- Bytes closed by their CRC. -/
def sealed (bs : List Byte) : List Byte := bs ++ leBytes (crc32c bs) 4
/-- A folio header (Table 5-1): call number 1, one leaf of n bytes, these shelves, timing set 0. -/
def header (n shelves : Nat) : List Byte := sealed (leBytes 0x4F464B56 4 ++ leBytes 1 2 ++ leBytes 0 2 ++ leBytes 1 4 ++ leBytes 1 4 ++
  leBytes n 8 ++ leBytes shelves 4 ++ leBytes 0 24 ++ leBytes 1 8)
/-- The catalogue entry of call number 1 (Table 8-2): n bytes at LOCAL 0x200000, one leaf. -/
def entry (n : Nat) : List Byte := sealed (leBytes 1 4 ++ leBytes 1 1 ++ leBytes 1 1 ++ leBytes 0 2 ++ leBytes n 8 ++ leBytes 0 8 ++
  leBytes 0x200000 8 ++ leBytes 0 8 ++ leBytes 1 4 ++ leBytes 0 4 ++ leBytes 0 12)
/-- Stack 0 on-line with a catalogue of 1,024 entries at 0x10000; period entry 0 of context 0 is 4,096 FU. -/
def library (s : State) : State := put [(F.STK_STATE_STATE 0, 2), (F.LIB_CAT_CFG_SIZE_LOG2, 10), (F.LIB_CAT_BASE_LO_ADDR, 0x10000 / 64),
  (F.RDR_PER_HI_VALID 0 0, 1), (F.RDR_PER_LO_WHOLE_LO 0 0, 4096)] s
/-- Its one folio. -/
def folio (shelves : Nat) (leaf : List Byte) (s : State) : State :=
  (((library s).stBytes 0x10040 (entry (64 + leaf.length))).stBytes 0x200000 (header leaf.length shelves)).stBytes 0x200040 leaf
/-- A leaf record without shelf blocks, every vector of timing set 0. -/
def bareLeaf : List Byte := leBytes 0x14000 4
/-- A resolved word in the plan. -/
def planned (g : Seg) : PlanSeg := { seg := g, word := 0, loops := [], calls := 0 }
/-- The opened folio. -/
def opened : OpenFolio := { id := 7, cn := 1, entry := entry 68, leaves := 1, bodyBytes := 4, concIds := [0, 0, 0, 0], tsetMask := 1 }

theorem witness_ReaderWords :
    ¬ AtWord idle 0 0x01 ∧ AtWord (atWord 0x00 0 0) 0 0x00 ∧ AtWord (atWord 0x03 0 2) 0 0x03 ∧
    (let s := atWord 0x04 0 0 { loops := [{ body := 1, left := 2 }] }; AtWord s 0 0x04 ∧ (s.ctx 0).loops = { body := 1, left := 2 } :: []) ∧
    (let s := atWord 0x04 0 0 { loops := [{ body := 1, left := 1 }] }; AtWord s 0 0x04 ∧ (s.ctx 0).loops = { body := 1, left := 1 } :: []) ∧
    AtWord (atWord 0x05 0 9) 0 0x05 ∧
    (let s := atWord 0x06 0 0 { calls := [{ ret := 3, susp := none }] }; AtWord s 0 0x06 ∧ (s.ctx 0).calls = { ret := 3, susp := none } :: []) ∧
    AtWord (atWord 0x09 5 1) 0 0x09 ∧ AtWord (atWord 0x10 0 0) 0 0x10 ∧ AtWord (atWord 0x11 0 0) 0 0x11 ∧
    AtWord (atWord 0x0B 1 1) 0 0x0B ∧ AtWord (atWord 0x0C 0x100 0) 0 0x0C ∧ AtWord (atWord 0x0E 0 1) 0 0x0E := by decide +kernel
theorem witness_ReaderWords_waits :
    (let s := atWord 0x0D 0 4096; AtWord s 0 0x0D ∧ s.periodBad 0 0 4096 0 = true) ∧
    (let s := library (atWord 0x0D 0 4096); AtWord s 0 0x0D ∧ s.periodBad 0 0 4096 0 = false) ∧
    AtWord (atWord 0x0F 0 4) 0 0x0F ∧ AtWord (atWord 0x07 0x500000 9) 0 0x07 ∧ AtWord (atWord 0x0A 3 9) 0 0x0A := by decide +kernel

theorem witness_FolioWords_open :
    (let s := folio 0 bareLeaf (atWord 0x01 0 1)
     AtWord s 0 0x01 ∧ (s.ctx 0).ahead ≤ 1024 ∧ (s.ctx 0).openedBefore (s.ctx 0).pos = none ∧
      ∃ f, (s.openFolio 0 (s.ctx 0).pos).1 = some f ∧ (s.openFolio 0 (s.ctx 0).pos).2.overrideOk 0 f = true) ∧
    (let s := folio 0 bareLeaf (atWord 0x08 5 1)
     let q := (s.onCtx 0 (fun x => { x with watch := 0 })).openFolio 0 (s.ctx 0).pos
     AtWord s 0 0x08 ∧ (s.ctx 0).ahead ≤ 1024 ∧ ∃ f, q.1 = some f ∧ q.2.overrideOk 0 f = true) := by
  refine ⟨⟨by decide +kernel, by decide +kernel, by decide +kernel, { opened with id := 1 }, by decide +kernel, by decide +kernel⟩,
    by decide +kernel, by decide +kernel, { opened with id := 1 }, by decide +kernel, by decide +kernel⟩
theorem witness_FolioWords :
    (let s := atWord 0x01 0 1 { folios := [opened], loops := [{ body := 0, left := 2, opened := [(0, 7)] }] }
     AtWord s 0 0x01 ∧ ((s.ctx 0).openedBefore (s.ctx 0).pos).bind (s.ctx 0).folio = some opened ∧ s.overrideOk 0 opened = true) ∧
    (let s := atWord 0x02 1 0 { folios := [opened], susp := some { id := 7, next := 0, upto := 1 } }
     AtWord s 0 0x02 ∧ (s.ctx 0).susp = some { id := 7, next := 0, upto := 1 } ∧ (s.ctx 0).folio 7 = some opened) ∧
    (let s := ctxAs 0 { folios := [opened], plan := [planned (.folio { id := 7, next := 0, upto := 1 } false)] }
        (folio 0 bareLeaf (ctxIn 0 .play idle))
     (s.ctxState 0).active = true ∧ (s.ctx 0).wants.bind (s.ctx 0).folio = some opened ∧ s.readRecord 0 opened = .bytes bareLeaf ∧ bareLeaf ≠ [] ∧
      s.decodeRecord opened bareLeaf = some { tsets := List.replicate 32 0 } ∧ s.leafTsetBad 0 { tsets := List.replicate 32 0 } = false) ∧
    (idle.ctxState 0).active = false := by decide +kernel

theorem witness_ReaderCommands :
    (Instr.rdrCtrlArm 15 (hw 1) ∈ readerCommands 15 (hw 1)) ∧
    (let s := ctxIn 15 .idle idle; AdmittedPlain s (Reg.RDR_CTRL 15) (hw 1) ∧ s.ctxState 15 = .idle ∧ s.grpBound 15 = false ∧ (s.ctx 15).arming = false ∧
      s.inGroup 15 = false ∧ s.ctxState 15 ≠ .armed ∧ (s.ctxState 15).active = false ∧ s.ctxState 15 ≠ .stopped) ∧
    ((ctxIn 15 .armed idle).ctxState 15 = .armed ∧ AdmittedPlain (ctxIn 15 .armed idle) (Reg.RDR_CTRL 15) (hw 2)) ∧
    ((ctxIn 0 .play idle).ctxState 0).playing = true ∧ ((ctxIn 0 .hold idle).ctxState 0).active = true ∧
    (ctxIn 0 .paused idle).ctxState 0 = .paused ∧ (ctxIn 0 .stopped idle).ctxState 0 = .stopped ∧
    (let s := put [(F.GRP_CFG_EN, 1), (F.GRP_CTX_CTX, 1), (F.GRP_STATUS_STATE, 3)] (ctxIn 0 .armed idle);
      s.inGroup 0 = true ∧ AdmittedPlain s (Reg.RDR_CTRL 0) (hw 4)) := by decide +kernel

/-- Context 0 ready for Arm: channel 0 with its PE, one timing set, a program that plays a folio once, which is its idle folio too. -/
def armable : State :=
  let s := folio 1 (leBytes 0x224000 4 ++ leBytes 0xFFFF 2 ++ leBytes 0 130) (ctxIn 0 .idle chn)
  let s := seqWord 0 1 0x11 0 0 (seqWord 0 0 0x01 0 1 s)
  let s := put [(F.CHN_CTRL_PATH 0, 1), (F.RDR_CFG_STARVE_PARK 0, 1), (F.RDR_IDLE_CN_CN 0, 1), (F.EDG_TS_CTRL_VALID 0 0, 1),
    (F.EDG_TS_CTRL_FORMAT 0 0, 5)] s
  ctxAs 0 { arming := true } s
theorem witness_ArmCheckEnds :
    idle.flag (F.STK_FREQ_GO 0) = false ∧ idle.flag (F.STK_FREQ_GO 1) = false ∧ (idle.ctx 0).arming = false ∧
    (armable.ctx 0).arming = true ∧ armable.flag (F.STK_FREQ_GO 0) = false ∧ (armable.armCheck 0).isLeft = true ∧
    (let s := ctxAs 15 { arming := true } (ctxIn 15 .idle idle); (s.ctx 15).arming = true ∧ (s.armCheck 15).getRight? = some (0x04, 0)) := by
  decide +kernel

/-- Context 0 ARMED, with these decisions due. -/
def armedDue (l : List (Nat × Due)) : State := ctxAs 0 { due := l } (ctxIn 0 .armed idle)
theorem witness_LeafBoundaries :
    ((idle.ctxState 15).active = false ∧ (idle.ctx 15).due = [] ∧ idle.flag F.GRP_CFG_EN = false ∧ (idle.ctx 15).past = []) ∧
    ((armedDue []).ctxState 0 = .armed ∧ ((armedDue []).ctx 0).due = []) ∧ ((armedDue [(1, .halt)]).ctx 0).due = [(1, .halt)] ∧
    ((armedDue [(1, .disarm)]).ctx 0).due = [(1, .disarm)] ∧ ((armedDue [(0 + 2, .start)]).ctx 0).due = [(0 + 2, .start)] := by decide +kernel

theorem witness_ReaderTimers :
    (let s := ctxAs 0 { plan := [planned (.wait { expired := true })] } (ctxIn 0 .wait idle)
     s.ctxState 0 = .wait ∧ (s.ctx 0).waiting = some { expired := true } ∧ ∀ d ∈ (s.ctx 0).due, d.2 ≠ .stop 0x23) ∧
    (let s := ctxAs 0 { plan := [planned (.wait { src := 5, timeout := 1 })], acc := 2 ^ 33 } (ctxIn 0 .wait idle)
     (s.ctx 0).waiting = some { src := 5, timeout := 1 } ∧ 1 * 2 ^ 33 ≤ (s.ctx 0).acc - 0) ∧
    (let s := ctxIn 0 .hold idle; s.ctxState 0 = .hold ∧ (s.ctx 0).due = [] ∧ s.refilled 0 = false) ∧
    (let s := ctxAs 0 { plan := [planned (.holdWord 16 0)], held := 4 }
        (put [(F.RDR_HOLD_LIMIT_LIMIT 0, 5)] (ctxIn 0 .hold idle))
     s.ctxState 0 = .hold ∧ s.refilled 0 = true ∧ (s.rd (Reg.RDR_HOLD_LIMIT 0)).toNat ≠ 0 ∧ (s.rd (Reg.RDR_HOLD_LIMIT 0)).toNat ≤ (s.ctx 0).held + 1) ∧
    AdmittedPlain idle (Reg.RDR_HOSTFLAG 15) (hw 1) := by decide +kernel

theorem witness_EdgesAct :
    (idle.chan 0).events = [] ∧
    (let s := drv { events := [{ time := 0, vec := 32, kind := 1 }] } idle
     (s.chan 0).events = { time := 0, vec := 32, kind := 1 } :: [] ∧ EdgeEvent.isStrobe { time := 0, vec := 32, kind := 1 } = false) ∧
    (let e : EdgeEvent := { time := 0, vec := 32, kind := 4, strobe := 1, sym := 1 }
     let p : PastLeaf := { leaf := 1, ord := 1, pattern := true }
     let s := drv { events := [e] } (ctxAs 0 { past := [p] } chn)
     (s.chan 0).events = e :: [] ∧ e.isStrobe = true ∧ e.strobe ≠ 3 ∧ s.owner 0 = some 0 ∧ (s.ctx 0).pastLeaf e.leaf = some p ∧
      s.evaluated p 0 = true ∧ expectFails e (s.chan 0).out { h := false, l := false } = true) := by decide +kernel

/-- Bytes of the flash. -/
def flashed (l : List (Nat × List Byte)) (s : State) : State :=
  { s with arch := { s.arch with cells := l.flatMap (fun p => p.2.mapIdx (fun i b => (p.1 + i, b))) } }
/-- A cluster's microcode loads from the Archive's errata slot: a bundle header of Table 7-3 (version 3, for this cluster's resident version). -/
def reloading : State :=
  let h := leBytes 0x52454B56 4 ++ leBytes 1 2 ++ leBytes 0xA1 2 ++ leBytes ((idle.rd (Reg.UCS_ID 0)).toNat / 65536) 4 ++ leBytes 3 4 ++
    leBytes 0 4 ++ leBytes 1 1 ++ leBytes 0 3 ++ leBytes 64 4 ++ leBytes 0 100
  flashed [(0x50000, h), (0x5FFF8, leBytes 1 4 ++ leBytes 0x736C6F74 4)] (put [(F.UCS_CMD_RELOAD 0, 1), (F.UCS_STATUS_STATE 0, 1)] idle)
theorem witness_MicroTrapsAndErrata :
    ((ctxIn 15 .idle idle).ctxState 15 ≠ .off ∧ (idle.ctx 15).trap = none ∧ idle.fenced (unitCode 4 (15 / 4)) = false) ∧
    ((ctxIn 15 .play idle).ctxState 15).playing = true ∧
    (let s := put [(F.UCS_BRK_EN 3 3, 1), (F.UCS_BRK_WORD 3 3, 4), (F.RDR_POS_WORD 15, 4)] (ctxIn 15 .play idle)
     s.flag (F.UCS_BRK_EN (15 / 4) (15 % 4)) = true ∧ s.f (F.RDR_POS_WORD 15) = s.f (F.UCS_BRK_WORD (15 / 4) (15 % 4))) ∧
    (((ctxAs 0 { trap := some 5 } idle).ctx 0).trap = some 5 ∧ ((ctxAs 0 { trap := some 5, trapsHeld := [6] } idle).ctx 0).trapsHeld = 6 :: []) ∧
    (Admitted idle (Reg.UCS_CMD 3) (hw 1) ∧ (hw 1).bit 0 = true ∧ (stored idle (Reg.UCS_CMD 3) (hw 1)).flag (F.UCS_CMD_RELOAD 3) = false ∧
      (stored idle (Reg.UCS_CMD 3) (hw 1)).mode ∈ [.idle, .armed, .run, .paused, .characterise] ∧
      (∀ i, i < 4 → (((stored idle (Reg.UCS_CMD 3) (hw 1)).ctxState (4 * 3 + i)).active = false))) ∧
    (let q := stored (mode 11) (Reg.UCS_CMD 3) (hw 1)
     Admitted (mode 11) (Reg.UCS_CMD 3) (hw 1) ∧ q.mode ∉ [.idle, .armed, .run, .paused, .characterise] ∧ q.flag (F.UCS_CMD_RELOAD 3) = false) ∧
    (let s := ctxIn 15 .play idle
     Admitted s (Reg.UCS_CMD 3) (hw 1) ∧ ((stored s (Reg.UCS_CMD 3) (hw 1)).ctxState (4 * 3 + 3)).active = true ∧
      (stored s (Reg.UCS_CMD 3) (hw 1)).flag (F.UCS_CMD_RELOAD 3) = false) := by decide +kernel
theorem witness_reloading :
    reloading.flag (F.UCS_CMD_RELOAD 0) = true ∧ reloading.f (F.UCS_STATUS_STATE 0) = 1 ∧ reloading.flag (F.UCS_CMD_SOURCE 0) = false ∧
    reloading.arch.activeSlot errataBase = some (0x50000, 1) ∧ reloading.fenced (unitCode 4 0) = false ∧
    reloading.bundleResult 0 (reloading.arch.bytes 0x50000 (Nat.min 0xFFF8 (bundleLen (reloading.arch.bytes 0x50000 128)))) {} false = 1 := by
  decide +kernel

/-- A library with one folio, and a write of LIB_CMD_OP for it. -/
def shelved : State := put [(F.LIB_CMD_CN, 1), (F.LIB_CMD_TGT_TARGETS, 1)] (folio 0 bareLeaf idle)
def libOp (op : Nat) : BusWrite := hw (op + 2 ^ 31)
theorem witness_LibraryCommands :
    (Instr.libCmdNone (libOp 0) ∈ [Instr.libCmdNone (libOp 0), .libInvalidate (libOp 0), .libInvalidateAll (libOp 0), .libLoad (libOp 0), .libEvict (libOp 0)]) ∧
    (let s := put [(F.LIB_CMD_OP_GO, 1)] shelved; s.flag F.LIB_CMD_OP_GO = true ∧ AdmittedPlain s Reg.LIB_CMD_OP (libOp 0)) ∧
    (shelved.flag F.LIB_CMD_OP_GO = false ∧ Admitted shelved Reg.LIB_CMD_OP (libOp 2) ∧ (libOp 2).bit 31 = true ∧ shelved.lib.cur = none ∧
      shelved.lib.queue = []) ∧
    (stored shelved Reg.LIB_CMD_OP (libOp 5)).libRefuse { op := 5, cn := 1, tgt := 1 } = .inl 0x0A ∧
    ((stored shelved Reg.LIB_CMD_OP (libOp 0)).libMode = true ∧ (stored shelved Reg.LIB_CMD_OP (libOp 1)).f F.LIB_CMD_OP_OP = 1) ∧
    (let q := stored shelved Reg.LIB_CMD_OP (libOp 4)
     q.libRefuse { op := q.f F.LIB_CMD_OP_OP, cn := q.f F.LIB_CMD_CN, tgt := q.f F.LIB_CMD_TGT_TARGETS } = .inr (entry 68) ∧ q.f F.LIB_CMD_OP_OP = 4) ∧
    (let q := stored shelved Reg.LIB_CMD_OP (libOp 3)
     q.libRefuse { op := q.f F.LIB_CMD_OP_OP, cn := q.f F.LIB_CMD_CN, tgt := q.f F.LIB_CMD_TGT_TARGETS } = .inr (entry 68) ∧ q.f F.LIB_CMD_OP_OP = 3) := by
  decide +kernel

/-- A LOAD of call number 1 to these targets is under way. -/
def loading (tgt : Nat) (l : LoadSt) (reqs : List OriginReq := []) : State :=
  { shelved with lib := { shelved.lib with cur := some { op := 3, cn := 1, tgt := tgt }, load := l, reqs := reqs } }
/-- The folio's bytes. -/
def bareFolio : List Byte := header 4 0 ++ bareLeaf
/-- A request that has come. -/
def came (bs : List Byte) (bad : Bool := false) : OriginReq := { tag := 0, addr := 0, len := 68, bytes := bs, bad := bad, done := true }
theorem witness_LibraryLoads :
    idle.lib.cur = none ∧
    (let s := loading 1 { entry := entry 68 } [came bareFolio true]
     s.lib.cur = some { op := 3, cn := 1, tgt := 1 } ∧ s.lib.load.waits { op := 3, cn := 1, tgt := 1 } 0 = true ∧ s.loadBytes = some (bareFolio, true) ∧
      s.lib.queue = []) ∧
    (let s := loading 1 { entry := entry 68 } [came []]
     s.loadBytes = some ([], false) ∧ s.lib.load.checked = false ∧ folioHeaderOk (([] : List Byte).take 64) (entryLength s.lib.load.entry) = false) ∧
    (let s := loading 3 { entry := entry 68, checked := true } [came bareFolio]
     s.lib.load.waits { op := 3, cn := 1, tgt := 3 } 1 = true ∧ s.loadBytes = some (bareFolio, false) ∧ s.lib.load.checked = true ∧
      (s.lib.load.done ||| setBitTo s.lib.load.fails 1 true) &&& 3 ≠ 3) ∧
    (let s := loading 1 { entry := entry 68, checked := true } [came bareFolio]
     s.lib.load.fails = 0 ∧ (s.stkWrite (entryLocal s.lib.load.entry 0) 5 bareFolio (fun _ => false)).1 = none) ∧
    ((loading (2 ^ 17) {}).lib.load.acks = none ∧ (loading (2 ^ 17) {}).lib.load.done = 0) ∧
    (loading 1 { acks := some 1 }).lib.load.acks.isSome = true ∧ (1 ||| 0) &&& 1 = (1 : Nat) ∧
    ((loading 5 { done := 5 }).lib.load.done &&& 5 = 5 ∧ 4 ≤ 5) ∧
    (bitAt 0x8000 15 = true ∧ bitAt 0x8000 14 = false ∧ (loading (2 ^ 17) { acks := some 0x8000 }).lib.load.acks = some 0x8000) := by decide +kernel

/-- An open folio that streams from a host origin, one leaf of 4 bytes. -/
def streamed : OpenFolio := { opened with entry := sealed (leBytes 1 4 ++ leBytes 3 1 ++ leBytes 0 1 ++ leBytes 0 2 ++ leBytes 68 8 ++ leBytes (2 ^ 51) 8 ++
  leBytes 0 16 ++ leBytes 1 4 ++ leBytes 0 4 ++ leBytes 0 12) }
def concImage : List Byte :=
  let e := leBytes 0x55 16
  sealed (leBytes 0x4E434B56 4 ++ leBytes 1 2 ++ leBytes 0 2 ++ leBytes 9 4 ++ leBytes 1 2 ++ leBytes 0 2 ++ leBytes (crc32c e) 4 ++
    leBytes 0 40) ++ e
theorem witness_LibraryLoads_streams :
    (let s := ctxAs 0 { folios := [streamed] } (put [(F.LIB_CTX_PF_DEPTH 0, 64)] (ctxIn 0 .play shelved))
     (s.ctx 0).folios.find? (fun f => decide (f.cn = 1)) = some streamed ∧ (s.ctxState 0).active = true ∧ s.staging 0 = [] ∧
      s.f (F.LIB_CTX_PF_DEPTH 0) ≠ 0 ∧ entryStream streamed.entry = true ∧ s.copies streamed.entry = [] ∧ 1 ≤ entryLeaves streamed.entry ∧
      64 + 4 ≤ entryLength streamed.entry ∧ (entryOrigin streamed.entry + 64) / 2 ^ 50 = 2) ∧
    (let q : OriginReq := { came bareLeaf with ctx := some 0, cn := 1, part := 1 }
     ({ shelved with lib := { shelved.lib with reqs := [q] } } : State).lib.reqs.find?
      (fun q => q.done && decide (q.ctx = some 0 ∧ q.cn = 1 ∧ q.part = 1)) = some q ∧ q.bad = false ∧ ({ q with bad := true } : OriginReq).bad = true) ∧
    (idle.lib.reqs.find? (fun q => q.done && decide (q.ctx = some 0 ∧ q.cn = 1 ∧ q.part = 1)) = none) ∧
    (let q := stored idle Reg.LIB_CONC_CMD (hw 1)
     Admitted idle Reg.LIB_CONC_CMD (hw 1) ∧ idle.flag F.LIB_CONC_CMD_GO = false ∧ q.f F.LIB_CONC_CMD_BAYS = 0) ∧
    (let q := stored idle Reg.LIB_CONC_CMD (hw 0x11)
     q.f F.LIB_CONC_CMD_BAYS ≠ 0 ∧ q.concBusy 1 = false ∧ q.mode ≠ .selftest ∧ q.mode ≠ .safe ∧ Admitted (mode 11) Reg.LIB_CONC_CMD (hw 0x11)) ∧
    (stored (ctxIn 0 .play chn) Reg.LIB_CONC_CMD (hw 0x11)).concBusy 1 = true := by decide +kernel
/-- A concordance load under way, with its image at LOCAL 0x300000. -/
def concLoading (img : List Byte) : State :=
  let s := put [(F.LIB_CONC_CMD_GO, 1), (F.LIB_CONC_ADDR_LO_ADDR, 0x300000 / 64)] (shelved.stBytes 0x300000 img)
  { s with lib := { s.lib with concBays := 8 } }
theorem witness_LibraryLoads_concordance :
    let s := concLoading concImage
    s.flag F.LIB_CONC_CMD_GO = true ∧ s.concBusy s.lib.concBays = false ∧ s.mode ≠ .selftest ∧ s.bad = [] ∧ localOk 0x300000 64 = true ∧
      s.f F.LIB_CONC_ADDR_HI_ADDR * 2 ^ 32 + s.f F.LIB_CONC_ADDR_LO_ADDR * 64 = 0x300000 ∧ s.stkUp (stackOf 0x300000) = true ∧
      concHeaderOk (s.ldBytes 0x300000 64) = true ∧ crc32c ((s.ldBytes 0x300000 (64 + 16 * 1)).drop 64) = leAt (s.ldBytes 0x300000 64) 0x10 4 ∧
      concHeaderOk ((concLoading []).ldBytes 0x300000 64) = false := by decide +kernel

/-- Both stacks ACTIVE. -/
def stackEnv : State := put [(F.STK_STATE_STATE 0, 2), (F.STK_STATE_STATE 1, 2)] idle
/-- A mirror window of 2 MiB on both, not yet in SYNC. -/
def mirrored : State := put [(F.STK_MIR_BASE_EN 7, 1), (F.STK_MIR_SIZE_SIZE 7, 1)] stackEnv
theorem witness_StackAccesses :
    localOk (2 ^ 41) 1 = false ∧ (localOk 0 1 = true ∧ idle.stkUp (stackOf 0) = false) ∧
    (localOk (2 ^ 40) 1 = true ∧ stackEnv.stkUp (stackOf (2 ^ 40)) = true ∧ stackEnv.badGranule (2 ^ 40) = false) ∧
    (readOutcome 0 0 = 0 ∧ readOutcome 1 0 = 1 ∧ readOutcome 0 1 = 2) ∧
    ((stackEnv.setBad 64 true).badGranule 127 = true ∧ (stackEnv.setBad 64 true).mirrorSync (offsetOf (127 / 64 * 64)) = false) ∧
    ((put [(F.STK_CFG_SCRUB_H, 0)] stackEnv).f F.STK_CFG_SCRUB_H = 0 ∧ (put [(F.STK_CFG_SCRUB_H, 1)] stackEnv).f F.STK_CFG_SCRUB_H ≠ 0) ∧
    stackEnv.windowAt (offsetOf 63) = none ∧
    ((mirrored.windowAt (offsetOf 0x1FFFFF)).isSome = true ∧ mirrored.stkUp (1 - stackOf 0x1FFFFF) = true ∧ mirrored.badGranule (twin 0x1FFFFF) = false) := by
  decide +kernel
theorem witness_StackScheduler :
    (∀ r ∈ [(4, 0, true), (0, 64, false)], localOk (localAddr 1 r.2.1) 1 = true) ∧ idle.stkUp 1 = false ∧
    (put [(F.STK_STATE_STATE 1, 3)] idle).stkState 1 = 3 ∧ stackEnv.stkState 1 = 2 := by decide +kernel
theorem witness_StackService :
    (Admitted stackEnv (Reg.STK_FREQ 1) (hw 0x110) ∧ (hw 0x110).bit 8 = true ∧ (stored stackEnv (Reg.STK_FREQ 1) (hw 0x110)).flag (F.STK_FREQ_WHEN 1) = true) ∧
    (let s := stackEnv.setF F.SYS_MODE_MODE 11
     Admitted s (Reg.STK_FREQ 1) (hw 0x100) ∧ (stored s (Reg.STK_FREQ 1) (hw 0x100)).flag (F.STK_FREQ_WHEN 1) = false ∧
      (stored s (Reg.STK_FREQ 1) (hw 0x100)).mode ≠ .idle) ∧
    (let s := put [(F.STK_FREQ_GO 0, 1)] stackEnv
     Admitted s (Reg.STK_FREQ 1) (hw 0x100) ∧ (stored s (Reg.STK_FREQ 1) (hw 0x100)).trainBusy = true) ∧
    (let q := stored stackEnv (Reg.STK_FREQ 1) (hw 0x101)
     Admitted stackEnv (Reg.STK_FREQ 1) (hw 0x101) ∧ q.flag (F.STK_FREQ_WHEN 1) = false ∧ q.mode = .idle ∧ q.trainBusy = false ∧ q.armRunning = false ∧
      q.stkState 1 = 2) ∧
    (stackEnv.flag (F.STK_FREQ_GO 1) = false ∧ (put [(F.STK_FREQ_GO 1, 1)] stackEnv).flag (F.STK_FREQ_GO 1) = true ∧ stackEnv.fcl.windows = []) ∧
    (stackEnv.stkState 1 ≠ 1 ∧ (put [(F.STK_STATE_STATE 1, 1)] idle).stkState 1 = 1) ∧
    (Instr.stkFence 1 (hw 1) ∈ [Instr.stkFence 1 (hw 1), .stkRetrain 1 (hw 1), .stkClrCnt 1 (hw 1)]) ∧
    (AdmittedPlain stackEnv (Reg.STK_CTRL 1) (hw 4) ∧ (hw 4).bit 2 = true ∧ (hw 1).bit 0 = true ∧ (hw 2).bit 1 = true ∧ (hw 3).bit 0 = true ∧
      (hw 3).bit 1 = true) ∧
    ((stackEnv.fenced (unitCode 9 (1 - 1)) || stackEnv.stkRetraining (1 - 1)) = false ∧ stackEnv.stkServiceOk 1 = true ∧
      (stackEnv.setF F.SYS_MODE_MODE 11).stkServiceOk 1 = false ∧ (put [(F.STK_FREQ_GO 0, 1)] stackEnv).trainBusy = true) ∧
    (stackEnv.stkRetraining 1 = false ∧ (put [(F.STK_STATE_STATE 1, 4)] idle).stkRetraining 1 = true) := by decide +kernel
theorem witness_MirrorWindows :
    (Admitted stackEnv (Reg.STK_MIR_BASE 7) (hw 0x80000000) ∧ stackEnv.flag (F.STK_MIR_BASE_EN 7) ≠
      (stored stackEnv (Reg.STK_MIR_BASE 7) (hw 0x80000000)).flag (F.STK_MIR_BASE_EN 7)) ∧
    (Admitted stackEnv (Reg.STK_MIR_BASE 0) (hw 5) ∧ stackEnv.flag (F.STK_MIR_BASE_EN 0) = (stored stackEnv (Reg.STK_MIR_BASE 0) (hw 5)).flag (F.STK_MIR_BASE_EN 0)) ∧
    (let s := mirrored.stByte 9 1
     (∀ p ∈ s.mem, p.1 < 2 ^ 41) ∧ s.bad = [] ∧ s.stkUp 0 = true ∧ s.stkUp 1 = true ∧ s.flag (F.STK_MIR_BASE_EN 7) = true ∧
      s.flag (F.STK_MIR_STATUS_SYNC 7) = false ∧ Memory.wf s.mem = true ∧ Regs.wf s.regs = true) ∧
    stackEnv.flag (F.STK_MIR_BASE_EN 7) = false ∧
    (AdmittedPlain idle Reg.STK_LOG_STATUS (hw 0x80000000) ∧ (hw 0x80000000).bit 31 = true) := by decide +kernel

/-- A unit fenced. -/
def fence (u : Nat) (s : State) : State := { s with fcl := { s.fcl with fences := [(u, some {})] } }
/-- Stream k of the Ledger, enabled, 64 KiB at LOCAL 0x10000. -/
def streaming (k : Nat) (x : Stream) : State :=
  put [(F.LDG_STR_CFG_EN (k / 21) (k % 21), 1), (F.LDG_STR_CFG_SIZE_LOG2 (k / 21) (k % 21), 16), (F.LDG_STR_BASE_LO_ADDR (k / 21) (k % 21), 1)]
    { stackEnv with ldg := { stackEnv.ldg with streams := [(k, x)] } }
theorem witness_LedgerStreams :
    (stackEnv.stream 0).buf = [] ∧
    (let s := streaming 83 { buf := [leBytes 1 8, leBytes 2 8] }
     let a := s.strBase 83 + s.strWr 83 % s.strSize 83
     (s.stream 83).buf = leBytes 1 8 :: [leBytes 2 8] ∧ s.fenced (unitCode 5 (83 / 21)) = false ∧ s.stkUp (stackOf a) = true ∧
      (∀ i, i < 8 → s.flag (F.STK_MIR_BASE_EN i) = false) ∧ s.bad = [] ∧ localOk a (leBytes 1 8).length = true) ∧
    (let s := fence (unitCode 5 3) (streaming 83 { buf := [leBytes 1 8] })
     (s.stream 83).buf ≠ [] ∧ s.fenced (unitCode 5 (83 / 21)) = true) ∧
    (let s := put [(F.LDG_STR_CFG_EN 3 20, 0)] (streaming 83 {})
     let w := hw 0x80000010
     Admitted s (Reg.LDG_STR_CFG (83 / 21) (83 % 21)) w ∧ s.strEn 83 = false ∧ (stored s (Reg.LDG_STR_CFG (83 / 21) (83 % 21)) w).strEn 83 = true) ∧
    (AdmittedPlain stackEnv (Reg.LDG_STR_DR (83 / 21) (83 % 21)) (hw 4) ∧ (hw 4).data.toNat % 8 ≠ 0) ∧
    ((hw 8).data.toNat % 8 = 0 ∧ (let s := put [(⟨Reg.LDG_STR_WR 3 20, 0, 32⟩, 16)] stackEnv
      ¬ (s.strWr 83 + 2 ^ 32 - s.strDr 83) % 2 ^ 32 < (s.strWr 83 + 2 ^ 32 - (hw 8).data.toNat) % 2 ^ 32)) ∧
    (let s := streaming (strOfSite 63) { adm := 8192 }
     Admitted s (Reg.LDG_SITE_QUOTA 63) (hw 1) ∧
      (stored s (Reg.LDG_SITE_QUOTA 63) (hw 1)).quota 63 < (stored s (Reg.LDG_SITE_QUOTA 63) (hw 1)).strLevel (strOfSite 63) ∧
      (stored s (Reg.LDG_SITE_QUOTA 63) (hw 3)).strLevel (strOfSite 63) < (stored s (Reg.LDG_SITE_QUOTA 63) (hw 3)).quota 63) ∧
    (AdmittedPlain stackEnv (Reg.LDG_SITE_FAIL 63) (hw 4) ∧ AdmittedPlain stackEnv (Reg.LDG_SITE_DROP 0) (hw 4) ∧
      Admitted stackEnv (Reg.LDG_SITE_STATUS 63) (hw 8) ∧ (hw 8).bit 3 = true) := by decide +kernel

/-- Channel 0's PMU so, its bay on and its PMU on the ball. -/
def metered (p : Pmu) : State := { drv { conn := 2 } (on [36] chn) with pmus := [(0, p)] }
theorem witness_PmuAndDecimation_pmu :
    (idle.owner 255 = none ∧ Admitted (on [35, 31, 39] idle) (Reg.PMU_CTRL 255) (hw 1) ∧ Admitted (on [35, 31, 39] idle) (Reg.PMU_FORCE 255) (hw 1) ∧
      Admitted (on [35, 31, 39] idle) (Reg.PMU_CLAMP 255) (hw 1) ∧ (on [35, 31, 39] idle).owner 255 = none) ∧
    ((idle.pmu 255).ctrl ≠ (stored (on [35, 31, 39] idle) (Reg.PMU_CTRL 255) (hw 1)).rd (Reg.PMU_CTRL 255) ∧ idle.chFenced 255 = false ∧
      idle.mode ≠ .safe ∧ idle.mode ≠ .selftest) ∧
    (let s := ctxIn 0 .play (on [36] chn)
     s.owner 0 = some 0 ∧ (s.ctxState 0).active = true ∧ Admitted s (Reg.PMU_FORCE 0) (hw 1)) ∧
    (let s := put [(F.PMU_SENSE_EN 0 0, 1)] (metered { ctrl := 1 })
     (s.pmuForcing 0 && s.senseRoute 0 && !s.flag (F.PMU_STATUS_SENSE_OPEN 0)) = true) ∧
    (idle.pmuForcing 255 && idle.senseRoute 255 && !idle.flag (F.PMU_STATUS_SENSE_OPEN 255)) = false := by decide +kernel
theorem witness_PmuAndDecimation :
    (let s := on [39] idle
     Admitted s (Reg.PMU_SENSE 3 3) (hw 0x80000000) ∧
      (stored s (Reg.PMU_SENSE 3 3) (hw 0x80000000)).rd (Reg.PMU_SENSE 3 3) ≠ s.rd (Reg.PMU_SENSE 3 3) ∧
      (stored s (Reg.PMU_SENSE 3 3) (hw 0)).rd (Reg.PMU_SENSE 3 3) = s.rd (Reg.PMU_SENSE 3 3) ∧ Admitted s (Reg.PMU_SENSE 3 3) (hw 0)) ∧
    (let s := on [35, 31, 39] idle
     Admitted s (Reg.FLT_CH 255) (hw 0x80000000) ∧ s.owner 255 = none ∧
      (s.pmu 255).flt ≠ (stored s (Reg.FLT_CH 255) (hw 0x80000000)).rd (Reg.FLT_CH 255) ∧
      (stored s (Reg.FLT_CH 255) (hw 0x80000000)).flag (F.FLT_CH_EN 255) = true) ∧
    (let s := metered { ctrl := 1, flt := 0x80000000 }
     s.domOn (domPmu (bayOfCh 0)) = true ∧ 65 % decimation (s.fltPreset 0) ≠ 0 ∧ 128 % decimation (s.fltPreset 0) = 0 ∧ s.fltEn 0 = true ∧
      s.fenced (unitCode 6 (bayOfCh 0)) = false) ∧
    (Admitted (on [39] idle) (Reg.FLT_BANK 3) (hw 0x80000060) ∧ (hw 0x80000060).bit 31 = true ∧ (hw 0).bit 31 = false) ∧
    (idle.flag (F.FLT_BANK_PENDING 3) = false ∧ (put [(F.FLT_BANK_PENDING 3, 1)] idle).flag (F.FLT_BANK_PENDING 3) = true ∧ 64 % idle.nMax 3 = 0) := by
  decide +kernel

/-- An engine ARMED with these samples; its state S0 has one transition of a predicate and qualifier that leads to S1. -/
def acquiring (x : Acq) (qual : Nat) : State :=
  put [(F.ACQ_STATUS_STATE 7, 1), (F.ACQ_TR_CTRL_EN 7 0 0, 1), (F.ACQ_TR_CTRL_QUAL 7 0 0, qual), (F.ACQ_TR_CTRL_NEXT 7 0 0, 1)]
    { on [39] idle with acqs := [(7, x)] }
theorem witness_AcquisitionEngines :
    (let s := put [(F.ACQ_SRC_KIND 0, 1)] (on [36] chn)
     Admitted s (Reg.ACQ_CTRL 0) (hw 1) ∧ (hw 1).bit 0 = true ∧ (stored s (Reg.ACQ_CTRL 0) (hw 1)).f (F.ACQ_STATUS_STATE 0) = 0 ∧
      (stored s (Reg.ACQ_CTRL 0) (hw 1)).acqArmResult 0 = 1) ∧
    (let q := stored (on [39] idle) (Reg.ACQ_CTRL 7) (hw 1)
     Admitted (on [39] idle) (Reg.ACQ_CTRL 7) (hw 1) ∧ q.f (F.ACQ_STATUS_STATE 7) = 0 ∧ q.acqArmResult 7 ≠ 1) ∧
    (let s := acquiring {} 0
     Admitted s (Reg.ACQ_CTRL 7) (hw 1) ∧ Admitted s (Reg.ACQ_CTRL 7) (hw 2) ∧ (hw 2).bit 1 = true ∧
      ¬ ((stored s (Reg.ACQ_CTRL 7) (hw 1)).f (F.ACQ_STATUS_STATE 7) = 0 ∨ (stored s (Reg.ACQ_CTRL 7) (hw 1)).f (F.ACQ_STATUS_STATE 7) = 2) ∧
      (stored s (Reg.ACQ_CTRL 7) (hw 2)).acqArmed 7 = true ∧ (stored (on [39] idle) (Reg.ACQ_CTRL 7) (hw 2)).acqArmed 7 = false) ∧
    ((idle.acq 7).waiting = [] ∧ idle.timerDue 7 0 = none ∧ idle.f (F.ACQ_HOLDOFF_MODE 7) ≠ 1 ∧
      (put [(F.ACQ_HOLDOFF_MODE 7, 1)] idle).f (F.ACQ_HOLDOFF_MODE 7) = 1) ∧
    (let s := acquiring { waiting := [(1, 0)] } 0
     (s.acq 7).waiting = (1, 0) :: [] ∧ s.acqArmed 7 = true ∧ (s.acq 7).maskOn = false ∧ (∀ t, t < 4 → (s.trOn 7 0 t = true ↔ t = 0)) ∧
      s.f (F.ACQ_TR_CTRL_ACTIONS 7 0 0) = 0 ∧ s.flag (F.ACQ_STATE_REDUCE 7 0) = false ∧ (s.acq 7).hold = 0 ∧ s.trPred 7 0 0 = 0 ∧ s.trQual 7 0 0 = 0 ∧
      s.f (F.ACQ_STATUS_TSTATE 7) = 0) ∧
    (let s := put [(F.ACQ_TR_CTRL_EN 7 0 0, 0)] (acquiring { waiting := [(1, 0)] } 0)
     (s.acq 7).waiting = (1, 0) :: [] ∧ s.acqArmed 7 = true ∧ ∀ t, t < 4 → s.trOn 7 0 t = false) ∧
    (let s := acquiring {} 3
     s.acqArmed 7 = true ∧ s.trQual 7 0 0 = 3 ∧ (s.acq 7).timer ≤ s.trN 7 0 0 ∧ s.trPred 7 0 0 = 0) := by decide +kernel

/-- A TIM ARMED, so. -/
def timing (x : Tim) (l : List (RF × Nat)) : State := put ([(F.TIM_STATUS_STATE 3, 1), (F.TIM_START_SRC_SRC 3, 0xA), (F.TIM_STOP_SRC_SRC 3, 0xB)] ++ l)
  { on [48] idle with tims := [(3, x)] }
theorem witness_IntervalMeasurement :
    (let s := put [(F.TIM_STATUS_STATE 3, 0), (F.TIM_N_N 3, 1), (F.TIM_CFG_NSTOP 3, 1)] (timing {} [])
     Admitted s (Reg.TIM_CTRL 3) (hw 1) ∧ (stored s (Reg.TIM_CTRL 3) (hw 1)).f (F.TIM_STATUS_STATE 3) = 0 ∧
      (stored s (Reg.TIM_CTRL 3) (hw 1)).timArmResult 3 = 1) ∧
    (Admitted (on [48] idle) (Reg.TIM_CTRL 3) (hw 1) ∧ (stored (on [48] idle) (Reg.TIM_CTRL 3) (hw 1)).timArmResult 3 ≠ 1) ∧
    (let s := timing {} []
     Admitted s (Reg.TIM_CTRL 3) (hw 1) ∧ Admitted s (Reg.TIM_CTRL 3) (hw 2) ∧ (stored s (Reg.TIM_CTRL 3) (hw 2)).timArmed 3 = true ∧
      (stored s (Reg.TIM_CTRL 3) (hw 1)).f (F.TIM_STATUS_STATE 3) = 1 ∧ (stored (on [48] idle) (Reg.TIM_CTRL 3) (hw 2)).timArmed 3 = false) ∧
    (let s := timing {} [(F.TIM_CFG_NSTOP 3, 2)]
     s.timArmed 3 = true ∧ s.flag (F.TIM_CFG_MODE 3) = false ∧ (s.tim 3).ready = none ∧ (s.tim 3).running = false ∧ (s.tim 3).lastStart = none) ∧
    (let s := timing { running := true, start := 10 } [(F.TIM_CFG_NSTOP 3, 2)]
     let d := (s.timStampOf 3 (s.f (F.TIM_STOP_SRC_SRC 3)) (s.f (F.TIM_STOP_SRC_INDEX 3)) 1600 + 2 ^ 64 - (s.tim 3).start) % 2 ^ 64
     (s.tim 3).running = true ∧ (s.tim 3).lastStart = none ∧ (s.tim 3).lastStop = none ∧ s.f (F.TIM_TIMEOUT_US 3) = 0 ∧
      (s.tim 3).ivl.length + 1 < max 1 (s.f (F.TIM_CFG_NSTOP 3)) ∧ s.f (F.TIM_HOLDOFF_SU 3) ≤ d ∧ d < 2 ^ 63) ∧
    ((timing { lastStart := some 5 } []).timArmed 3 = true ∧ ((timing { lastStart := some 5 } []).tim 3).lastStart = some 5 ∧ (10490 : Int) - 5 < 10486) ∧
    ((timing {} [(F.TIM_CFG_MODE 3, 1)]).flag (F.TIM_CFG_MODE 3) = true) ∧
    (let s := timing { running := true } [(F.TIM_TIMEOUT_US 3, 1)]
     (s.timArmed 3 && (s.tim 3).running && !s.flag (F.TIM_CFG_MODE 3) && decide (s.f (F.TIM_TIMEOUT_US 3) ≠ 0)) = true) ∧
    (let s := timing { running := true } [(F.TIM_CFG_MODE 3, 1)]
     (s.timArmed 3 && (s.tim 3).running && s.flag (F.TIM_CFG_MODE 3)) = true) ∧
    (idle.timArmed 3 = false ∧ (timing { ready := some {} } []).timArmed 3 = true ∧ ((timing { ready := some {} } []).tim 3).ready = some {}) := by
  decide +kernel

/-- Port 3 enabled, in a state of Table 14-6, with this link. -/
def port (st : Nat) (x : Port := {}) : State :=
  put [(F.LNK_PORT_CTRL_EN 3, 1), (F.LNK_PORT_STATUS_STATE 3, st)] { on [45] idle with ports := [(3, x)] }
theorem witness_PortLadder :
    (idle.portEnabled 3 = false ∧ (port 2).portEnabled 3 = true) ∧
    (idle.flag (F.LNK_LANE_STATUS_LOCK 3 7) = false ∧ (put [(F.LNK_LANE_STATUS_LOCK 3 7, 1)] (port 2)).flag (F.LNK_LANE_STATUS_LOCK 3 7) = true) ∧
    ((port 2).portState 3 = 2 ∧ (port 1).portState 3 = 1 ∧ (port 0).portState 3 = 0 ∧ (port 2).fcl.windows = [] ∧ idle.portState 3 ∉ [1, 2, 3]) ∧
    (((port 1 { step := 2 }).port 3).step = 2 ∧ ((port 1 { step := 2 }).port 3).partnerMax = none ∧ ((port 1 { step := 2 }).port 3).accepts < 15) ∧
    (let x := ((port 1 { step := 2, partnerMax := some 4, accepts := 15, rate := 4 }).port 3)
     x.partnerMax.isSome = true ∧ 15 ≤ x.accepts ∧ x.rate ≤ 4) ∧
    (((port 1 { step := 3, rate := 2 }).port 3).badLanes = none ∧ 1 < ((port 1 { step := 3, rate := 2 }).port 3).rate ∧
      ((port 1 { step := 3, rate := 1 }).port 3).rate ≤ 1) := by decide +kernel

/-- DUT lane 15 with its domain ON. -/
def dut (l : List (RF × Nat)) : State := put l (on [47] idle)
theorem witness_LaneCommands :
    (Instr.lnkPortRetrain 3 (hw 0x80000001) ∈ [Instr.lnkPortRetrain 3 (hw 0x80000001), .lnkPortFence 3 (hw 0x80000001), .lnkPortClear 3 (hw 0x80000001)]) ∧
    (let q := stored (port 2) (Reg.LNK_PORT_CTRL 3) (hw 0x80000001)
     Admitted (port 2) (Reg.LNK_PORT_CTRL 3) (hw 0x80000001) ∧ (hw 0x80000001).bit 31 = (port 2).flag (F.LNK_PORT_CTRL_EN 3) ∧ q.portState 3 = 2 ∧
      (q.portServiceOk 3 && decide (q.fenceCount 0xA + 1 ≤ 2)) = true) ∧
    (let q := stored (fence (unitCode 0xA 0) { port 2 with ports := [(1, { retraining := true }), (3, {})] }) (Reg.LNK_PORT_CTRL 3) (hw 0x80000001)
     let q := q.setF (F.LNK_PORT_STATUS_STATE 1) 1
     (q.portServiceOk 3 && decide (q.fenceCount 0xA + 1 ≤ 2)) = false) ∧
    (let q := stored (port 2) (Reg.LNK_PORT_CTRL 3) (hw 0x80000002)
     Admitted (port 2) (Reg.LNK_PORT_CTRL 3) (hw 0x80000002) ∧ (hw 0x80000002).bit 1 = true ∧ q.portState 3 ≠ 4 ∧ q.fenced (unitCode 0xA 3) = false ∧
      (q.portServiceOk 3 && decide (q.fenceCount 0xA + b2n (!q.portRetraining 3) ≤ 2)) = true) ∧
    (let s := fence (unitCode 0xA 3) (port 4)
     Admitted s (Reg.LNK_PORT_CTRL 3) (hw 0x80000004) ∧ (hw 0x80000004).bit 2 = true ∧ (stored s (Reg.LNK_PORT_CTRL 3) (hw 0x80000004)).portState 3 = 4) ∧
    AdmittedPlain idle (Reg.LNK_PORT_CRC 3 + 4 * 5) (hw 9) ∧
    (let s := dut [(F.LNK_DL_CFG_RX_MODE 15, 6), (F.LNK_DL_STATUS_CDR_LOCK 15, 1)]
     let q := stored s (Reg.LNK_DL_SEARCH 15) (hw 0x80000000)
     Admitted s (Reg.LNK_DL_SEARCH 15) (hw 0x80000000) ∧ s.flag (F.LNK_DL_SEARCH_GO 15) = false ∧ q.f (F.LNK_DL_CFG_RX_MODE 15) ∈ [1, 6] ∧
      q.flag (F.LNK_DL_STATUS_CDR_LOCK 15) = true) ∧
    (let s := dut [(F.LNK_DL_SEARCH_GO 15, 1), (F.LNK_DL_SEARCH_MAX 15, 7)]
     s.flag (F.LNK_DL_SEARCH_GO 15) = true ∧ 7 ≤ s.f (F.LNK_DL_SEARCH_MAX 15) ∧ (s.dlane 15).slipBefore < 4096) ∧
    (AdmittedPlain idle (Reg.LNK_DL_ERR 15) (hw 0) ∧ (dut []).domOn (46 + 15 / 8) = true ∧ idle.domOn (46 + 15 / 8) = false ∧
      (dut [(F.LNK_DL_CFG_RX_MODE 15, 5)]).f (F.LNK_DL_CFG_RX_MODE 15) ∈ [2, 3, 4, 5]) := by decide +kernel

/-- A frame for this device. -/
def frame (seq : Nat) : Frame := { vc := 0, kind := 1, seq := seq }
theorem witness_FramesReceived :
    (idle.portState 3 ≠ 2 ∧ idle.portState 3 ≠ 3 ∧ (port 2).portState 3 = 2 ∧ ((port 2).port 3).expect = 0 ∧ ((port 2).port 3).failures < 3) ∧
    ((frame 65535).hcrcOk = true ∧ (frame 65535).fcrcOk = true ∧ (frame 65535).seq ≠ ((port 2).port 3).expect ∧
      (frame 0).seq = ((port 2).port 3).expect ∧ (frame 0).dst = (port 2).f F.GRP_CFG_SELF ∧ (port 2).bad = [] ∧
      ({ frame 0 with fcrcOk := false } : Frame).fcrcOk = false) ∧
    ((port 2).lib.cur = none ∧ (port 2).lib.inParts = []) ∧
    (let r : OriginReq := { tag := 5, addr := 2 ^ 50, len := 68 }
     r.tag = 5 ∧ r.done = false ∧ r.addr / 2 ^ 50 = 1 ∧ r.bytes.length = 64 * bitsAt (frame 0).arg 0 24) ∧
    (let c : LibCmd := { op := 3, cn := 1, tgt := 2 ^ 17 }
     let s : State := { port 2 with lib := { cur := some c, load := { sent := 2 ^ 17, tag := 5 } } }
     let f : Frame := { frame 0 with src := 15, tag := 5 }
     s.lib.cur = some c ∧ f.tag = s.lib.load.tag ∧ f.src < 16 ∧ bitAt (c.tgt / 4) f.src = true ∧ s.lib.load.acks = none ∧ s.lib.load.fails = 0 ∧
      bitAt s.lib.load.sent (f.src + 2) = true ∧ s.lib.load.waits c (f.src + 2) = true ∧ bitsAt f.arg 24 8 = 0) := by decide +kernel

/-- Member 1 of a group of 0 and 1; port 3 on the tree, UP. -/
def grouped (st : Nat) (root : Bool) (g : Grp := {}) (l : List (RF × Nat) := []) : State :=
  put ([(F.GRP_CFG_EN, 1), (F.GRP_CFG_ROOT, b2n root), (F.GRP_CFG_SELF, 1), (F.GRP_MEMBERS_M, 3), (F.GRP_PORT_ROLE 3, 1), (F.GRP_CTX_CTX, 1),
    (F.GRP_STATUS_STATE, st)] ++ l) { port 2 with grp := g }
theorem witness_GroupCommands :
    (AdmittedPlain (grouped 2 true) Reg.GRP_CTRL (hw 2) ∧ onlyBit (hw 1) 0 ∧ onlyBit (hw 2) 1 ∧ onlyBit (hw 4) 2 ∧ onlyBit (hw 8) 3 ∧ onlyBit (hw 16) 4 ∧
      onlyBit (hw 32) 5) ∧
    (Instr.grpConfirm (hw 16) ∈ [Instr.grpStart (hw 16), .grpResume (hw 16) [], .grpConfirm (hw 16), .grpDecline (hw 16)] ∧ 4 ∈ [1, 2, 4, 5]) ∧
    ((grouped 2 false).flag F.GRP_CFG_EN && (grouped 2 false).grpRoot) = false ∧
    ((grouped 2 true).flag F.GRP_CFG_EN && (grouped 2 true).grpRoot) = true ∧
    ((grouped 2 true).grpState = 2 ∧ (grouped 3 true).grpState ≠ 2 ∧ (grouped 5 true).grpState = 5 ∧ (grouped 5 true).grp.divergent = false ∧
      (grouped 5 true).grp.lost = 0) ∧
    ((grouped 6 true).grpState = 6 ∧ groupQuiet (grouped 2 true) ∧ ¬ groupQuiet (ctxIn 0 .play (grouped 2 true))) ∧
    ((grouped 7 true).grpState = 7 ∧ (grouped 7 true).grp.left = 0 ∧
      ∃ m, m < 16 ∧ bitAt ((grouped 7 true).f F.GRP_MEMBERS_M) m = true ∧ m ≠ (grouped 7 true).f F.GRP_CFG_SELF) := by
  unfold onlyBit groupQuiet; decide +kernel

theorem witness_GroupFrames :
    (arrives (port 2) 3 (frame 0) ∧ (port 2).onTree 3 = false ∧ IsGroupFrame 3 (frame 0) (.frameTrigger 3 (frame 0))) ∧
    (arrives (grouped 0 false) 3 (frame 0) ∧ (grouped 0 false).onTree 3 = true ∧ (grouped 0 false).grpRoot = false ∧ (grouped 0 false).grpState = 0) ∧
    (let s := grouped 1 true { phase := 1, answers := [] }
     s.grpRoot = true ∧ s.grp.phase = 1 ∧ (s.grp.answers.any (fun a => decide (a.member = (frame 0).src))) = false ∧
      (∃ m ∈ s.grpMembers, m ≠ (frame 0).src ∧ (s.grp.answers.any (fun a => decide (a.member = m))) = false)) ∧
    (let s := grouped 1 true { phase := 1, answers := [{ member := 1 }] }
     (∀ m ∈ s.grpMembers, m = (frame 0).src ∨ (s.grp.answers.any (fun a => decide (a.member = m))) = true) ∧ (∀ a ∈ s.grp.answers, a.refuse = none) ∧
      leAt (frame 0).payload 1 1 < 16 ∧ leAt (frame 0).payload 0 1 ≠ 2) ∧
    ((grouped 1 false).grp.phase ≠ 2 ∧ (grouped 1 false { phase := 2 }).grp.phase = 2 ∧ (grouped 6 false).grpState = 6) ∧
    ((grouped 3 false).grpLive = true ∧ bitAt 0x8000 15 = true ∧ (grouped 3 false).f (F.GRP_PORT_ROLE 3) = 1) ∧
    (let s := grouped 3 false {} [(F.GRP_PORT_ROLE 3, 2)]
     s.grpLive = true ∧ bitAt (frame 0).tag 15 = false ∧ s.f (F.GRP_PORT_ROLE 3) = 2 ∧ (s.grp.own.find? (fun q => decide (q.1 = (frame 0).arg))) = none) := by
  unfold arrives IsGroupFrame; decide +kernel

theorem witness_GroupAndTimeBase :
    (let s := grouped 1 true { phase := 1 }
     s.grpMembers.find? (fun m => !s.grp.answers.any (fun a => decide (a.member = m))) = some 0 ∧ s.grpRoot = true ∧ s.grp.phase = 1) ∧
    (idle.grp.phase ≠ 1 ∧ (grouped 1 false { phase := 2 }).grp.phase = 2 ∧ idle.grp.phase ≠ 2) ∧
    (idle.grp.align ≠ some 0 ∧ (grouped 2 false { align := some 0 }).grp.align = some 0 ∧ ∀ c, c < 16 → (grouped 2 false).ctxState c ≠ .armed) ∧
    ((grouped 3 false).flag F.GRP_CFG_EN = true ∧ idle.flag F.GRP_CFG_EN = false) ∧
    (let s := grouped 3 false
     0 ∈ s.grpMembers ∧ 0 ≠ s.f F.GRP_CFG_SELF ∧ bitAt s.grp.lost 0 = false ∧ ¬ ∃ c, c < 16 ∧ s.grpCtx c = true ∧ (s.ctxState c).active = true) ∧
    (let s := ctxIn 0 .play (grouped 3 false)
     (s.grpLive = true ∧ ∃ c, c < 16 ∧ s.grpCtx c = true ∧ (s.ctxState c).active = true) ∧ s.grp.master = 0) ∧
    (let s := ctxIn 0 .play (grouped 3 false { master := 1 })
     (s.grpLive = true ∧ ∃ c, c < 16 ∧ s.grpCtx c = true ∧ (s.ctxState c).active = true) ∧ bitAt (setBitTo s.grp.lost 0 true) s.grp.master = false) ∧
    (idle.grpState ≠ 6 ∧ (grouped 6 true).grpState = 6) ∧
    (idle.flag (F.GRP_FTRIG_EN 15) = false ∧ (put [(F.GRP_FTRIG_EN 15, 1)] idle).flag (F.GRP_FTRIG_EN 15) = true ∧
      AdmittedPlain idle Reg.GRP_FTRIG_SW (hw 0x8000) ∧ (hw 0x8000).bit 15 = true) ∧
    ((put [(F.TIM_TB_STATUS_HOLDOVER, 1)] idle).flag F.TIM_TB_STATUS_HOLDOVER = true ∧
      (put [(F.TIM_TB_STATUS_HOLDOVER, 0)] idle).flag F.TIM_TB_STATUS_HOLDOVER = false) ∧
    (Admitted (on [48] idle) Reg.TIM_XO_AGE (hw 5) ∧ Admitted (on [48] idle) Reg.TIM_XO_OFF (hw 5)) := by decide +kernel

/-- Ring 255 enabled, 16 entries, with this beside its registers. -/
def ringed (x : Ring) (l : List (RF × Nat) := []) : State :=
  put ([(F.HST_RING_CFG_EN 255, 1), (F.HST_RING_CFG_SIZE_LOG2 255, 4), (F.HST_RING_CFG_CRING 255, 1)] ++ l)
    { stackEnv with hp := { stackEnv.hp with rings := [(255, x)] } }
/-- A descriptor (Table 16-2): operation, flags, length, source, destination and spaces. -/
def dsc (op flags len src dst spaces : Nat) : List Byte :=
  leBytes op 1 ++ leBytes flags 1 ++ leBytes 0 6 ++ leBytes len 8 ++ leBytes src 8 ++ leBytes dst 8 ++ leBytes spaces 1 ++ leBytes 0 31
/-- In progress on its channel. -/
def running (bytes : List Byte) : Ring := { desc := some { bytes := bytes, seq := 0, running := true } }
theorem witness_Descriptors_start :
    idle.descDue 255 = false ∧
    (let s := ringed { host := 1 }
     entryTaken s 255 (dsc 0 3 0 0 0 0) ∧ s.ringRuns (s.f (F.HST_RING_CFG_CRING 255)) = false ∧
      s.descInvalid 255 (nextDesc s 255 (dsc 0 3 0 0 0 0)) = false ∧ bitAt (nextDesc s 255 (dsc 0 3 0 0 0 0)).flags 1 = true ∧
      bitAt (nextDesc s 255 (dsc 0 1 0 0 0 0)).flags 1 = false ∧ (nextDesc s 255 (dsc 4 1 0 0 0 0)).op ∉ [0, 1, 2, 3, 0x10, 0x20]) ∧
    (let s := ringed { host := 1 }
     let d := nextDesc s 255 (dsc 2 1 8 0 0 0x10)
     d.op = 2 ∧ s.descInvalid 255 d = false ∧ s.rangeFail d = 0 ∧ s.descInvalid 255 (nextDesc s 255 (dsc 2 1 0 0 0 0x10)) = true ∧
      s.rangeFail (nextDesc s 255 (dsc 2 1 8 0 (2 ^ 41) 0x10)) ≠ 0 ∧ s.descInvalid 255 (nextDesc s 255 (dsc 2 1 8 0 (2 ^ 41) 0x10)) = false) ∧
    (let s : State := { ringed { host := 1 } with lib := { cur := some { op := 3, cn := 1, tgt := 1 } } }
     let d := nextDesc s 255 (leBytes 0x10 1 ++ leBytes 1 1 ++ leBytes 0 62)
     d.op = 0x10 ∧ s.descInvalid 255 d = false ∧ s.lib.cur.isSome = true) ∧
    (let q : OriginReq := { tag := 0, addr := 2 ^ 51, len := 68 }
     let s : State := { ringed { host := 1 } [(F.HST_ORIGIN_EN 0, 1), (F.HST_ORIGIN_RESPONSE 0, 255)] with lib := { reqs := [q] } }
     let d := nextDesc s 255 (dsc 0x20 1 68 0 0 0)
     entryTaken s 255 d.bytes ∧ d.op = 0x20 ∧ s.descInvalid 255 d = false ∧ q.tag = d.tag ∧ q.addr / 2 ^ 50 = 2 ∧ d.len = q.len ∧
      s.flag (F.HST_ORIGIN_EN (bitsAt q.addr 46 4)) = true ∧ s.f (F.HST_ORIGIN_RESPONSE (bitsAt q.addr 46 4)) = 255) ∧
    ((ringed { host := 1, rereads := 1 }).descDue 255 = true ∧ ((ringed { host := 1, rereads := 1 }).ring 255).rereads < 2 ∧
      2 ≤ ((ringed { host := 1, rereads := 2 }).ring 255).rereads) := by unfold entryTaken; decide +kernel
theorem witness_Descriptors :
    (idle.ring 255).desc = none ∧
    (let d : Desc := { bytes := dsc 2 0 8 0 0 0x10, seq := 0, running := true }
     (ringed (running (dsc 2 0 8 0 0 0x10))).ring 255 = { desc := some d } ∧ d.op = 2 ∧ d.dstLib = true) ∧
    (let d : Desc := { bytes := dsc 1 0 8 0 64 0x11, seq := 0, running := true }
     d.op = 1 ∧ d.srcLib = true ∧ d.dstLib = true ∧ d.swap = 0 ∧ localOk d.src d.len = true ∧ stackEnv.stkUp (stackOf d.src) = true ∧
      ¬ (d.src < d.dst + d.len ∧ d.dst < d.src + d.len) ∧ stackEnv.bad = []) ∧
    (let d : Desc := { bytes := dsc 3 0 8 0 64 0x11, seq := 0, running := true }; d.op = 3 ∧ d.running = true) ∧
    (let d : Desc := { bytes := dsc 1 0 8 0 64 0x10, seq := 0, running := true }
     d.op = 1 ∧ d.srcLib = false ∧ d.dstLib = true ∧ 7 < d.len ∧ (leBytes 5 8).length = d.len) ∧
    (let d : Desc := { bytes := leBytes 0x10 64, seq := 0 }
     d.op = 0x10 ∧ d.running = false ∧ stackEnv.lib.ended.find? (fun e => decide (e.1 = 255)) = none ∧
      ({ ended := [(255, 1, 0, 0)] } : Lib).ended.find? (fun e => decide (e.1 = 255)) = some (255, 1, 0, 0)) := by decide +kernel

theorem witness_RingsAndLink :
    (idle.ringRuns 255 = false ∧ (ringed {}).ringRuns 255 = true ∧ (ringed {}).mode ≠ .cold ∧ (ringed {}).mode ≠ .standby) ∧
    ((ringed {}).ringKind 255 = 0 ∧ (16 + 65536 - (ringed {}).ringCount 255) % 65536 ≤ (ringed {}).ringEntries 255 ∧
      (ringed {}).ringEntries 255 < (17 + 65536 - (ringed {}).ringCount 255) % 65536) ∧
    (let s := ringed {} [(F.HST_RING_CFG_KIND 255, 1), (F.HST_RING_PTR_PTR 255, 3)]
     s.ringKind 255 ≠ 0 ∧ (s.ringCount 255 + 65536 - 3) % 65536 ≤ s.ringEntries 255 ∧ s.ringEntries 255 < (s.ringCount 255 + 65536 - 4) % 65536) ∧
    (Admitted idle (Reg.HST_RING_CFG 255) (hw 0x84100000) ∧ (stored idle (Reg.HST_RING_CFG 255) (hw 0x84100000)).ringRuns 255 = true ∧
      Admitted (ringed {}) (Reg.HST_RING_CFG 255) (hw 0x04000100) ∧ (stored (ringed {}) (Reg.HST_RING_CFG 255) (hw 0x04000100)).ringRuns 255 = false ∧
      (stored idle (Reg.HST_RING_CFG 255) (hw 0x04000000)).ringRuns 255 = idle.ringRuns 255 ∧ Admitted idle (Reg.HST_RING_CFG 255) (hw 0x04000000)) ∧
    (let s : State := { ringed { unsig := 1 } [(F.HST_RING_IRQ_TIME 255, 5), (F.HST_MSIX_CTRL_MASK 0, 0)] with sys := { idle.sys with msixOn := true } }
     s.f (F.HST_RING_IRQ_TIME 255) ≠ 0 ∧ (s.ring 255).unsig ≠ 0 ∧ s.msixFree (s.f (F.HST_RING_CFG_MSIX 255)) = true) ∧
    (idle.flag F.HST_LINK_DL_UP = false ∧ State.reset.mode = .cold ∧ (put [(F.HST_LINK_DL_UP, 1)] idle).flag F.HST_LINK_DL_UP = true) ∧
    ((put [(F.HST_CFG_BAR4, 1)] stackEnv).flag F.HST_CFG_BAR4 = true ∧ (0xFFFFFFFFF : Nat) < 0x1000000000 ∧
      (put [(F.HST_CFG_BAR4, 0)] stackEnv).flag F.HST_CFG_BAR4 = false) ∧
    (let a := localAddr (stackEnv.f F.HST_BAR4_WIN_STACK) (stackEnv.f F.HST_BAR4_WIN_BASE * 0x40000000 + 8)
     localOk a 1 = true ∧ localOk a 8 = true ∧ stackEnv.stkUp (stackOf a) = true ∧ stackEnv.bad = [] ∧ idle.stkUp (stackOf a) = false) ∧
    ((mode 1).mode = .boot ∧ (mode 1).f F.SYS_BOOT_STATUS_STEP < 2 ∧ idle.mode ≠ .boot) := by decide +kernel

/-- The scheduler RUNNING with this beside its registers, its domain ON. -/
def working (x : Works) (l : List (RF × Nat) := []) : State :=
  put ([(F.WKS_STATUS_STATE, 1), (F.WKS_CTRL_EN, 1)] ++ l) { on [49] stackEnv with wks := x }
/-- The host's item of a kind and priority byte, flow 128, due at a tick. -/
def hosted (kind prio due : Nat) (x : Works := {}) : State :=
  put [(F.WKS_HOST_ITEM 0, kind + 256 * prio + 65536 * 128), (F.WKS_HOST_ITEM 4, due)] (working x)
/-- An item in the pool. -/
def item1 (kind : Nat) : WorkItem := { id := 1, kind := kind, prio := 7, list := 7 }
theorem witness_WorkScheduler :
    (let s := hosted 2 8 0
     let q := stored s Reg.WKS_HOST_SUBMIT (hw 0x80000000)
     let x := hostWork q.hostItem
     Admitted s Reg.WKS_HOST_SUBMIT (hw 0x80000000) ∧ (hw 0x80000000).bit 31 = true ∧
      ¬ (x.kind ∉ [2, 3, 4, 6] ∨ 16 ≤ leAt q.hostItem 1 1 ∨ 4096 ≤ x.flow ∨ 2 ^ 48 ≤ x.due ∨ leAt q.hostItem 0x19 7 ≠ 0 ∨ x.flow < 128) ∧
      ¬ (q.flag F.WKS_CTRL_EN = false ∨ q.domOn 49 = false) ∧
      ¬ (16384 - 256 ≤ q.readyCount ∨ (q.wks.tick < x.due ∧ 1024 ≤ q.wks.delay.length) ∨ (x.ordered = true ∧ 256 ≤ q.flowCount x.flow))) ∧
    (hostWork (hosted 5 8 0).hostItem).kind ∉ [2, 3, 4, 6] ∧ (idle.flag F.WKS_CTRL_EN = false ∨ idle.domOn 49 = false) ∧
    (let s := hosted 2 0 5 { delay := List.replicate 1024 0 }; s.wks.tick < (hostWork s.hostItem).due ∧ 1024 ≤ s.wks.delay.length) := by decide +kernel
theorem witness_WorkScheduler_dispatch :
    (let s := (streaming 83 { adm := 1024 }).setF (F.WKS_DRAIN_EN_EN 3) 0x100000
     let s := put [(⟨Reg.LDG_STR_WR 3 20, 0, 32⟩, 1024), (F.PWR_DOM_STATUS_STATE 49, 2)] { s with wks := { tick := 1000 } }
     gap32 (s.claimEnd 83) (s.strWr 83) = 1024 ∧ bitAt (s.rd (Reg.WKS_DRAIN_EN (83 / 21))).toNat (83 % 21) = true ∧ s.domOn 49 = true ∧
      (∀ x ∈ s.wks.items, x.kind = 1 → x.arg % 128 = 83 / 21 + 4 * (83 % 21) → 2 ≤ x.place) ∧ SMap.get 0 s.wks.lastDrain 83 + 1000 ≤ s.wks.tick ∧
      s.readyCount < 16384 - 256 ∧ s.flowCount (32 * (83 / 21) + 83 % 21) < 256) ∧
    gap32 (idle.claimEnd 0) (idle.strWr 0) = 0 ∧
    (let s := working { items := [item1 6], ready := [(7, [1])] }
     s.f F.WKS_STATUS_STATE = 1 ∧ s.domOn 49 = true ∧ s.runs 15 = none ∧ s.fenced (unitCode 0xC 15) = false ∧ bitAt (s.f F.DBG_CLK_STATUS_HALTED) 15 = false ∧
      ((s.readyList 7).filterMap s.item).find? s.dispatchable = some (item1 6) ∧ (item1 6).list = 7) ∧
    (∀ j, j < 8 → (((working {}).readyList j).filterMap (working {}).item).find? (working {}).dispatchable = none) ∧
    (let s := working { items := [{ item1 6 with list := 6 }], tick := 1000 }
     s.item 1 = some { item1 6 with list := 6 } ∧ ({ item1 6 with list := 6 } : WorkItem).place = 1 ∧ 0 + 1000 ≤ s.wks.tick) ∧
    ((working {}).mode ≠ .cold ∧ (working {}).mode ≠ .boot ∧ (mode 1).mode = .boot) ∧
    (Admitted (working {}) Reg.WKS_CTRL (hw 0) ∧ (stored (working {}) Reg.WKS_CTRL (hw 0)).flag F.WKS_CTRL_EN = false ∧
      (stored (working {}) Reg.WKS_CTRL (hw 1)).flag F.WKS_CTRL_EN = true ∧ (stored (working {}) Reg.WKS_CTRL (hw 0)).f F.WKS_STATUS_STATE = 1 ∧
      idle.f F.WKS_STATUS_STATE = 0) := by decide +kernel

/-- Clerk 15 runs an item. -/
def clerking (x : WorkItem) (w : Works := {}) (l : List (RF × Nat) := []) : State := working { w with items := [{ x with place := 2, clerk := 15 }] } l
theorem witness_WorkResults_runs :
    ((working {}).runsKind 15 1 = none ∧ AtWork (clerking { item1 1 with claim := some (0, 0) }) 15 1 { item1 1 with claim := some (0, 0), place := 2, clerk := 15 } ∧
      (clerking (item1 1)).bad = []) ∧
    (let s := ((clerking { item1 1 with claim := some (0, 16) } {} [(F.LDG_STR_CFG_SIZE_LOG2 0 0, 16), (F.LDG_STR_BASE_LO_ADDR 0 0, 1)]).stBytes 0x10000
        (leBytes 1 2 ++ leBytes 2 2 ++ leBytes 0 12))
     let rs : List (Nat × Nat) := s.recordsFrom 0 16 (gap32 0 16 / 16 + 1) 0
     rs = [(0, 16)] ∧ (∀ r ∈ rs, localOk (s.strBase 0 + r.1 % s.strSize 0) 1 = true ∧ localOk (s.strBase 0 + r.1 % s.strSize 0) r.2 = true ∧
      s.stkUp (stackOf (s.strBase 0 + r.1 % s.strSize 0)) = true) ∧ ((s.setF (F.STK_STATE_STATE 0) 5).stkUp 0 = false)) ∧
    (let s := clerking (item1 2) { ends := [(16, [(9, 0)])] }
     AtWork s 15 2 { item1 2 with place := 2, clerk := 15 } ∧ s.lastRun (0 % 64) = some (9, 0, none) ∧ (clerking (item1 2)).lastRun (0 % 64) = none) ∧
    (let s := clerking (item1 3) { ends := [(16, [(9, 0)])], digest := [(0, some (1, 0))] }
     AtWork s 15 3 { item1 3 with place := 2, clerk := 15 } ∧ s.lastRun (0 % 64) = some (9, 0, none) ∧ SMap.get none s.wks.digest (0 % 64) = some (1, 0) ∧
      s.runRecords 0 9 none = []) ∧
    (let s := clerking (item1 4) { stats := [(statKey 0 0 0, { n := 1 })] }
     AtWork s 15 4 { item1 4 with place := 2, clerk := 15 } ∧ (SMap.get {} s.wks.stats (statKey (item1 4).stream 0 0)).n ≠ 0 ∧
      (SMap.get ({} : Stat) ({} : Works).stats (statKey 0 0 0)).n = 0) ∧
    AtWork (clerking (item1 6)) 15 6 { item1 6 with place := 2, clerk := 15 } := by unfold AtWork; decide +kernel
theorem witness_WorkResults :
    (idle.item 1 = none ∧ (working { items := [item1 6] }).item 1 = some (item1 6) ∧ (item1 6).place ≠ 3) ∧
    (let x : WorkItem := { item1 6 with place := 3 }
     let s := working { items := [x] }
     s.item 1 = some x ∧ ¬ (x.ordered = true ∧ ∃ y ∈ s.wks.items, y.ordered = true ∧ y.flow = x.flow ∧ y.pos < x.pos) ∧ x.outs = [] ∧ x.origin ≠ 1) ∧
    (let x : WorkItem := { item1 1 with place := 3, claim := some (0, 16) }; x.claim = some (0, 16) ∧ x.stream < 84 ∧ x.origin ≠ 1) ∧
    (let s := put [(F.WKS_HOST_CRING_EN, 1)] (working { items := [{ item1 2 with place := 3, origin := 1 }] })
     s.flag F.WKS_HOST_CRING_EN = true ∧ s.ringRuns (s.f F.WKS_HOST_CRING_RING) = false) ∧
    (let x : WorkItem := { item1 2 with place := 3, outs := [leBytes 1 16] }
     let s := put [(F.WKS_DLOG_CFG_EN 0, 1), (F.WKS_DLOG_CFG_SIZE_LOG2 0, 16)] (working { items := [x] })
     x.channel = 0 ∧ s.flag (F.WKS_DLOG_CFG_EN 0) = true ∧
      gap32 (s.rd (Reg.WKS_DLOG_RD 0)).toNat (s.dlogWr 0) + s.dlogPad 0 16 + 16 ≤ s.dlogSize 0 ∧ (working {}).flag (F.WKS_DLOG_CFG_EN 0) = false) ∧
    (let s := clerking { item1 2 with ran := 50 }
     s.runs 15 = some { item1 2 with place := 2, clerk := 15, ran := 50 } ∧ s.recovering (unitCode 0xC 15) = false ∧ s.overBudget 0xC = false ∧
      (working {}).runs 15 = none) ∧
    (({ item1 2 with tries := 1 } : WorkItem).tries ≠ 0 ∧ (item1 2).kind ≠ 1) ∧
    (let s := working { dlog := [(3, { start := some (0, 0) })], tick := 100 }
     (SMap.get {} s.wks.dlog 3).start = some (0, 0) ∧ 0 + 100 ≤ s.wks.tick ∧ s.ringRuns (s.f (F.WKS_DLOG_CFG_CRING 3)) = false ∧
      (SMap.get ({} : Dlog) ({} : Works).dlog 3).start = none) ∧
    (AdmittedPlain idle Reg.WKS_OBS_CTRL (hw 1) ∧ (hw 1).bit 0 = true ∧ (hw 0).bit 0 = false) := by decide +kernel

/-- Scratchpad bank 63 ON. -/
def bank (st : Nat) (x : Works := {}) (l : List (RF × Nat) := []) : State := put ([(F.SPD_BANK_STATE 63, st), (F.SPD_WIN_ADDR_ADDR, 63 * 32768)] ++ l) { idle with wks := x }
theorem witness_Scratchpads :
    (IsWindow (.spdAdd (hw 0x80000002) 1) (hw 0x80000002) 2 1 ∧ Admitted (bank 2) Reg.SPD_WIN_OP (hw 0x80000002) ∧
      (stored (bank 2) Reg.SPD_WIN_OP (hw 0x80000002)).f F.SPD_WIN_OP_OP = 2 ∧
      (stored (bank 2) Reg.SPD_WIN_OP (hw 0x80000002)).bankState ((stored (bank 2) Reg.SPD_WIN_OP (hw 0x80000002)).f F.SPD_WIN_ADDR_ADDR / 32768) = 2 ∧
      (bank 2 {} [(F.SPD_BANK_USE 63, 0)]).flag (F.SPD_BANK_USE 63) = false ∧ (bank 2 {} [(F.SPD_BANK_USE 63, 1)]).flag (F.SPD_BANK_USE 63) = true) ∧
    ((bank 4).bankState 63 = 4 ∧ (bank 0).bankState 63 ≠ 4 ∧ (bank 0).bankState 63 ≠ 2 ∧ (bank 2).recovering (unitCode 0xD 63) = false ∧
      (bank 2).overBudget 0xD = false) ∧
    (let q := stored (bank 2 {} [(F.SPD_BANK_REQ 63, 1)]) (Reg.SPD_BANK 63) (hw 0)
     Admitted (bank 2 {} [(F.SPD_BANK_REQ 63, 1)]) (Reg.SPD_BANK 63) (hw 0) ∧
      bankTarget (q.f (F.SPD_BANK_REQ 63)) ≠ bankTarget ((bank 2 {} [(F.SPD_BANK_REQ 63, 1)]).f (F.SPD_BANK_REQ 63)) ∧ q.bankState 63 = 2 ∧
      q.wks.march.map (fun m => m.bank) ≠ some 63 ∧ q.bankState 63 ≠ bankTarget (q.f (F.SPD_BANK_REQ 63)) ∧ q.flag (F.SPD_BANK_USE 63) = false) ∧
    (let q := stored (bank 2 {} [(F.SPD_BANK_REQ 63, 0)]) (Reg.SPD_BANK 63) (hw 0x10)
     Admitted (bank 2 {} [(F.SPD_BANK_REQ 63, 0)]) (Reg.SPD_BANK 63) (hw 0x10) ∧ bankTarget (q.f (F.SPD_BANK_REQ 63)) = 2 ∧ q.bankState 63 = 2 ∧
      SMap.get none q.wks.target 63 = none) ∧
    (let q := stored (bank 2 { march := some { bank := 63, alg := 0, destructive := true } } [(F.SPD_BANK_REQ 63, 1)]) (Reg.SPD_BANK 63) (hw 0)
     q.wks.march.map (fun m => m.bank) = some 63) ∧
    (let q := stored (bank 2 {} [(F.SPD_BANK_REQ 63, 1)]) (Reg.SPD_BANK 63) (hw 0x80000000)
     Admitted (bank 2 {} [(F.SPD_BANK_REQ 63, 1)]) (Reg.SPD_BANK 63) (hw 0x80000000) ∧ bankTarget (q.f (F.SPD_BANK_REQ 63)) ≠ 2 ∧
      q.flag (F.SPD_BANK_USE 63) = true) ∧
    (SMap.get none (bank 1 { target := [(63, some 0)] }).wks.target 63 = some 0 ∧ SMap.get none idle.wks.target 63 = none) ∧
    (let q := stored (bank 2) Reg.SPD_MARCH (hw 0x8000003F)
     Admitted (bank 2) Reg.SPD_MARCH (hw 0x8000003F) ∧ q.f F.SPD_MARCH_BANK = 63 ∧
      ¬ (q.bankState 63 ≠ 2 ∨ q.wks.march.isSome = true ∨ (q.flag F.SPD_MARCH_MODE = true ∧ q.flag (F.SPD_BANK_USE 63) = true)) ∧
      (stored (bank 0) Reg.SPD_MARCH (hw 0x8000003F)).bankState 63 ≠ 2) ∧
    (let s := bank 2 { march := some { bank := 63, alg := 0, destructive := true } }
     s.wks.march = some { bank := 63, alg := 0, destructive := true } ∧ s.fenced (unitCode 0xD 63) = false ∧ s.fenceCount 0xD < 16 ∧ idle.wks.march = none) ∧
    (AdmittedPlain idle Reg.SPD_CNT_UNC (hw 0) ∧ AdmittedPlain idle Reg.SPD_CNT_CORR (hw 0)) := by unfold IsWindow; decide +kernel

/-- Port 3 UP in this network-time state, network time on in a role. -/
def ptp (role st : Nat) (x : Ntm := {}) (l : List (RF × Nat) := []) : State :=
  { put ([(F.NTM_CFG_EN, 1), (F.NTM_CFG_ROLE, role), (F.NTM_PORT_CTRL_STATE 3, st)] ++ l) (port 2) with ntm := x }
/-- A PTP message of a kind for domain 0. -/
def msg (kind : Nat) (b : List Byte := []) : Frame :=
  { frame 0 with vc := 3, arg := kind, payload := leBytes 0 16 ++ leBytes kind 1 ++ leBytes 2 1 ++ leBytes 0 62 ++ b }
theorem witness_LocalClock :
    (let s := put [(F.NTM_SET_NS_NS, 1000000000)] idle
     AdmittedPlain s Reg.NTM_SET_CTRL (hw 1) ∧ (hw 1).bit 0 = true ∧ (hw 1).bit 1 = false ∧ 1000000000 ≤ s.f F.NTM_SET_NS_NS) ∧
    (AdmittedPlain idle Reg.NTM_SET_CTRL (hw 1) ∧ (put [(F.NTM_SET_NS_NS, 999999999)] idle).f F.NTM_SET_NS_NS < 1000000000 ∧
      AdmittedPlain (put [(F.NTM_SET_NS_NS, 999999999)] idle) Reg.NTM_SET_CTRL (hw 1)) ∧
    (AdmittedPlain idle Reg.NTM_SET_CTRL (hw 2) ∧ (hw 2).bit 0 = false ∧ (hw 2).bit 1 = true ∧ AdmittedPlain idle Reg.NTM_SET_CTRL (hw 0) ∧
      (hw 0).bit 0 = false ∧ (hw 0).bit 1 = false) ∧
    (let s : State := { put [(F.MTR_CFG_EN, 1)] idle with clk := { sec := 5 } }
     s.flag F.MTR_CFG_EN = true ∧ s.meter.regress = none ∧ (s.localNs : Nat) = 5000000000 ∧ idle.flag F.MTR_CFG_EN = false) ∧
    (({ idle with clk := { sec := 2 ^ 48 - 1 } } : State).clk.sec = 2 ^ 48 - 1 ∧ idle.clk.sec ≠ 2 ^ 48 - 1) ∧
    ((false && idle.flag F.NTM_CFG_PPS_OUT_EN && decide (idle.mode ≠ .cold)) = idle.ntm.pps ∧
      (true && (put [(F.NTM_CFG_PPS_OUT_EN, 1)] idle).flag F.NTM_CFG_PPS_OUT_EN && decide ((put [(F.NTM_CFG_PPS_OUT_EN, 1)] idle).mode ≠ .cold)) ≠
        (put [(F.NTM_CFG_PPS_OUT_EN, 1)] idle).ntm.pps) := by decide +kernel
theorem witness_PrecisionTime :
    (idle.portState 3 ≠ 2 ∧ idle.portState 3 ≠ 3) ∧
    (let f := { msg 0 with payload := leBytes 0 16 ++ leBytes 0 1 ++ leBytes 1 1 ++ leBytes 0 62 }
     InOrder (ptp 2 2) 3 f ∧ (ptp 2 2).flag F.NTM_CFG_EN = true ∧ leAt (f.payload.drop 16) 1 1 % 16 ≠ 2) ∧
    (InOrder (ptp 2 2) 3 (msg 0) ∧ PtpTaken (ptp 2 2) (msg 0) 0 ∧ (ptp 2 2).ntmPort 3 = 2 ∧ (ptp 2 1).ntmPort 3 ≠ 2 ∧ PtpTaken (ptp 2 1) (msg 0) 0 ∧
      InOrder (ptp 2 1) 3 (msg 0)) ∧
    (InOrder (ptp 2 2) 3 (msg 2) ∧ PtpTaken (ptp 2 2) (msg 2) 2 ∧ PtpTaken (ptp 2 0) (msg 2) 2 ∧ (ptp 2 0).ntmPort 3 = 0) ∧
    (let s := ptp 2 2 { asked := [(3, some 7)] }
     InOrder s 3 (msg 3) ∧ PtpTaken s (msg 3) 3 ∧ SMap.get none s.ntm.asked 3 = some 7 ∧ SMap.get none (ptp 2 2).ntm.asked 3 = none) := by
  unfold InOrder PtpTaken; decide +kernel
theorem witness_PrecisionTime_announce :
    (InOrder (ptp 2 2) 3 (msg 0xB) ∧ PtpTaken (ptp 2 2) (msg 0xB) 0xB ∧ (ptp 2 3).ntmPort 3 = 3 ∧ PtpTaken (ptp 2 3) (msg 0xB) 0xB) ∧
    ((ptp 2 1).flag F.NTM_CFG_EN = true ∧ (ptp 2 1).ntmPort 3 = 1 ∧ (ptp 2 0).ntmPort 3 = 0 ∧ idle.flag F.NTM_CFG_EN = false) ∧
    (let s := ptp 1 1 {} [(F.NTM_CFG_PPS_IN_EN, 1)]
     s.flag F.NTM_CFG_EN = true ∧ s.f F.NTM_CFG_ROLE = 1 ∧ s.flag F.NTM_CFG_PPS_IN_EN = true) ∧
    (let s := ptp 2 2 { adjs := [5] } [(F.NTM_STATUS_STATE, 2)]
     s.flag F.NTM_CFG_EN = true ∧ (3 < 4 ∧ s.ntmPort 3 = 2) ∧ s.ntmState ≠ 3 ∧ s.ntmState ≠ 0 ∧ s.ntm.adjs ≠ [] ∧ (ptp 2 2).ntm.adjs = []) := by
  unfold InOrder PtpTaken; decide +kernel
/-- An offset below 50 ns, one of 200 ns or more and one beyond STEP_THR; the states of Table 18-1. -/
theorem witness_PrecisionTime_servo :
    (let s := ptp 2 2 { good := 15 } [(F.NTM_SERVO_STEP_THR, 1), (F.NTM_STATUS_STATE, 1)]
     s.f F.NTM_SERVO_STEP_THR * 65536000 < (65536001 : Int).natAbs ∧ (200 * 65536 : Int).natAbs ≤ s.f F.NTM_SERVO_STEP_THR * 65536000 ∧
      s.ntmState ≠ 3 ∧ (50 * 65536 - 1 : Int).natAbs < 50 * 65536 ∧ 15 ≤ s.ntm.good) ∧ (ptp 2 2 {} [(F.NTM_STATUS_STATE, 3)]).ntmState = 3 := by
  decide +kernel

/-- The meter on, with periods of 100 s from 0. -/
def counting (x : Meter) (sec : Nat) : State :=
  { put [(F.MTR_CFG_EN, 1), (F.MTR_LEN_LEN, 100)] idle with meter := x, clk := { sec := sec } }
/-- A SEAL record of period 0 up to its check word, and whole. -/
def sealHead : List Byte := leBytes 0x4A4D4B56 4 ++ leBytes 2 1 ++ leBytes 0 3 ++ leBytes 1 4 ++ leBytes 0 4
def sealRec (crc : Nat) : List Byte := sealHead ++ List.replicate 228 0 ++ leBytes crc 4 ++ leBytes 1 4 ++ leBytes 0x6D747231 4
theorem witness_Metering :
    (idle.flag F.MTR_CFG_EN = false ∧ (counting {} 0).flag F.MTR_CFG_EN = true) ∧
    (let s := counting { g := 50000000000 } 60
     s.f F.MTR_LEN_LEN ≠ 0 ∧ 100 = s.mtrEpoch + 1 * s.f F.MTR_LEN_LEN ∧ s.meter.g < 100 * 1000000000 ∧ s.clk.sec < 100 ∧
      (counting { g := 50000000000 } 40).localNs < s.meter.g ∧ s.meter.regress = none ∧ 100 ≤ (counting { g := 50000000000 } 100).clk.sec ∧
      s.arch.inhibit = false ∧ ∀ k : Nat, k < 1 → ¬ s.meter.g < (s.mtrEpoch + k * s.f F.MTR_LEN_LEN) * 1000000000) ∧
    (Admitted idle Reg.MTR_RD_CTRL (hw 0x80000000) ∧ (hw 0x80000000).bit 31 = true ∧ (hw 0).bit 31 = false ∧ Admitted idle Reg.MTR_RD_CTRL (hw 0) ∧
      leAt (idle.arch.bytes (recAddr true 2047) 16) 0 4 ≠ 0x4A4D4B56) ∧
    (let q := flashed [(recAddr true 0, sealHead)] idle
     leAt (q.arch.bytes (recAddr true 0) 16) 0 4 = 0x4A4D4B56 ∧ leAt (q.arch.bytes (recAddr true 0) 16) 4 1 = 2 ∧
      leAt (q.arch.bytes (recAddr true 0) 16) 0x0C 4 = (q.rd Reg.MTR_RD_IDX).toNat ∧ recValid (q.arch.bytes (recAddr true 0) 16) = false) := by
  decide +kernel
/-- A record whose check word is right is valid; the words between are the CRC's after the head and after each 57 zeros. -/
theorem witness_Metering_valid : recValid (sealRec 0xFAECCA27) = true := by
  have h : (sealRec 0xFAECCA27).take 0xF4 = sealHead ++ (List.replicate 57 0 ++ (List.replicate 57 0 ++ (List.replicate 57 0 ++ List.replicate 57 0))) := by
    decide +kernel
  have c0 : sealHead.foldl crcByte 0xFFFFFFFF#32 = 0xFBE77301#32 := by decide +kernel
  have c1 : (List.replicate 57 (0 : Byte)).foldl crcByte 0xFBE77301#32 = 0x3F670FB1#32 := by decide +kernel
  have c2 : (List.replicate 57 (0 : Byte)).foldl crcByte 0x3F670FB1#32 = 0x66BE33C1#32 := by decide +kernel
  have c3 : (List.replicate 57 (0 : Byte)).foldl crcByte 0x66BE33C1#32 = 0x1DC780D5#32 := by decide +kernel
  have c4 : (List.replicate 57 (0 : Byte)).foldl crcByte 0x1DC780D5#32 = (0xFAECCA27#32 ^^^ 0xFFFFFFFF#32) := by decide +kernel
  have c : crc32c ((sealRec 0xFAECCA27).take 0xF4) = 0xFAECCA27 := by
    rw [h, crc32c, List.foldl_append, c0, List.foldl_append, c1, List.foldl_append, c2, List.foldl_append, c3, c4]
    decide +kernel
  rw [recValid, c]
  decide +kernel

/-- Bay 3 with this beside its registers, the reference divider set, its domains ON. -/
def calib (m : Nat) (x : Cal) (l : List (RF × Nat) := []) : State :=
  put ([(F.CAL_TREF_CFG_DIV, 16)] ++ l) { on [48, 39] (mode m) with cals := [(3, x)] }
/-- A set; a tracking calibration that waits for its fit. -/
def aSet : CalSet := { gen := 4, shelves := 0x80, uncal := false }
def tracking : CalRun := { full := false, shelves := 0xFF, modes := 3, temp := 0, fit := some 1 }
/-- A CAL_CMD for bay 3 and all shelves: OP and GO (Table 20-7). -/
def calOp (op : Nat) : BusWrite := hw (0x8000FF03 + 0x1000000 * op)
theorem witness_CalCommands :
    (∀ op : Nat, op < 5 → Admitted (calib 4 {}) Reg.CAL_CMD (calOp op) ∧ (calOp op).bit 31 = true ∧ (stored (calib 4 {}) Reg.CAL_CMD (calOp op)).f F.CAL_CMD_OP = op ∧
      (stored (calib 4 {}) Reg.CAL_CMD (calOp op)).f F.CAL_CMD_BAY = 3 ∧ (calib 4 {}).flag F.CAL_CMD_GO = false) ∧
    (Admitted idle Reg.CAL_CMD (hw 3) ∧ (hw 3).bit 31 = false) ∧
    ((mode 11).mode ∈ [Mode.cold, .boot, .standby, .selftest, .safe] ∧ Admitted (mode 11) Reg.CAL_CMD (calOp 1)) ∧
    (let q := stored (calib 4 {}) Reg.CAL_CMD (calOp 1)
     q.mode ∉ [Mode.cold, .boot, .standby, .selftest, .safe] ∧ (q.cal 3).run = none ∧ q.fullAllowed 3 0xFF = true ∧
      1 ≤ q.f F.CAL_TREF_CFG_DIV ∧ q.f F.CAL_TREF_CFG_DIV ≤ 16 ∧ (stored (calib 3 {}) Reg.CAL_CMD (calOp 1)).fullAllowed 3 0xFF = false ∧
      q.f F.CAL_CMD_SHELVES = 0xFF) ∧
    (let s := calib 4 { run := some tracking }
     (s.cal 3).run.isSome = true ∧ s.flag F.CAL_CMD_GO = false ∧ Admitted s Reg.CAL_CMD (calOp 1)) ∧
    ((calib 4 {} [(F.CAL_BAY_STATUS_UNCAL 3, 1)]).flag (F.CAL_BAY_STATUS_UNCAL 3) = true ∧ (calib 4 {} [(F.CAL_BAY_STATUS_UNCAL 3, 0)]).flag (F.CAL_BAY_STATUS_UNCAL 3) = false ∧
      Admitted (calib 4 {} [(F.CAL_BAY_STATUS_UNCAL 3, 0)]) Reg.CAL_CMD (calOp 2)) ∧
    ((stored (calib 4 { pending := some aSet }) Reg.CAL_CMD (calOp 3)).cal 3).pending = some aSet ∧
    Admitted (calib 4 { pending := some aSet }) Reg.CAL_CMD (calOp 3) ∧ ((calib 4 {}).cal 3).pending = none := by decide +kernel
theorem witness_CalBusy :
    let s := calib 4 { run := some tracking } [(F.CAL_CMD_GO, 1), (F.CAL_CMD_BAY, 3)]
    AdmittedPlain s Reg.CAL_CMD (calOp 2) ∧ s.flag F.CAL_CMD_GO = true ∧ (calOp 2).bit 31 = true ∧ (calOp 2).data.toNat % 4 = s.f F.CAL_CMD_BAY ∧
      (s.cal (s.f F.CAL_CMD_BAY)).run.isSome = true := by decide +kernel
theorem witness_CalProgress :
    (((idle.cal 3).failed.or (((idle.cal 3).pending.map (fun x => x.tcal)).or ((idle.cal 3).force.map (fun x => x.tcal)))) = none ∧
     (let s := calib 3 { force := some aSet } [(F.CAL_BAY_CFG_AUTO 3, 1), (F.CAL_BAY_CFG_THRESH 3, 1), (F.CAL_BAY_STATUS_UNCAL 3, 0)]
      ((s.cal 3).failed.or (((s.cal 3).pending.map (fun x => x.tcal)).or ((s.cal 3).force.map (fun x => x.tcal)))) = some 0 ∧
       s.flag (F.CAL_BAY_CFG_AUTO 3) = true ∧ (s.cal 3).run = none ∧ s.mode ∉ [Mode.cold, .boot, .standby, .selftest, .safe] ∧
       25 * Nat.max 1 (Nat.min 40 (s.f (F.CAL_BAY_CFG_THRESH 3))) = (-25 - 0 : Int).natAbs ∧ s.flag (F.CAL_BAY_STATUS_UNCAL 3) = false ∧
       (calib 3 {} [(F.CAL_BAY_STATUS_UNCAL 3, 1)]).flag (F.CAL_BAY_STATUS_UNCAL 3) = true)) ∧
    (let s := calib 3 { run := some tracking } [(F.CAL_BAY_STATUS_STATE 3, 2)]
     (s.cal 3).run = some tracking ∧ s.f (F.CAL_BAY_STATUS_STATE 3) = 2 ∧ s.timArmed 3 = false ∧ idle.f (F.CAL_BAY_STATUS_STATE 3) ≠ 1 ∧
      idle.f (F.CAL_BAY_STATUS_STATE 3) ≠ 3 ∧ (idle.cal 3).run = none) ∧
    (let s := calib 3 { run := some tracking } [(F.CAL_BAY_STATUS_STATE 3, 3), (F.WKS_STATUS_STATE, 1)]
     s.f (F.CAL_BAY_STATUS_STATE 3) = 3 ∧ s.f F.WKS_STATUS_STATE = 1 ∧ idle.f F.WKS_STATUS_STATE ≠ 1 ∧ (s.cal 3).run.isSome = true) ∧
    (let x : WorkItem := { item1 5 with arg := 3, place := 2, clerk := 15 }
     let s : State := { clerking { item1 5 with arg := 3 } with cals := [(3, { run := some tracking })] }
     s.runsKind 15 5 = some x ∧ s.f F.WKS_STATUS_STATE = 1 ∧ x.arg % 4 = 3 ∧ (s.cal 3).run = some tracking ∧ tracking.fit = some x.id ∧
      s.edgeReject 3 tracking [] = none ∧ s.f (F.CAL_BAY_CFG_POLICY 3) ≠ 2 ∧ idle.runsKind 15 5 = none) := by decide +kernel
theorem witness_CalProgress_ends :
    (let x : WorkItem := { item1 5 with arg := 3, place := 2, clerk := 15 }
     let r : CalRun := { tracking with full := true }
     let s : State := { clerking { item1 5 with arg := 3 } with cals := [(3, { run := some r })] }
     s.runsKind 15 5 = some x ∧ (s.cal 3).run = some r ∧ r.fit = some x.id ∧ r.full = true ∧ r.shelves = 0xFF ∧ r.modes = 3) ∧
    (let s := calib 3 { pending := some aSet } [(F.CAL_BAY_CFG_POLICY 3, 0)]
     (s.cal 3).pending = some aSet ∧ (∀ c : Nat, c < 16 → s.ctxState c ∈ [CtxState.idle, .stopped, .off]) ∧
      (let u := put [(F.CHN_CTRL_PATH 255, 1), (F.CHN_CTRL_CTX 255, 9)] (ctxIn 9 .play s)
       u.ctxState 9 = .play ∧ u.f (F.CAL_BAY_CFG_POLICY 3) ≠ 2 ∧ u.fenced (unitCode 3 3) = false ∧ 255 ∈ u.channelsOf 9 ∧ 255 / 64 = 3 ∧
        bitAt aSet.shelves (255 / 8 % 8) = true)) ∧
    (let s := calib 3 { force := some aSet, store := [0, 1] }
     (s.cal 3).store = [0, 1] ∧ (∀ x ∈ s.arch.queue, x.writer ≠ .cal 3 0) ∧ 3 ∉ s.arch.calFlags ∧ (s.cal 3).force.isSome = true ∧
      s.arch.inhibit = false ∧ (idle.cal 3).store = [] ∧ ((calib 3 { store := [2] }).cal 3).store = [2]) := by decide +kernel

/-- A fault on this unit. -/
def report (u cause cls : Nat) : FaultReport := { unit := u, cause := cause, cls := cls, detail := 0, held := false }
/-- The active table holds this at entry 251. -/
def faulted (e : FaultEntry) : State := { idle with fcl := { idle.fcl with active := [(251, e)] } }
theorem witness_FaultClasses :
    ((report 0xE009 1 0).wf = true ∧ unitExists 0xE009 = true ∧ State.reset.mode = .cold ∧ idle.mode ≠ .cold ∧ idle.freeEntry.isSome = true) ∧
    (let s := faulted { unit := 0xD03F, cause := 0x0C, valid := true, uncleared := true }
     (report 0xD03F 0x0C 1).wf = true ∧ (s.findEntry 0xD03F 0x0C).isSome = true) ∧
    (∀ k ∈ [2, 3, 4, 5, 6, 7, 8, 9, 0xA, 0xB, 0xC, 0xD], (report (unitCode k 1) 1 2).wf = true ∧ unitExists (unitCode k 1) = true ∧ unitKind (unitCode k 1) = k) ∧
    (report 0xE00A 0x0D 3).wf = true ∧ unitExists 0xE00A = true ∧ unitExists 0xE00B = false := by decide +kernel
theorem witness_BoardInputs :
    (unitExists 0xD03F = true ∧ unitKind 0xD03F = 0xD ∧ (bank 2).fenced 0xD03F = false ∧ (bank 2).unitOff 0xD03F = false ∧ (bank 0).unitOff 0xD03F = true ∧
      (fence 0xD03F idle).fenced 0xD03F = true) ∧
    ((put [(F.FCL_ESTOP_EN, 0x8000), (F.FCL_ESTOP_POL, 0)] (put [(F.IRQ_EVT_LEVEL_LEVEL, 0x8000)] idle)).estopInputs ≠ 0 ∧ idle.estopInputs = 0) ∧
    (put [(F.IRQ_EVT_LEVEL_LEVEL, 0x8000)] idle).flag ⟨Reg.IRQ_EVT_LEVEL, 15, 1⟩ = true := by decide +kernel
theorem witness_HostFences :
    (let s := on [47] idle
     let q := stored s Reg.FCL_FENCE_CMD (hw 0x90005001)
     Admitted s Reg.FCL_FENCE_CMD (hw 0x90005001) ∧ (hw 0x90005001).bit 31 = true ∧ q.f F.FCL_FENCE_CMD_OP = 1 ∧ q.f F.FCL_FENCE_CMD_UNIT = 0x5001 ∧
      fenceKind 0x5001 = true ∧ unitKind 0x5001 ∉ [3, 0xB, 0xC, 0xD] ∧ fenceKind 0x9001 = false ∧
      (stored s Reg.FCL_FENCE_CMD (hw 0x90009001)).f F.FCL_FENCE_CMD_UNIT = 0x9001 ∧ Admitted s Reg.FCL_FENCE_CMD (hw 0x90009001)) ∧
    (let s := fence 0x5003 idle
     let q := stored s Reg.FCL_FENCE_CMD (hw 0xA0005003)
     Admitted s Reg.FCL_FENCE_CMD (hw 0xA0005003) ∧ q.f F.FCL_FENCE_CMD_OP = 2 ∧ q.f F.FCL_FENCE_CMD_UNIT = 0x5003 ∧ fenceKind 0x5003 = true ∧
      s.fence 0x5003 ≠ none ∧ idle.fence 0x5003 = none ∧ s.fatalOf 0x5003 = false ∧ unitKind 0x5003 = 5 ∧
      ({ s with fcl := { s.fcl with active := [(0, { unit := 0x5003, cls := 2, valid := true, uncleared := true })] } } : State).fatalOf 0x5003 = true) := by
  decide +kernel
/-- A FAULT record for RSEQ 8191 of the log, and the log that holds it in its last place. -/
def logRec : List Byte :=
  let h := leBytes 0x4C464B56 4 ++ leBytes 1 4 ++ leBytes 8191 4 ++ leBytes 0 44
  h ++ leBytes (crc32c h) 4 ++ leBytes 0x6C674631 4
theorem witness_LogsAndSources :
    (let s := faulted { unit := 0x5003, cls := 2, valid := true, uncleared := true }
     Admitted s Reg.FCL_CLEAR (hw 0x80005003) ∧ (hw 0x80005003).bit 31 = true ∧ (s.entry 251).uncleared = true ∧
      (s.entry 251).unit = (stored s Reg.FCL_CLEAR (hw 0x80005003)).f F.FCL_CLEAR_UNIT ∧ s.condHolds (s.entry 251).cond = false ∧
      s.condHolds (faulted { unit := 0x5003, uncleared := true, cond := .held } |>.entry 251).cond = true ∧ (idle.entry 255).uncleared = false) ∧
    (let s := put [(⟨Reg.FCL_LOG_IDX, 0, 32⟩, 8191)] (flashed [(0x1C0000 + 64 * 8191, logRec)] idle)
     let r := s.arch.bytes (0x1C0000 + 64 * ((s.rd Reg.FCL_LOG_IDX).toNat % 8192)) 64
     Admitted s Reg.FCL_LOG_CTRL (hw 0x80000000) ∧ (hw 0x80000000).bit 31 = true ∧ leAt r 0 4 = 0x4C464B56 ∧ leAt r 8 4 = (s.rd Reg.FCL_LOG_IDX).toNat ∧
      logValid r = true ∧ leAt (idle.arch.bytes 0x1C0000 64) 8 4 ≠ (idle.rd Reg.FCL_LOG_IDX).toNat ∧ Admitted idle Reg.FCL_LOG_CTRL (hw 0x80000000)) ∧
    ((hw 255).whole = true ∧ (hw 255).master = .host ∧ idle.mode ≠ .cold ∧ idle.mode ≠ .standby ∧ idle.sys.recovery = false) ∧
    (let s : State := { put [(F.IRQ_SRC_CNT_COUNT 1023, 1), (F.HST_MSIX_CTRL_MASK 63, 0)] idle with sys := { idle.sys with msixOn := true } }
     Admitted s (Reg.IRQ_SRC_CFG 1023) (hw 0x8000003F) ∧ s.flag (F.IRQ_SRC_CFG_EN 1023) = false ∧ (hw 0x8000003F).bit 31 = true ∧
      (hw 0x8000003F).data.toNat % 64 = 63 ∧ s.f (F.IRQ_SRC_CNT_COUNT 1023) ≠ 0 ∧ s.msixFree 63 = true) := by decide +kernel

/-- The Archive in this condition; the fuses and what is beside them. -/
def archived (x : Archive) : State := { idle with arch := x }
def fused (x : Security) : State := { idle with sec := x }
theorem witness_FuseCommands :
    ((idle.sec.fuseCmd = none ∧ idle.mode = .idle) ∧
     (∀ op ∈ [1, 2, 3], let q := stored idle Reg.SEC_FUSE_CMD (hw (0x80000000 + 0x10000 * op))
      Admitted idle Reg.SEC_FUSE_CMD (hw (0x80000000 + 0x10000 * op)) ∧ (hw (0x80000000 + 0x10000 * op)).bit 31 = true ∧ q.f F.SEC_FUSE_CMD_OP = op ∧
       idle.fuseRefusal op (q.f F.SEC_FUSE_CMD_VALUE) = 0)) ∧
    ((fused { imageVer := 64 }).fuseRefusal 1 127 = 0 ∧ (stored idle Reg.SEC_FUSE_CMD (hw 0x8001007F)).f F.SEC_FUSE_CMD_VALUE = 127) ∧
    ((mode 4).mode ≠ .idle ∧ Admitted (mode 4) Reg.SEC_FUSE_CMD (hw 0x80010001) ∧ (mode 4).sec.fuseCmd = none) ∧
    ((fused { fuseCmd := some (1, 64) }).sec.fuseCmd = some (1, 64) ∧ (fused { fuseCmd := some (2, 0) }).sec.fuseCmd = some (2, 0) ∧
      (fused { fuseCmd := some (3, 3) }).sec.fuseCmd = some (3, 3)) := by decide +kernel
/-- A licence body for serial 0: LIC_ID 7, LIC_SEQ 2, the shortest period. -/
def licBody : List Byte := leBytes 0 8 ++ leBytes 7 4 ++ leBytes 2 4 ++ leBytes 0 8 ++ leBytes 3600 4 ++ leBytes 0 116
/-- Its blob lies at 0x10000. -/
def licensed (old : Nat) : State :=
  put [(F.SEC_LIC_SRC_LO_ADDR, 0x10000 / 64)]
    ({ stackEnv with sec := { fuses := { provisioned := true, licHash := 1 }, licence := some (7, old) } }.stBytes 0x10000
      (leBytes 0x434C4B56 4 ++ leBytes 1 2 ++ leBytes 0 10))
theorem witness_LicenceAndLock :
    (Admitted (mode 4) Reg.SEC_LIC_CMD (hw 1) ∧ (hw 1).bit 0 = true ∧ (mode 4).mode ≠ .idle) ∧
    (let s := licensed 1
     let q := stored s Reg.SEC_LIC_CMD (hw 1)
     Admitted s Reg.SEC_LIC_CMD (hw 1) ∧ s.mode = .idle ∧
      (q.licenceBlob (q.f F.SEC_LIC_SRC_HI_ADDR * 2 ^ 32 + q.f F.SEC_LIC_SRC_LO_ADDR * 64)).1.isSome = true ∧ s.licenceBodyOk licBody = true ∧
      s.sec.licence = some (7, 1) ∧ leAt licBody 8 4 = 7 ∧ 1 < leAt licBody 0x0C 4) ∧
    (Admitted idle Reg.SEC_LOCK (hw 1)) ∧
    (let s := after idle Reg.SEC_LOCK 1
     Reg.SEC_LOCK ∈ s.wo1 ∧ (hw 2).whole = true ∧ s.mode = .idle ∧ s.sys.recovery = false ∧ (hw 2).master = .host ∧
      s.flag F.SYS_DENY_STATUS_DENIED = false) := by decide +kernel
theorem witness_ArchiveCommands :
    (idle.arch.hostOp = none ∧ (∀ op ∈ [1, 2, 3, 4], Admitted idle Reg.NVS_CMD (hw (0x80000000 + op)) ∧ (hw (0x80000000 + op)).bit 31 = true ∧
      (stored idle Reg.NVS_CMD (hw (0x80000000 + op))).f F.NVS_CMD_OP = op) ∧
      (let s := put [(F.NVS_ADDR_ADDR, 0x1400000), (F.NVS_LEN_LEN, 1)] idle
       ∀ op ∈ [1, 2, 3, 4], s.nvsRefusal op (s.f F.NVS_ADDR_ADDR) (s.f F.NVS_LEN_LEN) = 0) ∧ idle.nvsRefusal 3 0x13FFFFF 1 ≠ 0) ∧
    ((archived { hostOp := some (3, 0x1400000, 0, 0) }).arch.hostOp = some (3, 0x1400000, 0, 0) ∧
      (archived { hostOp := some (3, 0x1400000, 0, 0) }).arch.queue = []) ∧
    (let w : OwnWrite := { writer := .journal, addr := 0x240000, data := [1] }
     let s := archived { hostOp := some (3, 0x1400000, 0, 0), queue := [w], busy := true }
     s.arch.hostOp.isSome = true ∧ s.arch.queue ≠ [] ∧ s.arch.busy = true ∧ s.arch.inhibit = false ∧ s.arch.queue = w :: []) := by decide +kernel
theorem witness_SupplyAndSmbus :
    (idle.arch.inhibit = false ∧ (archived { hostOp := some (3, 0x1400000, 0, 0) }).arch.hostOp.isSome = true ∧
      (archived { inhibit := true }).arch.inhibit = true) ∧
    (idle.sys.unpowered = false ∧ 0x14 ∉ [1, 2, 0x10, 0x11, 0x12, 0x13]) := by decide +kernel

/-- A write of a clerk's. -/
def byClerk (v : Nat) : BusWrite := { hw v with master := .clerk 15 }
theorem witness_TapScans : idle.sys.unpowered = false ∧ idle.mode ≠ .cold ∧ idle.mode ≠ .boot := by decide +kernel
theorem witness_DebugAccess :
    (let s := put [(F.DBG_STATUS_DAP_EN, 1)] idle
     s.dapEnabled = true ∧ (put [(F.DBG_STATUS_DAP_EN, 0)] idle).dapEnabled = false ∧ 0x1001 % 4 ≠ 0 ∧ s.mode ≠ .cold ∧ s.mode ≠ .standby ∧
      s.sys.unpowered = false ∧ Reg.SYS_MODE % 4 = 0 ∧ Reg.SYS_MODE ≠ Reg.DBG_STATUS) ∧
    (Admitted idle Reg.DBG_AON_UNLOCK (byClerk 0xA5C3) ∧ (byClerk 0xA5C3).master ≠ .host ∧ masterGate (byClerk 0xA5C3).master = 15 ∧
      ((stored idle Reg.DBG_AON_UNLOCK (byClerk 0xA5C3)).gate 15).keyed = false ∧ (byClerk 0xA5C3).data.toNat % 65536 = 0xA5C3) ∧
    (let s : State := { idle with gates := [(15, { keyed := true })] }
     Admitted s Reg.DBG_AON_UNLOCK (byClerk 0x3C5A) ∧ ((stored s Reg.DBG_AON_UNLOCK (byClerk 0x3C5A)).gate 15).keyed = true ∧
      (byClerk 0x3C5A).data.toNat % 65536 = 0x3C5A ∧ (byClerk 0xA5C3).data.toNat % 65536 ≠ 0x3C5A ∧ Admitted s Reg.DBG_AON_UNLOCK (byClerk 0xA5C3) ∧
      (s.gate 15).keyed = true) ∧
    (gated (blockOf Reg.SYS_MODE) Reg.SYS_MODE = true ∧ (idle.gate 16).opened = false ∧ Master.dap ≠ .host) := by decide +kernel
theorem witness_DebugHaltsAndInventory :
    (Admitted (working {}) Reg.DBG_CLK_HALT (hw 0xFFFF)) ∧
    ((hw 0x8001).whole = true ∧ (hw 0x8001).master = .host ∧ idle.mode = .idle ∧ idle.sys.recovery = false ∧
      ∀ c : Nat, c < 16 → idle.ctxState c = .idle ∨ idle.ctxState c = .off ∨ idle.ctxState c = .stopped) ∧
    (let s := ctxIn 15 .play (mode 7)
     s.mode = .run ∧ (hw 0x8000).bit 31 = false ∧ (hw 0x8000).data.toNat % 65536 = 2 ^ 15 ∧ s.ctxState 15 = .play ∧ s.sys.recovery = false) ∧
    (let s := put [(F.IST_CFG_EN, 1), (F.IST_CFG_KINDS, 15), (F.UCS_STATUS_STATE 3, 2)] (on [31, 35] (bank 2))
     s.istRuns = true ∧ (∀ k : Nat, k < 4 → bitAt (s.f F.IST_CFG_KINDS) k = true ∧ (istSteps k - 1) < istSteps k) ∧ s.ist.step = none ∧
      s.istDone 0 511 = false ∧ s.istEligible 0 (istUnit 0 511) = true ∧ s.istDone 1 159 = false ∧ s.istEligible 1 (istUnit 1 159) = true ∧
      s.istDone 2 16383 = false ∧ s.istEligible 2 (istUnit 2 16383) = true ∧ s.istDone 3 191 = false ∧ s.istEligible 3 (istUnit 3 191) = true) ∧
    ({ idle with ist := { step := some { kind := 3, unit := istUnit 3 191, num := 191 } } } : State).ist.step =
      some { kind := 3, unit := istUnit 3 191, num := 191 } := by decide +kernel

/-! ### Well-formed commands -/

/-- A write by a clerk there is not, and a frame of a virtual channel there is not. -/
def noMaster : BusWrite := { hw 0 with master := .clerk 16 }
def badFrame : Frame := { frame 0 with vc := 4 }
/-- Each field of a write, a frame and a report at its largest, and past it. -/
theorem wf_records :
    ({ hw 0 with master := .clerk 15 } : BusWrite).wf = true ∧ noMaster.wf = false ∧
    (let f : Frame := { vc := 3, kind := 63, src := 15, dst := 15, seq := 65535, tag := 65535, arg := 0xFFFFFFFF, payload := leBytes 0 1036 }
     f.wf = true ∧ { f with vc := 4 }.wf = false ∧ { f with kind := 64 }.wf = false ∧ { f with src := 16 }.wf = false ∧ { f with dst := 16 }.wf = false ∧
      { f with seq := 65536 }.wf = false ∧ { f with tag := 65536 }.wf = false ∧ { f with arg := 0x100000000 }.wf = false ∧
      { f with payload := leBytes 0 1037 }.wf = false) ∧
    (let r : FaultReport := { unit := 65535, cause := 0x1D, cls := 3, detail := 0xFFFFFFFF }
     (Instr.faultDetected r).wf = true ∧ (Instr.faultDetected { r with unit := 65536 }).wf = false ∧ (Instr.faultDetected { r with cause := 0 }).wf = false ∧
      (Instr.faultDetected { r with cause := 0x1E }).wf = false ∧ (Instr.faultDetected { r with cls := 4 }).wf = false ∧
      (Instr.faultDetected { r with detail := 0x100000000 }).wf = false) := by decide +kernel
/-- Commands that name a unit: its last index is taken, and the one past it refused. -/
theorem wf_index_1 :
    (∀ f ∈ [Instr.bayRailLoss, .bayRailGood, .timResSeqRead, .rowIdle, .calStoreWrite], (f 3 false).wf = true ∧ (f 4 false).wf = false) ∧
    ((Instr.domRampDone 49).wf = true ∧ (Instr.domRampDone 50).wf = false) ∧
    (∀ f ∈ [Instr.senseOpen, .pmuSettled, .driverEvent, .settlingDone, .chnFenceRelease, .overvolt, .ilimReached, .overcurrent, .staleReread,
      .ringIrqTime, .smbusOtherRead], (f 255).wf = true ∧ (f 256).wf = false) ∧
    ((Instr.decimationSample 255 0 0 false false false).wf = true ∧ (Instr.decimationSample 256 0 0 false false false).wf = false) ∧
    (∀ f ∈ [Instr.bankSwapApply, .syncSend, .pdelaySend], (f 3 0).wf = true ∧ (f 4 0).wf = false) ∧
    ((Instr.pmuClampEngage 255 false).wf = true ∧ (Instr.pmuClampEngage 256 false).wf = false) ∧
    (∀ f ∈ [Instr.acqSampleStep, .acqTimerStep, .holdoffEnd, .acqSidxRead, .mirrorSyncDone], (f 7).wf = true ∧ (f 8).wf = false) ∧
    ((Instr.timStamp 3 0 false false).wf = true ∧ (Instr.timStamp 4 0 false false).wf = false) ∧
    (∀ f ∈ [Instr.timMeasureTimeout, .timGateClose, .timResultWrite, .rowError, .noPartner, .bringupRetry, .batchAnnounce, .calWaitTimEnd,
      .calMeasureDone, .calCommit, .smbusTempRead, .rowWake], (f 3).wf = true ∧ (f 4).wf = false) := by decide +kernel
/-- Commands that name a unit: its last index is taken, and the one past it refused. -/
theorem wf_index_2 :
    ((Instr.rowFiller 3 false false).wf = true ∧ (Instr.rowFiller 4 false false).wf = false) ∧
    ((Instr.rowEcho 3 false 0 0).wf = true ∧ (Instr.rowEcho 4 false 0 0).wf = false) ∧
    (∀ f ∈ [Instr.lnkDlBitsRead, .stagedDataArrival], (f 15 0 0).wf = true ∧ (f 16 0 0).wf = false) ∧
    (∀ f ∈ [Instr.cdrLock, .cdrLockLost, .wordNop, .wordPlay, .wordPlayc, .wordLoop, .wordEndloop, .wordCall, .wordReturn, .wordWait, .wordMatch,
      .wordBranch, .wordSync, .wordSitemask, .wordTset, .wordPeriod, .wordMark, .wordHold, .wordHalt, .wordEnd, .leafFetchDone, .waitTimeout,
      .waitTimerExpiry, .holdResume, .holdLimitExpired, .commitAckTimeout, .stateParity, .microWatchdog, .microBreak, .microAssist,
      .trapHandlerEnd, .memberLost, .fabricTriggerSource, .workDispatch, .itemDrain, .itemDigest, .itemBin, .itemStats, .itemFlush, .workWatchdog],
      (f 15).wf = true ∧ (f 16).wf = false) ∧
    (∀ f ∈ [Instr.prbsLock, .rdrVcntRead, .evtFilteredChange], (f 15 false).wf = true ∧ (f 16 false).wf = false) ∧
    ((Instr.strobe 255 { h := false, l := false }).wf = true ∧ (Instr.strobe 256 { h := false, l := false }).wf = false) ∧
    ((Instr.leafBoundary 15 []).wf = true ∧ (Instr.leafBoundary 16 []).wf = false) ∧
    ((Instr.armCheckComplete 15 0).wf = true ∧ (Instr.armCheckComplete 16 0).wf = false) ∧
    ((Instr.stackInterval 1 []).wf = true ∧ (Instr.stackInterval 2 []).wf = false) := by decide +kernel
/-- Commands that name a unit: its last index is taken, and the one past it refused. -/
theorem wf_index_3 :
    ((Instr.stackTempRead 1 0).wf = true ∧ (Instr.stackTempRead 2 0).wf = false) ∧
    ((Instr.trackerWindowEnd 1).wf = true ∧ (Instr.trackerWindowEnd 2).wf = false) ∧
    ((Instr.freqChangeDone 1 false false).wf = true ∧ (Instr.freqChangeDone 2 false false).wf = false) ∧
    ((Instr.stackRetrainDone 1 false).wf = true ∧ (Instr.stackRetrainDone 2 false).wf = false) ∧
    ((Instr.stackTrainingDone 1 false 0).wf = true ∧ (Instr.stackTrainingDone 2 false 0).wf = false) ∧
    ((Instr.loadPartDone 1048575 false).wf = true ∧ (Instr.loadPartDone 1048576 false).wf = false) ∧
    ((Instr.loadPartTimeout 1048575).wf = true ∧ (Instr.loadPartTimeout 1048576).wf = false) ∧
    ((Instr.prefetchRequest 15 0 0 0 0).wf = true ∧ (Instr.prefetchRequest 16 0 0 0 0).wf = false) ∧
    ((Instr.descriptorComplete 255 [] [] [] none).wf = true ∧ (Instr.descriptorComplete 256 [] [] [] none).wf = false) := by decide +kernel
/-- Commands that name a unit: its last index is taken, and the one past it refused. -/
theorem wf_index_4 :
    ((Instr.hostReadTimeout 255 0 []).wf = true ∧ (Instr.hostReadTimeout 256 0 []).wf = false) ∧
    ((Instr.bar4Access 68719476735 0 none false).wf = true ∧ (Instr.bar4Access 68719476736 0 none false).wf = false) ∧
    ((Instr.configurationRequest 1023 none).wf = true ∧ (Instr.configurationRequest 1024 none).wf = false) ∧
    ((Instr.recordStored 83 false).wf = true ∧ (Instr.recordStored 84 false).wf = false) ∧
    ((Instr.ldgSiteFailRead 63 false).wf = true ∧ (Instr.ldgSiteFailRead 64 false).wf = false) ∧
    ((Instr.ucsReloadDone 3 {} {}).wf = true ∧ (Instr.ucsReloadDone 4 {} {}).wf = false) ∧
    ((Instr.drainEnqueue 83).wf = true ∧ (Instr.drainEnqueue 84).wf = false) ∧
    ((Instr.marchDone 255 none).wf = true ∧ (Instr.marchDone 256 none).wf = false) ∧
    ((Instr.bankTransitionDone 63).wf = true ∧ (Instr.bankTransitionDone 64).wf = false) := by decide +kernel
/-- Commands that name a unit: its last index is taken, and the one past it refused. -/
theorem wf_index_5 :
    ((Instr.ppsInEdge 65535999999999).wf = true ∧ (Instr.ppsInEdge 65536000000000).wf = false) ∧
    ((Instr.itemCalFit 15 0 [] none).wf = true ∧ (Instr.itemCalFit 16 0 [] none).wf = false) ∧
    ((Instr.tapClamp 18014398509481983).wf = true ∧ (Instr.tapClamp 18014398509481984).wf = false) ∧
    ((Instr.unlockTmo 16).wf = true ∧ (Instr.unlockTmo 17).wf = false) ∧
    ((Instr.istLoopback 575 none).wf = true ∧ (Instr.istLoopback 576 none).wf = false) ∧
    ((Instr.istCstore 159 none).wf = true ∧ (Instr.istCstore 160 none).wf = false) ∧
    ((Instr.istMarch 16383 none).wf = true ∧ (Instr.istMarch 16384 none).wf = false) ∧
    ((Instr.istArchive 191 none).wf = true ∧ (Instr.istArchive 192 none).wf = false) ∧
    ((Instr.dieOvertemp 4).wf = true ∧ (Instr.dieOvertemp 5).wf = false) := by decide +kernel
/-- Commands that name a unit: its last index is taken, and the one past it refused. -/
theorem wf_index_6 :
    (∀ f ∈ [Instr.wireFault, .recoveryWindowClose], (f 65535).wf = true ∧ (f 65536).wf = false) ∧
    ((Instr.trigEdge 7 false).wf = true ∧ (Instr.trigEdge 8 false).wf = false) ∧
    ((Instr.wakeSource 17).wf = true ∧ (Instr.wakeSource 18).wf = false) ∧
    ((Instr.dapAccess false false false false 67108863 0 {}).wf = true ∧ (Instr.dapAccess false false false false 67108864 0 {}).wf = false) := by decide +kernel
/-- Register writes: the last index and a write by a master there is, and neither the next index nor a master there is not. -/
theorem wf_write_1 :
    (∀ f ∈ [Instr.sysDenyClear, .modeReqIdle, .modeReqStandby, .modeReqCalibrate, .modeReqLoad, .modeReqCharacterise, .modeReqSelftest,
      .modeReqSafe, .modeReqWarmReboot, .modeReqIllegal, .stkLogClr, .concLoad, .libCmdNone, .libInvalidate, .libInvalidateAll, .libLoad,
      .libEvict, .grpStart, .grpDisarm, .grpConfirm, .grpDecline, .grpFtrigSw, .wksHostSubmit, .wksObsSnap, .wksCtrlWrite, .spdWrite, .spdMarch,
      .ntmSet, .ntmStep, .mtrRd, .calApplyNow, .calDiscardSet, .fuseRaiseBoot, .fuseRaiseErrata, .fuseRevoke, .secLockWrite, .nvsRead, .nvsProgram,
      .nvsErase, .nvsWriteImage, .dbgAonUnlock, .dbgRdrHalt, .dbgClkHalt, .fenceSet, .fenceClear, .fclLogRead], (f (hw 0)).wf = true ∧ (f
      noMaster).wf = false) ∧
    (∀ f ∈ [Instr.domReqOn, .domReqOff, .domReqIso, .domReqLow], (f 49 (hw 0)).wf = true ∧ (f 50 (hw 0)).wf = false ∧ (f 49 noMaster).wf = false) ∧
    (∀ f ∈ [Instr.pmuCtrlWrite, .pmuForceWrite, .pmuClampWrite, .fltChWrite, .chnCtrlWrite, .chnStaticWrite, .chnParkWrite, .chnTermWrite,
      .chnFenceSet, .chnFenceClear, .ringEnable], (f 255 (hw 0)).wf = true ∧ (f 256 (hw 0)).wf = false ∧ (f 255 noMaster).wf = false) ∧
    (∀ f ∈ [Instr.fltBankSwap, .timArm, .timStop, .lnkPortRetrain, .lnkPortFence, .lnkPortClear, .ucsReload], (f 3 (hw 0)).wf = true ∧ (f 4 (hw
      0)).wf = false ∧ (f 3 noMaster).wf = false) ∧
    (∀ f ∈ [Instr.acqArm, .acqStop, .mirrorEnable], (f 7 (hw 0)).wf = true ∧ (f 8 (hw 0)).wf = false ∧ (f 7 noMaster).wf = false) ∧
    (∀ f ∈ [Instr.timXoWrite, .spdCntWrite], (f false (hw 0)).wf = true ∧ (f false noMaster).wf = false) ∧
    (∀ f ∈ [Instr.lnkDlSearch, .lnkDlErrWrite, .rdrCtrlArm, .rdrCtrlStart, .rdrCtrlHalt, .forcedHalt, .rdrCtrlResume, .rdrCtrlDisarm, .rdrCtrlAck,
      .rdrHostflagWrite], (f 15 (hw 0)).wf = true ∧ (f 16 (hw 0)).wf = false ∧ (f 15 noMaster).wf = false) ∧
    (∀ f ∈ [Instr.stkFreqGo, .stkFence, .stkRetrain, .stkClrCnt], (f 1 (hw 0)).wf = true ∧ (f 2 (hw 0)).wf = false ∧ (f 1 noMaster).wf = false) ∧
    (∀ f ∈ [Instr.ldgStrEnable, .ldgStrDrWrite], (f 83 (hw 0)).wf = true ∧ (f 84 (hw 0)).wf = false ∧ (f 83 noMaster).wf = false) := by decide +kernel
/-- Register writes: the last index and a write by a master there is, and neither the next index nor a master there is not. -/
theorem wf_write_2 :
    (∀ f ∈ [Instr.ldgSiteQuotaWrite, .ldgSiteFailWrite, .ldgSiteDropWrite, .ffClr, .spdBankReq], (f 63 (hw 0)).wf = true ∧ (f 64 (hw 0)).wf = false
      ∧ (f 63 noMaster).wf = false) ∧
    ((Instr.grpArm (hw 0) false {}).wf = true ∧ (Instr.grpArm noMaster false {}).wf = false) ∧
    ((Instr.grpResume (hw 0) []).wf = true ∧ (Instr.grpResume noMaster []).wf = false) ∧
    (∀ f ∈ [Instr.spdRead, .spdAdd, .spdSwap], (f (hw 0) 2).wf = true ∧ (f (hw 0) 3).wf = false ∧ (f noMaster 2).wf = false) ∧
    (∀ f ∈ [Instr.calFull, .calTrack], (f (hw 0) false).wf = true ∧ (f noMaster false).wf = false) ∧
    ((Instr.licenceInstall (hw 0) false []).wf = true ∧ (Instr.licenceInstall noMaster false []).wf = false) ∧
    ((Instr.fclClear (hw 0) []).wf = true ∧ (Instr.fclClear noMaster []).wf = false) ∧
    (∀ f ∈ [Instr.irqSrcCntWrite, .irqSrcCfgWrite], (f 1023 (hw 0)).wf = true ∧ (f 1024 (hw 0)).wf = false ∧ (f 1023 noMaster).wf = false) := by decide +kernel
/-- Frames: the same. -/
theorem wf_frame :
    (∀ f ∈ [Instr.frameLibRead, .frameLibData, .frameLibWrite, .frameLibAck, .frameKeepalive, .frameTypeUnknown, .frameAbort, .frameSummary,
      .frameHeartbeat, .frameConfirm, .frameDecline, .frameDisarm, .frameTrigger, .announce], (f 3 (frame 0)).wf = true ∧ (f 4 (frame 0)).wf =
      false ∧ (f 3 badFrame).wf = false) ∧
    ((Instr.framePrepare 3 (frame 0) false).wf = true ∧ (Instr.framePrepare 4 (frame 0) false).wf = false ∧ (Instr.framePrepare 3 badFrame
      false).wf = false) ∧
    (∀ f ∈ [Instr.frameReady, .frameRefuse], (f 3 (frame 0) {}).wf = true ∧ (f 4 (frame 0) {}).wf = false ∧ (f 3 badFrame {}).wf = false) ∧
    ((Instr.frameCommit 3 (frame 0) false []).wf = true ∧ (Instr.frameCommit 4 (frame 0) false []).wf = false ∧ (Instr.frameCommit 3 badFrame false
      []).wf = false) ∧
    (∀ f ∈ [Instr.syncMsg, .pdelayReq, .pdelayResp], (f 3 (frame 0) 0).wf = true ∧ (f 4 (frame 0) 0).wf = false ∧ (f 3 badFrame 0).wf = false) := by decide +kernel
/-- Commands with further operands: each at its largest, and one operand at a time past its range. -/
theorem wf_operands_1 :
    ((Instr.registerWrite 0x3FFFFFC (hw 0) {}).wf = true ∧ (Instr.registerWrite 0x3FFFFFE (hw 0) {}).wf = false ∧ (Instr.registerWrite 0x4000000
      (hw 0) {}).wf = false ∧ (Instr.registerWrite 0x3FFFFFC noMaster {}).wf = false) ∧
    ((Instr.pmuSenseWrite 3 3 (hw 0)).wf = true ∧ (Instr.pmuSenseWrite 4 3 (hw 0)).wf = false ∧ (Instr.pmuSenseWrite 3 4 (hw 0)).wf = false ∧
      (Instr.pmuSenseWrite 3 3 noMaster).wf = false) ∧
    ((Instr.laneLock 3 7).wf = true ∧ (Instr.laneLock 4 7).wf = false ∧ (Instr.laneLock 3 8).wf = false) ∧
    ((Instr.laneLockLost 3 7).wf = true ∧ (Instr.laneLockLost 4 7).wf = false ∧ (Instr.laneLockLost 3 8).wf = false) ∧
    ((Instr.rowAlign 3 [0,0,0,0,0,0,0,0]).wf = true ∧ (Instr.rowAlign 4 [0,0,0,0,0,0,0,0]).wf = false ∧ (Instr.rowAlign 3 [0,0,0,0,0,0,0,0,0]).wf =
      false) ∧
    ((Instr.rowNeg 3 255 255 255 255 255 0xFFFFFFFFFFFFFFFF).wf = true ∧ (Instr.rowNeg 4 255 255 255 255 255 0xFFFFFFFFFFFFFFFF).wf = false ∧
      (Instr.rowNeg 3 256 255 255 255 255 0xFFFFFFFFFFFFFFFF).wf = false ∧ (Instr.rowNeg 3 255 256 255 255 255 0xFFFFFFFFFFFFFFFF).wf = false ∧
      (Instr.rowNeg 3 255 255 256 255 255 0xFFFFFFFFFFFFFFFF).wf = false ∧ (Instr.rowNeg 3 255 255 255 256 255 0xFFFFFFFFFFFFFFFF).wf = false ∧
      (Instr.rowNeg 3 255 255 255 255 256 0xFFFFFFFFFFFFFFFF).wf = false ∧ (Instr.rowNeg 3 255 255 255 255 255 0x10000000000000000).wf = false) ∧
    ((Instr.rowCredit 3 [0,0,0,0] 65535 false).wf = true ∧ (Instr.rowCredit 4 [0,0,0,0] 65535 false).wf = false ∧ (Instr.rowCredit 3 [0,0,0,0,0]
      65535 false).wf = false ∧ (Instr.rowCredit 3 [0,0,0,0] 65536 false).wf = false) ∧
    ((Instr.portTrainDone 3 255).wf = true ∧ (Instr.portTrainDone 4 255).wf = false ∧ (Instr.portTrainDone 3 256).wf = false) ∧
    ((Instr.lnkPortCountWrite 3 5 (hw 0)).wf = true ∧ (Instr.lnkPortCountWrite 4 5 (hw 0)).wf = false ∧ (Instr.lnkPortCountWrite 3 6 (hw 0)).wf =
      false ∧ (Instr.lnkPortCountWrite 3 5 noMaster).wf = false) := by decide +kernel
/-- Commands with further operands: each at its largest, and one operand at a time past its range. -/
theorem wf_operands_2 :
    ((Instr.searchDone 15 (some 4095) false).wf = true ∧ (Instr.searchDone 16 (some 4095) false).wf = false ∧ (Instr.searchDone 15 (some 4096)
      false).wf = false) ∧
    ((Instr.chnLevelWrite 255 4 (hw 0)).wf = true ∧ (Instr.chnLevelWrite 256 4 (hw 0)).wf = false ∧ (Instr.chnLevelWrite 255 5 (hw 0)).wf = false ∧
      (Instr.chnLevelWrite 255 4 noMaster).wf = false) ∧
    ((Instr.characteriseTimingWrite 0x4FFFFC (hw 0)).wf = true ∧ (Instr.characteriseTimingWrite 0x4FFFFE (hw 0)).wf = false ∧
      (Instr.characteriseTimingWrite 0x500000 (hw 0)).wf = false ∧ (Instr.characteriseTimingWrite 0xFFFFC (hw 0)).wf = false ∧
      (Instr.characteriseTimingWrite 0x4FFFFC noMaster).wf = false) ∧
    ((Instr.stackRead 0x1FFFFFFFFC0 7 2 2 0 2 2).wf = true ∧ (Instr.stackRead 0x1FFFFFFFFC1 7 2 2 0 2 2).wf = false ∧ (Instr.stackRead
      0x20000000000 7 2 2 0 2 2).wf = false ∧ (Instr.stackRead 0x1FFFFFFFFC0 8 2 2 0 2 2).wf = false ∧ (Instr.stackRead 0x1FFFFFFFFC0 7 3 2 0 2
      2).wf = false ∧ (Instr.stackRead 0x1FFFFFFFFC0 7 2 3 0 2 2).wf = false ∧ (Instr.stackRead 0x1FFFFFFFFC0 7 2 2 0 3 2).wf = false ∧
      (Instr.stackRead 0x1FFFFFFFFC0 7 2 2 0 2 3).wf = false) ∧
    ((Instr.stackWrite 0x1FFFFFFFFFF 7 [0] false 0 0).wf = true ∧ (Instr.stackWrite 0x20000000000 7 [0] false 0 0).wf = false ∧ (Instr.stackWrite
      0x1FFFFFFFFFF 8 [0] false 0 0).wf = false ∧ (Instr.stackWrite 0x1FFFFFFFFFF 7 [] false 0 0).wf = false ∧ (Instr.stackWrite 0x1FFFFFFFFFF 7
      [0,1] false 0 0).wf = false) ∧
    ((Instr.refreshDue 1 2047 0).wf = true ∧ (Instr.refreshDue 2 2047 0).wf = false ∧ (Instr.refreshDue 1 2048 0).wf = false) ∧
    ((Instr.scrubPass 0x1FFFFFFFFC0 2 2 0).wf = true ∧ (Instr.scrubPass 0x1FFFFFFFFC1 2 2 0).wf = false ∧ (Instr.scrubPass 0x20000000000 2 2 0).wf
      = false ∧ (Instr.scrubPass 0x1FFFFFFFFC0 3 2 0).wf = false ∧ (Instr.scrubPass 0x1FFFFFFFFC0 2 3 0).wf = false) ∧
    ((Instr.doorbell 255 0xFFFFFFFF).wf = true ∧ (Instr.doorbell 256 0xFFFFFFFF).wf = false ∧ (Instr.doorbell 255 0x100000000).wf = false) ∧
    ((Instr.descNop 255 (leBytes 0 64)).wf = true ∧ (Instr.descNop 256 (leBytes 0 64)).wf = false ∧ (Instr.descNop 255 []).wf = false) := by decide +kernel
/-- Commands with further operands: each at its largest, and one operand at a time past its range. -/
theorem wf_operands_3 :
    ((Instr.descCopy 255 (leBytes 0 64)).wf = true ∧ (Instr.descCopy 256 (leBytes 0 64)).wf = false ∧ (Instr.descCopy 255 []).wf = false) ∧
    ((Instr.descFill 255 (leBytes 0 64)).wf = true ∧ (Instr.descFill 256 (leBytes 0 64)).wf = false ∧ (Instr.descFill 255 []).wf = false) ∧
    ((Instr.descCompare 255 (leBytes 0 64)).wf = true ∧ (Instr.descCompare 256 (leBytes 0 64)).wf = false ∧ (Instr.descCompare 255 []).wf = false) ∧
    ((Instr.descLibcmd 255 (leBytes 0 64)).wf = true ∧ (Instr.descLibcmd 256 (leBytes 0 64)).wf = false ∧ (Instr.descLibcmd 255 []).wf = false) ∧
    ((Instr.descOriginData 255 (leBytes 0 64) [] false).wf = true ∧ (Instr.descOriginData 256 (leBytes 0 64) [] false).wf = false ∧
      (Instr.descOriginData 255 [] [] false).wf = false) ∧
    ((Instr.hostLinkUp 16 5).wf = true ∧ (Instr.hostLinkUp 3 5).wf = false ∧ (Instr.hostLinkUp 16 0).wf = false ∧ (Instr.hostLinkUp 16 6).wf =
      false) ∧
    ((Instr.csCorr 15 4095).wf = true ∧ (Instr.csCorr 16 4095).wf = false ∧ (Instr.csCorr 15 4096).wf = false) ∧
    ((Instr.csUncorr 15 4095).wf = true ∧ (Instr.csUncorr 16 4095).wf = false ∧ (Instr.csUncorr 15 4096).wf = false) ∧
    ((Instr.calTempRead 3 (-32768) false).wf = true ∧ (Instr.calTempRead 4 (-32768) false).wf = false ∧ (Instr.calTempRead 3 (-32769) false).wf =
      false ∧ (Instr.calTempRead 3 32768 false).wf = false) := by decide +kernel
/-- Commands with further operands: each at its largest, and one operand at a time past its range. -/
theorem wf_operands_4 :
    ((Instr.tapExtest 0x3FFFFFFFFFFFFF 0x3FFFFFFFFFFFFF).wf = true ∧ (Instr.tapExtest 0x40000000000000 0x3FFFFFFFFFFFFF).wf = false ∧
      (Instr.tapExtest 0x3FFFFFFFFFFFFF 0x40000000000000).wf = false) ∧
    ((Instr.tapSamplePreload 0x3FFFFFFFFFFFFF 0x3FFFFFFFFFFFFF).wf = true ∧ (Instr.tapSamplePreload 0x40000000000000 0x3FFFFFFFFFFFFF).wf = false ∧
      (Instr.tapSamplePreload 0x3FFFFFFFFFFFFF 0x40000000000000).wf = false) ∧
    ((Instr.coldExit 15 15).wf = true ∧ (Instr.coldExit 16 15).wf = false ∧ (Instr.coldExit 15 16).wf = false) := by decide +kernel

/-- R487, R488: ADD stores the sum modulo 2⁶⁴ and returns the old word; on a bank in use it is DENIED and stores nothing. -/
theorem test_add :
    let s := fun (u : Nat) => put [(⟨Reg.SPD_WIN_DATA_LO, 0, 32⟩, 2), (F.SPD_BANK_USE 63, u)] (bank 2 { spd := [(63 * 32768, 0xFFFFFFFFFFFFFFFF)] })
    let t := run (.spdAdd (hw 0x80000002) 0) (s 0)
    t.spdWord (63 * 32768) = 1 ∧ t.rd Reg.SPD_WIN_DATA_LO = 0xFFFFFFFF ∧ t.rd Reg.SPD_WIN_DATA_HI = 0xFFFFFFFF ∧
      (run (.spdAdd (hw 0x80000002) 0) (s 1)).spdWord (63 * 32768) = 0xFFFFFFFFFFFFFFFF := by decide +kernel
/-- R491: a DESTRUCTIVE march of a bank in use is refused; a PRESERVING one starts. -/
theorem test_march :
    let s := bank 2 {} [(F.SPD_BANK_USE 63, 1)]
    (run (.spdMarch (hw 0x8000023F)) s).wks.march = none ∧ (run (.spdMarch (hw 0x8000023F)) s).f F.SPD_MARCH_STATUS_RESULT = 3 ∧
      (run (.spdMarch (hw 0x8000003F)) s).wks.march.isSome = true := by decide +kernel
/-- R326: with no channel enabled N_max is 64, so the swap waits for grid count 128 and not for 65. -/
theorem test_bank_swap :
    let s := run (.fltBankSwap 3 (hw 0x80000060)) (on [39] idle)
    s.flag (F.FLT_BANK_PENDING 3) = true ∧ (run (.bankSwapApply 3 65) s).flag (F.FLT_BANK_PENDING 3) = true ∧
      (run (.bankSwapApply 3 128) s).flag (F.FLT_BANK_PENDING 3) = false ∧
      (run (.bankSwapApply 3 128) s).flag (F.FLT_BANK_ACTIVE 3) ≠ s.flag (F.FLT_BANK_ACTIVE 3) := by decide +kernel
/-- R310: a second route to a channel that a route of the bay names already is denied. -/
theorem test_sense_route :
    let s := run (.pmuSenseWrite 3 0 (hw 0x80000005)) (on [39] idle)
    s.flag (F.PMU_SENSE_EN 3 0) = true ∧ (run (.pmuSenseWrite 3 1 (hw 0x80000005)) s).flag (F.PMU_SENSE_EN 3 1) = false ∧
      (run (.pmuSenseWrite 3 1 (hw 0x80000006)) s).flag (F.PMU_SENSE_EN 3 1) = true := by decide +kernel
/-- R380: lock and its loss, which is sticky. -/
theorem test_lane_lock :
    let t := run (.laneLockLost 3 7) (run (.laneLock 3 7) (port 1))
    (run (.laneLock 3 7) (port 1)).flag (F.LNK_LANE_STATUS_LOCK 3 7) = true ∧ t.flag (F.LNK_LANE_STATUS_LOCK 3 7) = false ∧
      t.flag (F.LNK_LANE_STATUS_LOST 3 7) = true := by decide +kernel
/-- R404: a read latches the counts, and a write clears both. -/
theorem test_lane_counts :
    let t := run (.lnkDlBitsRead 15 0x100000001 3) (dut [])
    (t.rd (Reg.LNK_DL_BITS_HI 15)).toNat % 65536 = 1 ∧ (t.rd (Reg.LNK_DL_ERR 15)).toNat = 3 ∧
      ((run (.lnkDlErrWrite 15 (hw 0)) t).rd (Reg.LNK_DL_ERR 15)).toNat = 0 := by decide +kernel
/-- R386: a retrain of a port that is not UP is refused; R388: a keepalive changes no register of the map. -/
theorem test_port :
    (run (.lnkPortRetrain 3 (hw 0x80000001)) (port 2)).portState 3 = 1 ∧ (run (.lnkPortRetrain 3 (hw 0x80000001)) (port 0)).portState 3 = 0 := by
  decide +kernel
/-- R459: FILL repeats its 8-byte pattern over LENGTH bytes at DST, here 12, and no further. -/
theorem test_fill :
    let t := run (.descriptorComplete 255 [] [] [] none)
      (ringed (running (leBytes 2 1 ++ leBytes 0 7 ++ leBytes 12 8 ++ leBytes 0 8 ++ leBytes 64 8 ++ leBytes 0x10 8 ++ leBytes 0x8877665544332211 8 ++ leBytes 0 16)))
    t.ldBytes 64 13 = [0x11, 0x22, 0x33, 0x44, 0x55, 0x66, 0x77, 0x88, 0x11, 0x22, 0x33, 0x44, 0] := by decide +kernel
/-- R508: PPS_OUT follows only where it is enabled. -/
theorem test_pps :
    (run (.ppsOut true) idle).ntm.pps = false ∧ (run (.ppsOut true) (put [(F.NTM_CFG_PPS_OUT_EN, 1)] idle)).out = [.ppsOut true] := by decide +kernel
/-- R89, R93: a host's fence stays while its fault is uncleared, and the pending clear takes it away once it is. -/
theorem test_fence_clear :
    let t := run (.chnFenceClear 0 (hw 2)) (run (.chnFenceSet 0 (hw 1)) chn)
    t.chFenced 0 = true ∧ t.flag (F.CHN_FENCE_CLEAR_PENDING 0) = true ∧
      (run (.chnFenceRelease 0) (run (.fclClear (hw 0x80001000) []) t)).chFenced 0 = false := by decide +kernel

/-! ### Single commands against the spec's worked examples, tables and figures -/

/-- Register values, by address. -/
def regs (l : List (Nat × Nat)) (s : State) : State := l.foldl (fun s p => s.wr p.1 (BitVec.ofNat 32 p.2)) s

/-- The addresses in the examples of 00_scope.md, 03_pin_channels.md, 04_edges_and_timing_sets.md, 07_reader_microcode.md, 12_acquisition.md,
13_time_interval.md and 16_host_rings_and_dma.md. -/
theorem test_addresses :
    Reg.CHN_CTRL 173 = 0x003AD000 ∧ Reg.CHN_VIH 0 = 0x00180010 ∧ Reg.EDG_DSK_DRV 64 = 0x00280200 ∧ Reg.RDR_PER_LO 4 3 = 0x0020F018 ∧
      Reg.UCS_CMD 2 = 0x0034000C ∧ Reg.ACQ_CFG 0 = 0x00160004 ∧ Reg.TIM_CTRL 1 = 0x000D1000 ∧ Reg.HST_RING_CFG 1 = 0x00014048 := by decide
/-- The mode transitions of Table 2-6: Idle to Load on a request, and none from Run. -/
theorem test_mode_request :
    (run (.modeReqLoad (req 5)) idle).flag F.SYS_MODE_BUSY = true ∧ (run .modeTransitionDone (moving .load idle)).mode = .load ∧
      (run (.modeReqLoad (req 5)) (mode 7)).flag F.SYS_MODE_BUSY = false := by decide +kernel
/-- R65: ISO of domain 48 is UNSUPPORTED, and its state stays. -/
theorem test_iso_unsupported :
    (run (.domReqIso 48 (hw 2)) (on [48] idle)).domState 48 = 2 ∧ (run (.domReqIso 48 (hw 2)) (on [48] idle)).f (F.PWR_DOM_STATUS_ERR 48) ≠ 0 := by
  decide +kernel

/-- The parking MCU's channel (03_pin_channels.md, Example): wide mode. -/
def parking : State := regs [(0x00180000, 0x1F01)] (on [32, 0] idle)
theorem test_levels :
    (run (.chnLevelWrite 0 0 (hw 0x4E20)) parking).level 0 0 = 20000 ∧ (run (.chnLevelWrite 0 3 (hw 0x36B0)) parking).level 0 3 = 14000 ∧
      (run (.chnLevelWrite 0 0 (hw 0x4E20)) parking).rangeBad 0 = false := by decide +kernel
/-- R72: a swing over 1.2 V in fast mode is taken off VIH; codes are kept. -/
theorem test_fast_swing :
    let t := run (.chnLevelWrite 0 0 (hw 0x5000)) (regs [(0x00180000, 0x1F00)] (on [32, 0] idle))
    t.level 0 0 = 19200 ∧ t.levelCode 0 0 = 0x5000 ∧ t.rangeBad 0 = true := by decide +kernel

/-- The folio of 05_folios_and_leaf_code.md Table 5-11, and the leaf records of Table 5-12. -/
def k7Folio : OpenFolio := { leaves := 3, bodyBytes := 100, shelfMask := 0x100, concIds := [0, 0xA17, 0, 0], tsetMask := 0x28 }
def leaf0 : List Byte := [0x03, 0x70, 0x0E, 0x00, 0x00, 0x00, 0xFF, 0xFF, 0x01, 0x00, 0x00, 0x00, 0x7D, 0x55, 0x01, 0x00,
  0, 0, 0, 0, 0, 0, 0, 0x11, 0x11, 0x11, 0x11, 0x11, 0x11, 0x11, 0x11, 0x22,
  0x22, 0x22, 0x22, 0x22, 0x22, 0x22, 0x22, 0xC8, 0xC8, 0xC8, 0xC8, 0xC8, 0xC8, 0xC8, 0xC8, 0xC8,
  0xC8, 0xC8, 0xC8, 0xC8, 0xC8, 0xC8, 0xC8, 0]
def leaf1 : List Byte := [0x00, 0x00, 0x02, 0x00, 0x24, 0x00, 0x02, 0x00]
def leaf2 : List Byte := [0x00, 0xA0, 0x09, 0x00] ++ (List.replicate 7 [0xC3, 0x30, 0x0C]).flatten ++ [0xC3, 0x30, 0x14, 0xFF, 0xFF, 0xFF, 0xFF, 0, 0, 0, 0]
/-- Bay 1 holds concordance 0xA17. -/
def k7 : State := { idle with lib := { concs := [(1, leBytes 0 12 ++ leBytes 3 2 ++ leBytes 0 50 ++ List.replicate 16 0 ++ List.replicate 16 0xCC ++ List.replicate 16 0x21)] } }
/-- Leaf 0 of Table 5-13: CONCORDANCE, LITERAL and the side tracks. -/
theorem test_leaf0 : (k7.decodeRecord k7Folio leaf0).map (fun l => (l.tsets, l.cap, l.mrk, l.syms)) =
    some (List.replicate 32 3, 0xFFFF0000, 1, [(64, 0xCCCCCCCCCCCCCCCCCCCCCCCCCCCCCCCC), (65, 0x22222222222222221111111111111111),
      (66, 0xC8C8C8C8C8C8C8C8C8C8C8C8C8C8C8C8)]) := by decide +kernel
/-- Leaf 1: REPEAT, CONCORDANCE and INVERT. -/
theorem test_leaf1 :
    (k7.decodeRecord { k7Folio with fetched := 1, fetchOff := 56, prev := (k7.decodeRecord k7Folio leaf0).getD {} } leaf1).map
        (fun l => (l.tsets, l.cap, l.mrk, l.syms)) =
      some (List.replicate 32 3, 0, 0, [(64, 0xCCCCCCCCCCCCCCCCCCCCCCCCCCCCCCCC), (65, 0x21212121212121212121212121212121),
        (66, 0x8C8C8C8C8C8C8C8C8C8C8C8C8C8C8C8C)]) := by decide +kernel
/-- Leaf 2: TS FULL, and all captured. -/
theorem test_leaf2 :
    (k7.decodeRecord { k7Folio with fetched := 2, fetchOff := 64, prev := (k7.decodeRecord k7Folio leaf0).getD {} } leaf2).map
        (fun l => (l.tsets, l.cap)) = some (List.replicate 31 3 ++ [5], 0xFFFFFFFF) := by decide +kernel
/-- The address examples of 09_stacks_controller.md: bank b, and the pseudo-channel of the third. -/
theorem test_banks : [0, 0x200000, 0x8E40, 0x7FF00000].map (Stack.bankOf {}) = [0, 1, 1, 31] ∧ pcOfOff 0x8E40 = 25 := by decide

/-- Words of 06_reader.md Table 6-5: WAIT EVT[3] RISE, LOOP 4, MARK 1 and END, each at its place 0. -/
theorem test_word_wait : ((run (.wordWait 0) (atWord 0x07 3 0)).ctx 0).plan.map (fun g => g.seg) =
    [.wait { src := 0, edge := 0, index := 3, holdFolio := false, timeout := 0 }] := by decide +kernel
theorem test_word_loop : ((run (.wordLoop 0) (atWord 0x03 0 4)).ctx 0).loops = [{ body := 1, left := 4 }] := by decide +kernel
theorem test_word_mark : ((run (.wordMark 0) (atWord 0x0E 0 1)).ctx 0).pre = [.mark 1] := by decide +kernel
theorem test_word_end : ((run (.wordEnd 0) (atWord 0x11 0 0)).ctx 0).plan.map (fun g => g.seg) = [.endRun] := by decide +kernel
/-- R159: CALL goes to TARGET and RETURN comes back behind it. -/
theorem test_word_call : ((run (.wordCall 0) (atWord 0x05 0 9)).ctx 0).pos = 9 ∧
    ((run (.wordReturn 0) (atWord 0x06 0 0 { calls := [{ ret := 3, susp := none }] })).ctx 0).pos = 3 := by decide +kernel

/-- The acquisition example of 12_acquisition.md: ARM leads to ARMED in S0, and STOP to DONE with cause HOST. -/
def profile : State :=
  regs [(0x00160004, 0x44200010), (0x00160008, 0x20003E3C), (0x00160010, 0x00000010), (0x00160014, 0x60000002), (0x00160040, 1), (0x00160044, 8),
    (0x00160104, 3), (0x0016010C, 0x000CCCCD), (0x00160100, 0x91800700), (0x00160144, 4000), (0x00160140, 0xA0C01200),
    (0x00160400, 4), (0x00160420, 40), (0x00160440, 16)]
    { put [(F.FLT_CH_EN 60, 1), (F.FLT_CH_EN 62, 1)] (on [36, 32, 7] idle) with pmus := [(60, { flt := 0x80000000 }), (62, { flt := 0x80000000 })] }
theorem test_acq_arm :
    let t := run (.acqArm 0 (hw 1)) profile
    t.f (F.ACQ_STATUS_STATE 0) = 1 ∧ t.f (F.ACQ_STATUS_RESULT 0) = 1 ∧ t.f (F.ACQ_STATUS_TSTATE 0) = 0 ∧
      (run (.acqStop 0 (hw 2)) t).f (F.ACQ_STATUS_STATE 0) = 2 ∧ (run (.acqStop 0 (hw 2)) t).f (F.ACQ_STATUS_CAUSE 0) = 3 := by decide +kernel

/-- The frequency fit of R364 over three stamps 16 × 34,129 SU apart: PERIOD is 34,129 × 65,536, and FREQ follows from it. -/
theorem test_frequency :
    let s := put [(F.TIM_STATUS_STATE 1, 1), (F.TIM_CFG_MODE 1, 1), (F.TIM_CFG_PS 1, 4)]
      { on [48] idle with tims := [(1, { running := true, n := 3, events := 48, sk := 3, skk := 5, st := 1638192, skt := 2730320 })] }
    (((run (.timGateClose 1) s).tim 1).ready.map (fun r => (r.period, r.freq, r.events, r.n))) = some (2236678144, 24003047262, 48, 3) := by decide +kernel

/-- The meter of 18_time_and_metering.md's example: at 151,200 s period 41 is sealed and period 42 opens, and the set-back at 151,230 s is
noted. -/
def meter41 (sec : Nat) (x : Meter) : State := { put [(F.MTR_CFG_EN, 1), (F.MTR_LEN_LEN, 3600)] idle with meter := x, clk := { sec := sec } }
theorem test_meter_seals :
    let t := run .meterTick (meter41 151200 { period := 41, start := 147600, g := 151199999999000 })
    t.meter.period = 42 ∧ t.meter.start = 151200 ∧ t.arch.queue.map (fun w => (leAt w.data 4 1, leAt w.data 0x0C 4, leAt w.data 0x18 8)) = [(2, 41, 151200)] := by
  decide +kernel
theorem test_meter_set_back :
    let t := run (.ntmSet (hw 1)) (regs [(Reg.NTM_SET_SEC_LO, 151150)] (meter41 151230 { period := 42, start := 151200, g := 151230000000000 }))
    t.clk.sec = 151150 ∧ t.meter.regress = some (151230, 151150) ∧ t.meter.period = 42 ∧
      (run .meterTick { t with clk := { sec := 151200 } }).meter.period = 42 := by decide +kernel
/-- R496: nanoseconds of 1,000,000,000 or more are refused. -/
theorem test_clock_set_err :
    let t := run (.ntmSet (hw 1)) (put [(F.NTM_SET_NS_NS, 1000000000)] idle)
    t.flag F.NTM_STATUS_SET_ERR = true ∧ t.clk = idle.clk := by decide +kernel
/-- R503: the first delay loads PATH, and later ones move it by a sixteenth: from 1600 by (3200 − 1600) / 16. -/
theorem test_path_delay :
    let s := ptp 2 2 { asked := [(3, some 1000)] }
    (run (.pdelayResp 3 (msg 3) 4200) s).f (F.NTM_PORT_PATH 3) = 1600 ∧
      (run (.pdelayResp 3 (msg 3) 7400) { put [(F.NTM_PORT_PATH 3, 1600)] s with ntm := { s.ntm with loaded := [(3, true)] } }).f (F.NTM_PORT_PATH 3) = 1700 := by
  decide +kernel

/-- The rings of 16_host_rings_and_dma.md's example: ring 1 starts; ring 0 is refused while it has not, and starts once it has. -/
def dmaRings : State := regs [(0x00014040, 0x12310000), (0x00014044, 0x40), (0x00014000, 0x12300000), (0x00014004, 0x40)] (mode 5)
theorem test_rings :
    let t := run (.ringEnable 1 (hw 0x88100001)) dmaRings
    t.ringRuns 1 = true ∧ t.ringEntries 1 = 256 ∧ t.ringKind 1 = 1 ∧ (run (.ringEnable 0 (hw 0x88000100)) t).ringRuns 0 = true ∧
      (run (.ringEnable 0 (hw 0x88000100)) dmaRings).ringRuns 0 = false := by decide +kernel
/-- R441: a tail 256 entries ahead is taken, one 257 ahead stops the ring with STOP = DOORBELL. -/
theorem test_doorbell :
    let s := run (.ringEnable 0 (hw 0x88000100)) (run (.ringEnable 1 (hw 0x88100001)) dmaRings)
    (run (.doorbell 0 256) s).ringRuns 0 = true ∧ (run (.doorbell 0 257) s).ringRuns 0 = false := by decide +kernel

/-- 14_weafy_lanes.md's example: LNK_DL_CFG 0x4A040606, and a search that finds slip 613. -/
theorem test_slip_search :
    let s := put [(F.LNK_DL_STATUS_CDR_LOCK 0, 1)] (regs [(0x92000, 0x4A040606), (0x92014, 0x0FFF0400)] (on [46] idle))
    s.f (F.LNK_DL_CFG_CTX 0) = 4 ∧ s.f (F.LNK_DL_CFG_SITE 0) = 16 ∧ s.f (F.LNK_DL_CFG_RX_MODE 0) = 6 ∧
      (let t := run (.searchDone 0 (some 613) false) (run (.lnkDlSearch 0 (hw 0x8FFF0400)) s)
       t.f (F.LNK_DL_SLIP_SLIP 0) = 613 ∧ t.f (F.LNK_DL_SEARCH_RESULT 0) = 1 ∧ t.flag (F.LNK_DL_SEARCH_GO 0) = false) := by decide +kernel
/-- R402: no data leaves SLIP as it was before. -/
theorem test_slip_no_data :
    let s := put [(F.LNK_DL_SEARCH_GO 0, 1), (F.LNK_DL_SEARCH_MAX 0, 0xFFF)] { on [46] idle with dlanes := [(0, { slipBefore := 77 })] }
    (run (.searchDone 0 none true) s).f (F.LNK_DL_SLIP_SLIP 0) = 77 ∧ (run (.searchDone 0 none true) s).f (F.LNK_DL_SEARCH_RESULT 0) = 3 := by decide +kernel

/-- 17_clerks.md Table 17-9: FAILS 0 and DROPPED 12 give FAIL_BIN 2 with REASON FAIL. -/
theorem test_bin :
    let s := clerking { item1 3 with arg := 5 + 0x03020100, claim := none } { ends := [(16, [(9, 0)])], digest := [(5, some (0, 12))] }
    (s.lastRun 5).isSome = true ∧ ((run (.itemBin 15) s).item 1).map (fun x => x.outs.map (fun r => (leAt r 16 1, leAt r 17 1, leAt r 20 4))) =
      some [(2, 1, 0)] := by decide +kernel

/-- Table 9-8: on-die severity and the code of one read, and the counter each outcome moves. -/
theorem test_stack_read :
    [(0, 0), (1, 0), (0, 1), (1, 1), (2, 0), (0, 2)].map (fun p =>
      let t := run (.stackRead 64 0 p.1 p.2 0 0 0) stackEnv
      (t.f (F.STK_CNT_DIE 0), t.f (F.STK_CNT_CORR 0), t.f (F.STK_CNT_UNC 0))) =
      [(0, 0, 0), (1, 0, 0), (0, 1, 0), (0, 1, 0), (0, 0, 1), (0, 0, 1)] := by decide +kernel
/-- R246: 85 °C is not HOT, 86 °C is, and 96 °C is OVERTEMP. -/
theorem test_stack_temp :
    [(85 : Int), 86, 95, 96].map (fun v => let t := run (.stackTempRead 1 v) stackEnv; (t.flag (F.STK_REF_HOT 1), t.flag (F.STK_REF_OVERTEMP 1))) =
      [(false, false), (true, false), (true, false), (true, true)] := by decide +kernel
/-- R274: a DR that is no multiple of 8, or that raises the level, is ignored with DR_ERR. -/
theorem test_dr_write :
    let s := put [(⟨Reg.LDG_STR_WR 3 20, 0, 32⟩, 64)] (streaming 83 { adm := 64 })
    [8, 12, 72].map (fun v => let t := run (.ldgStrDrWrite 83 (hw v)) s; ((t.rd (Reg.LDG_STR_DR 3 20)).toNat, t.flag (F.LDG_STR_STATUS_DR_ERR 3 20))) =
      [(8, false), (0, true), (0, true)] := by decide +kernel
/-- R300, R301: a write loads the fail count, and a consuming read latches the drop count of that cycle. -/
theorem test_site_fail :
    (run (.ldgSiteFailWrite 63 (hw 0xFFFFFFFF)) stackEnv).f (F.LDG_SITE_FAIL_FAIL 63) = 0xFFFFFFFF ∧
      (run (.ldgSiteFailRead 63 false) (run (.ldgSiteDropWrite 63 (hw 7)) stackEnv)).rd (Reg.LDG_SITE_DROP 63) = 7 := by decide +kernel
/-- R544: the written value is subtracted, and never below 0. -/
theorem test_source_count :
    let s := put [(F.IRQ_SRC_CNT_COUNT 40, 5)] idle
    (run (.irqSrcCntWrite 40 (hw 3)) s).f (F.IRQ_SRC_CNT_COUNT 40) = 2 ∧ (run (.irqSrcCntWrite 40 (hw 9)) s).f (F.IRQ_SRC_CNT_COUNT 40) = 0 := by
  decide +kernel

/-- 19_faults_and_interrupts.md's example: CH150 is fenced on its own; shelf 18's wire fault then fences the whole of bay 2 with TWO_FAULT. -/
def ch150 : State := run (.faultDetected (report 0x1096 3 2)) (on [34, 18] idle)
theorem test_two_faults :
    ch150.f (F.CHN_FENCE_CAUSE 150) ≠ 0 ∧ ch150.f (F.CHN_FENCE_CAUSE 151) = 0 ∧ ch150.fenced 0x2012 = false ∧
      (run (.wireFault 0x2012) ch150).fenced 0x3002 = true ∧ (run (.wireFault 0x2012) ch150).mode = .idle := by decide +kernel
/-- 20_calibration.md's example: 43.21 °C is 2.01 °C from 41.20 °C and triggers with THRESH 8, and TIM 1 ARMED makes the bay wait; 43.19 °C does not. -/
def bay1 : State :=
  { put [(F.CAL_TREF_CFG_DIV, 16), (F.CAL_BAY_CFG_AUTO 1, 1), (F.CAL_BAY_CFG_THRESH 1, 8), (F.CAL_BAY_TCAL_T 1, 4120), (F.TIM_STATUS_STATE 1, 1)] (on [48, 37] idle) with
    cals := [(1, { force := some { gen := 57, tcal := 4120, uncal := false } })] }
theorem test_tracking :
    let t := run (.calTempRead 1 4321 true) bay1
    bitAt (t.read (Reg.CAL_BAY_STATUS 1)).toNat 1 = true ∧ t.f (F.CAL_BAY_STATUS_STATE 1) = 2 ∧ (run (.calTempRead 1 4319 true) bay1).f (F.CAL_BAY_STATUS_STATE 1) = 0 ∧
      bitAt ((run (.calTempRead 1 4319 true) bay1).read (Reg.CAL_BAY_STATUS 1)).toNat 1 = false := by decide +kernel

/-- R590: the IDCODE scan. R586: SMBus answers the mode and whole degrees, −1 as 0xFF. -/
theorem test_reads_from_outside :
    (run .tapIdcode idle).out.getLast? = some (.answer tdoPort 0x1B2565D3) ∧ (run .smbusModeRead (mode 7)).out = [.answer 0x10000002 7] ∧
      (run (.smbusTempRead 1) (put [(F.CAL_BAY_TEMP_T 1, 4321)] idle)).out = [.answer 0x10000011 43] ∧
      (run (.smbusOtherRead 0x14) idle).out = [.answer 0x10000014 0xFF] := by decide +kernel
/-- R598, R600: KEY1 then KEY2 open the gate; KEY1 twice voids the sequence. -/
theorem test_unlock :
    let t := run (.dbgAonUnlock (byClerk 0xA5C3)) idle
    ((run (.dbgAonUnlock (byClerk 0x3C5A)) t).gate 15).opened = true ∧ ((run (.dbgAonUnlock (byClerk 0xA5C3)) t).gate 15).opened = false ∧
      (run (.dbgAonUnlock (byClerk 0xA5C3)) t).flag F.DBG_STATUS_UNLOCK_TMO = true := by decide +kernel
/-- R571: REVOKE of the last slot is refused with LAST_KEY and programs nothing; of the third it is programmed. -/
theorem test_revoke :
    (run (.fuseRevoke (hw 0x80030003)) (fused { fuses := { revoke := 7 } })).f F.SEC_FUSE_CMD_RESULT = 3 ∧
      (run .fuseProgramDone (run (.fuseRevoke (hw 0x80030002)) (fused { fuses := { revoke := 3 } }))).sec.fuses.revoke = 7 := by decide +kernel
/-- R585: an ERASE outside the host partition is refused. -/
theorem test_erase_refused :
    (run (.nvsErase (hw 0x80000003)) (put [(F.NVS_ADDR_ADDR, 0x240000)] idle)).arch.hostOp = none ∧
      (run (.nvsErase (hw 0x80000003)) (put [(F.NVS_ADDR_ADDR, 0x1400000)] idle)).arch.hostOp.isSome = true := by decide +kernel

end Sys2Proof.Tests
end

/-! SUPPORT. The time-interval measurement units (13_time_interval.md): what a record leaves of them, and what each of their commands does. -/
namespace Sys2Proof.Machine

/-! ### What an interrupt, a fault and a record leave of the TIMs -/

/-- Everything of a TIM's world that a record of the Ledger leaves alone: the TIMs, the stacks' bytes, the channels, every context's TIM
latches, and the registers of the TIM block (Table 23-1). -/
structure SameForTims (s t : State) : Prop where
  tims : t.tims = s.tims
  mem : t.mem = s.mem
  chans : t.chans = s.chans
  latches : ∀ c, (t.ctx c).tim = (s.ctx c).tim
  regs : ∀ a, 0xD0000 ≤ a → a < 0xD4000 → t.rd a = s.rd a

theorem SameForTims.refl (s : State) : SameForTims s s := ⟨rfl, rfl, rfl, fun _ => rfl, fun _ _ _ => rfl⟩

theorem SameForTims.trans {s t u : State} (h1 : SameForTims s t) (h2 : SameForTims t u) : SameForTims s u :=
  ⟨h2.tims.trans h1.tims, h2.mem.trans h1.mem, h2.chans.trans h1.chans, fun c => (h2.latches c).trans (h1.latches c),
    fun a h h' => (h2.regs a h h').trans (h1.regs a h h')⟩

theorem SameForTims.tim {s t : State} (h : SameForTims s t) (k : Nat) : t.tim k = s.tim k := by
  simp only [State.tim, h.tims]

/-- A register outside the TIM block. -/
theorem sameForTims_wr (s : State) {a : Nat} (v : Word) (h : a < 0xD0000 ∨ 0xD4000 ≤ a) : SameForTims s (s.wr a v) :=
  ⟨rfl, rfl, rfl, fun _ => rfl, fun b h1 h2 => rd_wr_ne s v (by omega)⟩

theorem sameForTims_setF (s : State) (r : RF) (v : Nat) (h : r.addr < 0xD0000 ∨ 0xD4000 ≤ r.addr) : SameForTims s (s.setF r v) :=
  sameForTims_wr s _ h

/-- A record's bookkeeping of streams and sites lies in no register. -/
theorem sameForTims_setStream (s : State) (k : Nat) (x : Stream) : SameForTims s (s.setStream k x) :=
  ⟨rfl, rfl, rfl, fun _ => rfl, fun _ _ _ => rfl⟩
theorem sameForTims_setSiteCount (s : State) (k : Nat) (x : SiteCount) : SameForTims s (s.setSiteCount k x) :=
  ⟨rfl, rfl, rfl, fun _ => rfl, fun _ _ _ => rfl⟩

/-- A message is sent, or is pending in one of the two words of the PBA. -/
theorem sameForTims_signal (s : State) {v : Nat} (h : v < 64) : SameForTims s (s.signal v) := by
  unfold State.signal
  split
  · exact ⟨rfl, rfl, rfl, fun _ => rfl, fun _ _ _ => rfl⟩
  · exact sameForTims_setF s _ _ (.inl (by simp only [Reg.HST_MSIX_PBA]; omega))

/-- An event changes its count and may signal one of the 64 vectors (R544). -/
theorem sameForTims_irq (s : State) {n : Nat} (h : n < 0x400) : SameForTims s (s.irq n) := by
  have count : ∀ v, SameForTims s (s.setF (F.IRQ_SRC_CNT_COUNT n) v) := fun v =>
    sameForTims_setF s _ v (.inl (by simp only [F.IRQ_SRC_CNT_COUNT, Reg.IRQ_SRC_CNT]; omega))
  unfold State.irq; dsimp only
  split
  · exact .refl s
  · split
    · exact (count _).trans (sameForTims_signal _ (bitsAt_lt _ 0 6))
    · exact count _

theorem sameForTims_logRecord (s : State) (kind cls unit cause mode : Nat) (esc : Bool) (detail reset boot : Nat) :
    SameForTims s (s.logRecord kind cls unit cause mode esc detail reset boot) := by
  unfold State.logRecord; extract_lets n
  split
  · exact sameForTims_setF s _ _ (.inl (by decide))
  · rename_i flags body slot a w s1 s2 _
    have queued : SameForTims s s2 := ⟨rfl, rfl, rfl, fun _ => rfl, fun _ _ _ => rfl⟩
    split
    · exact queued.trans (sameForTims_irq _ (by decide))
    · exact queued

theorem sameForTims_setEntry (s : State) (k : Nat) (e : FaultEntry) : SameForTims s (s.setEntry k e) :=
  ⟨rfl, rfl, rfl, fun _ => rfl, fun _ _ _ => rfl⟩

/-- A fault of one of the four classes is entered (R534). -/
theorem sameForTims_enter (s : State) (u cause : Nat) {cls : Nat} (detail : Nat) (cond : Condition) (esc : Bool) (h : cls < 4) :
    SameForTims s (s.enter u cause cls detail cond esc) := by
  have counted : SameForTims s (s.irq (0x100 + cls)) := sameForTims_irq s (by omega)
  have listed : ∀ k e, SameForTims s ((s.irq (0x100 + cls)).setEntry k e) := fun k e => counted.trans (sameForTims_setEntry _ k e)
  unfold State.enter; dsimp only
  split
  · split
    · exact (listed _ _).trans (sameForTims_logRecord ..)
    · exact listed _ _
  · split
    · split
      · exact (listed _ _).trans (sameForTims_logRecord ..)
      · exact listed _ _
    · exact (listed _ _).trans (sameForTims_setF _ _ _ (.inl (by decide)))

/-- A register of a bay's Ledger slice lies beyond the chip's blocks. -/
theorem bayBase_ge (b : Nat) : 0x100000 ≤ bayBase b := Nat.le_add_right ..

theorem sameForTims_takeSeq (s : State) (k : Nat) : SameForTims s (s.takeSeq k).2 := by
  have := bayBase_ge (k / 21)
  exact sameForTims_wr s _ (.inr (by simp only [Reg.LDG_STR_SEQ]; omega))

theorem sameForTims_lose (s : State) (k : Nat) : SameForTims s (s.lose k) := by
  have := bayBase_ge (k / 21)
  exact (sameForTims_setF s _ _ (.inr (by simp only [F.LDG_STR_LOST_LOST, Reg.LDG_STR_LOST]; omega))).trans
    (sameForTims_setStream _ k _)

/-- A halt request falls due for its context, or is the group's; it sets no latch (R427). -/
theorem sameForTims_requestHalt (s : State) (c : Nat) : SameForTims s (s.requestHalt c) := by
  unfold State.requestHalt State.haltRegistered
  split
  · split
    · exact ⟨rfl, rfl, rfl, fun _ => rfl, fun _ _ _ => rfl⟩
    · refine ⟨rfl, rfl, rfl, fun k => ?_, fun _ _ _ => rfl⟩
      by_cases h : k = c
      · simp [h, State.addDue]
      · simp [State.addDue, ctx_onCtx_ne, h]
  · exact .refl s

theorem sameForTims_overQuota (s : State) {site : Nat} (c : Nat) (h : site < 64) : SameForTims s (s.overQuota site c) := by
  have := bayBase_ge (site / 16)
  have flags : ∀ (t : State) (r : RF) (b : Bool), r.addr = Reg.LDG_SITE_STATUS site → SameForTims t (t.setFlag r b) := fun t r b hr =>
    sameForTims_setF t r _ (.inr (by simp only [hr, Reg.LDG_SITE_STATUS]; omega))
  have counted := (flags s (F.LDG_SITE_STATUS_OVER site) true rfl).trans (sameForTims_irq _ (show 0x80 + site < 0x400 by omega))
  unfold State.overQuota; dsimp only
  split
  · exact .refl s
  · split
    · exact (counted.trans (flags _ (F.LDG_SITE_STATUS_QSTOP site) true rfl)).trans (sameForTims_requestHalt ..)
    · exact counted

theorem sameForTims_backlog (s : State) {k : Nat} (kind : Nat) (h : k < 21 * 8) : SameForTims s (s.backlog k kind) := by
  have hb := bayBase_ge (k / 21)
  have stream := (sameForTims_lose s k).trans (sameForTims_setF _ (F.LDG_STR_STATUS_BACKLOG (k / 21) (k % 21)) (b2n true)
    (.inr (by simp only [F.LDG_STR_STATUS_BACKLOG, Reg.LDG_STR_STATUS]; omega)))
  unfold State.backlog; dsimp only
  split
  · exact stream
  · exact ((stream.trans (sameForTims_setF _ (F.LDG_SLICE_STATUS_BACKLOG (k / 21)) (b2n true)
      (.inr (by simp only [F.LDG_SLICE_STATUS_BACKLOG, Reg.LDG_SLICE_STATUS]; omega)))).trans
        (sameForTims_irq _ (by omega))).trans (sameForTims_enter _ _ _ _ _ _ (by decide))

theorem sameForTims_takeRecord (s : State) (k kind flags leaf ctx site : Nat) (payload : List Byte) :
    SameForTims s (s.takeRecord k kind flags leaf ctx site payload) := by
  unfold State.takeRecord; dsimp only
  split
  · exact (sameForTims_takeSeq s k).trans (sameForTims_setStream ..)
  · exact ((sameForTims_takeSeq s k).trans (sameForTims_takeSeq _ k)).trans (sameForTims_setStream ..)

/-- A record of a stream of one of the bays is stored, dropped or lost (R272, R292, R297); the TIMs see nothing of it. -/
theorem sameForTims_record (s : State) {k : Nat} (kind flags leaf ctx site : Nat) (payload : List Byte) (h : k < 21 * 8) :
    SameForTims s (s.record k kind flags leaf ctx site payload) := by
  have seq := sameForTims_takeSeq s k
  unfold State.record; extract_lets b len fl
  generalize (if isGeneral kind then 126976 else 4096) = room
  split
  · exact seq.trans (sameForTims_lose _ k)
  · split
    · rename_i hq
      have hsite : site < 64 := by simp at hq; omega
      exact ((seq.trans (sameForTims_setSiteCount ..)).trans (sameForTims_setStream ..)).trans (sameForTims_overQuota _ _ hsite)
    · split
      · exact seq.trans (sameForTims_lose _ k)
      · split
        · exact seq.trans (sameForTims_backlog _ _ h)
        · exact sameForTims_takeRecord ..

theorem sameForTims_timRecord (s : State) (t : Nat) (r : TimResult) (flags : Nat) : SameForTims s (s.timRecord t r flags) := by
  have hb : s.f (F.TIM_CFG_SBAY t) < 2 ^ 2 := bitsAt_lt ..
  have hk : s.f (F.TIM_CFG_STREAM_T t) < 2 ^ 5 := bitsAt_lt ..
  exact sameForTims_record s _ _ _ _ _ _ (by unfold streamKey; omega)

end Sys2Proof.Machine

/-! SUPPORT. The commands of the TIMs, case by case (13_time_interval.md R358 to R370). -/
namespace Sys2Proof.Machine

/-! ### Bits and loops -/

/-- A bit just written reads as written. -/
theorem bitAt_setBitTo_same (v i : Nat) (b : Bool) : bitAt (setBitTo v i b) i = b := by
  rw [bitAt_eq, setBitTo, testBit_setBits]
  cases b <;> simp

/-- Bit i of the written data, as the commands test it. -/
theorem getLsbD_eq_bit (w : BusWrite) (i : Nat) : w.data.getLsbD i = w.bit i := by
  rw [BusWrite.bit, bitAt_eq, BitVec.testBit_toNat]

/-- A loop over the contexts acts on each once. -/
theorem ctx_each_onCtx (g : Ctx → Ctx) (s : State) (n c : Nat) :
    (s.each n (fun c s => s.onCtx c g)).ctx c = if c < n then g (s.ctx c) else s.ctx c := by
  induction n with
  | zero => rfl
  | succ n ih =>
    have step : s.each (n + 1) (fun c s => s.onCtx c g) = (s.each n (fun c s => s.onCtx c g)).onCtx n g := by
      simp [State.each, List.range_succ]
    by_cases h : c = n
    · subst h; simp [step, ih]
    · rw [step, ctx_onCtx_ne _ _ h, ih]
      simp only [Nat.lt_succ_iff, Nat.le_iff_lt_or_eq, h, or_false]

/-- A loop of register writes leaves every register it does not name. -/
theorem rd_foldl_wr_ne {α : Type} (A : α → Nat) (V : α → Word) (a : Nat) (l : List α) :
    (∀ i ∈ l, a ≠ A i) → ∀ s : State, (l.foldl (fun s i => s.wr (A i) (V i)) s).rd a = s.rd a := by
  induction l with
  | nil => intro _ s; rfl
  | cons i l ih =>
    intro h s
    rw [List.foldl_cons, ih (fun j hj => h j (List.mem_cons_of_mem _ hj)), rd_wr_ne _ _ (h i List.mem_cons_self)]

/-- A loop of writes of distinct registers leaves in each the value written to it. -/
theorem rd_foldl_wr_mem {α : Type} (A : α → Nat) (V : α → Word) (hA : Function.Injective A) {i : α} (l : List α) :
    i ∈ l → ∀ s : State, (l.foldl (fun s i => s.wr (A i) (V i)) s).rd (A i) = V i := by
  induction l with
  | nil => intro h; simp at h
  | cons j l ih =>
    intro h s
    rw [List.foldl_cons]
    by_cases hl : i ∈ l
    · exact ih hl _
    · obtain rfl : i = j := (List.mem_cons.1 h).resolve_right hl
      have later : ∀ k ∈ l, A i ≠ A k := fun k hk e => hl (hA e ▸ hk)
      rw [rd_foldl_wr_ne A V (A i) l later, rd_wr_same]

/-- A loop of register writes changes nothing but registers. -/
theorem foldl_wr_keep {α β : Type} (v : State → β) (hv : ∀ s a x, v (State.wr s a x) = v s) (A : α → Nat) (V : α → Word)
    (l : List α) (s : State) : v (l.foldl (fun s i => s.wr (A i) (V i)) s) = v s :=
  eachOf_keep v (fun i s => s.wr (A i) (V i)) (fun _ _ => hv ..) l s

/-! ### Registers of a TIM -/

@[simp] theorem TIM_STATUS_ne_TIM_MISSED (t : Nat) : Reg.TIM_STATUS t ≠ Reg.TIM_MISSED t := by unfold Reg.TIM_STATUS Reg.TIM_MISSED; omega
@[simp] theorem TIM_STATUS_ne_TIM_RES_SEQ (t : Nat) : Reg.TIM_STATUS t ≠ Reg.TIM_RES_SEQ t := by unfold Reg.TIM_STATUS Reg.TIM_RES_SEQ; omega
@[simp] theorem TIM_RES_SEQ_ne_TIM_MISSED (t : Nat) : Reg.TIM_RES_SEQ t ≠ Reg.TIM_MISSED t := by unfold Reg.TIM_RES_SEQ Reg.TIM_MISSED; omega

/-- No register holds what a TIM measures, and nothing sent does. -/
theorem wr_tim (s : State) (a : Nat) (v : Word) (k : Nat) : (s.wr a v).tim k = s.tim k := rfl
theorem setF_tim (s : State) (r : RF) (v k : Nat) : (s.setF r v).tim k = s.tim k := rfl
theorem satInc_tim (s : State) (r : RF) (k : Nat) : (s.satInc r).tim k = s.tim k := rfl
theorem emit_tim (s : State) (o : Out) (k : Nat) : (s.emit o).tim k = s.tim k := rfl

/-- Where TIMs are changed, registers are not. -/
theorem onlyRegs_onTim {l : List Nat} {s u : State} (h : OnlyRegs l s u) (k : Nat) (g : Tim → Tim) : OnlyRegs l s (u.onTim k g) := h

/-! ### States of a TIM -/

theorem timArmed_iff (s : State) (t : Nat) : s.timArmed t = true ↔ s.f (F.TIM_STATUS_STATE t) = 1 := by simp [State.timArmed]

/-- A stopped TIM is DONE with its cause, measures nothing and holds no set (R370). -/
theorem timStopped_of_armed (s : State) (t cause : Nat) (h : s.timArmed t = true) :
    s.timStopped t cause = ((s.setF (F.TIM_STATUS_CAUSE t) cause).setF (F.TIM_STATUS_STATE t) 2).onTim t
      (fun x => { x.clear with lastStart := none, lastStop := none }) := by
  rw [State.timStopped, if_pos h]

/-! ### Arm (R369, Table 13-4) -/

theorem timArmResult_lt (s : State) (t : Nat) : s.timArmResult t < 6 := by
  unfold State.timArmResult; dsimp only
  repeat' split
  all_goals decide

/-- An ARM that reaches a TIM neither IDLE nor DONE changes nothing more. -/
theorem timArm_ignored {s : State} {t : Nat} {w : BusWrite} (hw : Admitted s (Reg.TIM_CTRL t) w)
    (h : ¬ ((stored s (Reg.TIM_CTRL t) w).f (F.TIM_STATUS_STATE t) = 0 ∨ (stored s (Reg.TIM_CTRL t) w).f (F.TIM_STATUS_STATE t) = 2)) :
    exec (.timArm t w) s = .next (stored s (Reg.TIM_CTRL t) w) := by
  show execTimArm t w s = _
  rw [execTimArm, onWrite_of_admitted _ _ _ _ hw, if_neg (by simpa [stored] using fun _ => h)]
  rfl

/-- An ARM that a check refuses shows its RESULT. -/
theorem timArm_refused {s : State} {t : Nat} {w : BusWrite} (hw : Admitted s (Reg.TIM_CTRL t) w) (hb : w.bit 0 = true)
    (h : (stored s (Reg.TIM_CTRL t) w).f (F.TIM_STATUS_STATE t) = 0 ∨ (stored s (Reg.TIM_CTRL t) w).f (F.TIM_STATUS_STATE t) = 2)
    (hr : (stored s (Reg.TIM_CTRL t) w).timArmResult t ≠ 1) :
    exec (.timArm t w) s = .next ((stored s (Reg.TIM_CTRL t) w).setF (F.TIM_STATUS_RESULT t)
      ((stored s (Reg.TIM_CTRL t) w).timArmResult t)) := by
  show execTimArm t w s = _
  rw [stored] at *
  rw [execTimArm, onWrite_of_admitted _ _ _ _ hw, if_pos (by simpa [getLsbD_eq_bit, hb] using h), if_pos hr]

/-- The registers as a passed Arm leaves them. -/
def State.timArmShown (q : State) (t : Nat) : State :=
  (((((((q.setF (F.TIM_STATUS_RESULT t) 1).wr (Reg.TIM_MISSED t) 0).wr (Reg.TIM_RES_SEQ t) 0).setF (F.TIM_STATUS_START_OVR t) 0).setF
    (F.TIM_STATUS_STOPS t) 0).setF (F.TIM_STATUS_CAUSE t) 0).setF (F.TIM_STATUS_STATE t) 1)

/-- The state a passed Arm leaves. -/
def State.timArmPassed (q : State) (t : Nat) : State :=
  (q.timArmShown t).onTim t (fun x => { x.clear with lastStart := none, lastStop := none, latched := true })

theorem timArm_passed {s : State} {t : Nat} {w : BusWrite} (hw : Admitted s (Reg.TIM_CTRL t) w) (hb : w.bit 0 = true)
    (h : (stored s (Reg.TIM_CTRL t) w).f (F.TIM_STATUS_STATE t) = 0 ∨ (stored s (Reg.TIM_CTRL t) w).f (F.TIM_STATUS_STATE t) = 2)
    (hr : (stored s (Reg.TIM_CTRL t) w).timArmResult t = 1) :
    exec (.timArm t w) s = .next ((stored s (Reg.TIM_CTRL t) w).timArmPassed t) := by
  show execTimArm t w s = _
  rw [stored] at *
  rw [execTimArm, onWrite_of_admitted _ _ _ _ hw, if_pos (by simpa [getLsbD_eq_bit, hb] using h), hr, if_neg (by simp)]
  rfl

/-- A passed Arm shows ARMED with no cause, and clears the counts R369 names. -/
theorem timArmShown_reads (q : State) (t : Nat) :
    (q.timArmShown t).f (F.TIM_STATUS_RESULT t) = 1 ∧ (q.timArmShown t).f (F.TIM_STATUS_STATE t) = 1 ∧
      (q.timArmShown t).f (F.TIM_STATUS_CAUSE t) = 0 ∧ (q.timArmShown t).rd (Reg.TIM_RES_SEQ t) = 0 ∧
      (q.timArmShown t).rd (Reg.TIM_MISSED t) = 0 := by
  unfold State.timArmShown
  simp [F.TIM_STATUS_RESULT, F.TIM_STATUS_STATE, F.TIM_STATUS_CAUSE, F.TIM_STATUS_STOPS, F.TIM_STATUS_START_OVR,
    f_setF_same, f_setF_ne, f_wr_ne, rd_setF_ne, rd_wr_ne, Ne.symm]

theorem timArmShown_onlyRegs (q : State) (t : Nat) : OnlyRegs [Reg.TIM_STATUS t, Reg.TIM_RES_SEQ t, Reg.TIM_MISSED t] q (q.timArmShown t) := by
  intro a ha
  simp only [List.mem_cons, List.not_mem_nil, or_false, not_or] at ha
  obtain ⟨hs, hq, hm⟩ := ha
  unfold State.timArmShown
  simp [F.TIM_STATUS_RESULT, F.TIM_STATUS_STATE, F.TIM_STATUS_CAUSE, F.TIM_STATUS_STOPS, F.TIM_STATUS_START_OVR, rd_setF_ne, rd_wr_ne,
    hs, hq, hm]

theorem timArmPassed_f (q : State) (t : Nat) (r : RF) : (q.timArmPassed t).f r = (q.timArmShown t).f r := by
  rw [State.timArmPassed, onTim_f]
theorem timArmPassed_rd (q : State) (t a : Nat) : (q.timArmPassed t).rd a = (q.timArmShown t).rd a := by
  rw [State.timArmPassed, onTim_rd]
theorem timArmPassed_tim (q : State) (t : Nat) :
    (q.timArmPassed t).tim t = { (q.tim t).clear with lastStart := none, lastStop := none, latched := true } := by
  rw [State.timArmPassed, tim_onTim_same, State.timArmShown, setF_tim, setF_tim, setF_tim, setF_tim, wr_tim, wr_tim, setF_tim]
theorem timArmPassed_mem (q : State) (t : Nat) : (q.timArmPassed t).mem = q.mem := by
  rw [State.timArmPassed, onTim_mem, State.timArmShown, setF_mem, setF_mem, setF_mem, setF_mem, wr_mem, wr_mem, setF_mem]

/-! ### Stamps (R358 to R363) -/

/-- The TIM has noted the time of an event of its sources. -/
def Tim.seen (x : Tim) (time : Int) (start stop : Bool) : Tim :=
  { x with lastStart := if start then some time else x.lastStart, lastStop := if stop then some time else x.lastStop }

/-- A TIM that is not ARMED stamps nothing. -/
theorem timStamp_unarmed {s : State} {t : Nat} (time : Int) (start stop : Bool) (h : s.timArmed t = false) :
    exec (.timStamp t time start stop) s = .next s := by
  show execTimStamp t time start stop s = _
  simp [execTimStamp, h]

/-- The first start event of an INTERVAL measurement's source is stamped (R359, R360). -/
theorem timStamp_start {s : State} {t : Nat} (time : Int) (ha : s.timArmed t = true) (hm : s.flag (F.TIM_CFG_MODE t) = false)
    (hr : (s.tim t).ready = none) (hl : (s.tim t).lastStart = none) :
    exec (.timStamp t time true false) s = .next ((s.onTim t (fun x => x.seen time true false)).timStart t
      (s.timStampOf t (s.f (F.TIM_START_SRC_SRC t)) (s.f (F.TIM_START_SRC_INDEX t)) time)) := by
  show execTimStamp t time true false s = _
  simp [execTimStamp, ha, hm, hr, hl]
  rfl

/-- A start event within 800 ps of the last is counted and not stamped (R358). -/
theorem timStamp_missed {s : State} {t : Nat} {time u : Int} (ha : s.timArmed t = true) (hm : s.flag (F.TIM_CFG_MODE t) = false)
    (hr : (s.tim t).ready = none) (hl : (s.tim t).lastStart = some u) (hu : time - u < 10486) :
    exec (.timStamp t time true false) s = .next ((s.satInc (F.TIM_MISSED t)).onTim t (fun x => x.seen time true false)) := by
  show execTimStamp t time true false s = _
  simp [execTimStamp, ha, hm, hr, hl, timSpacing, hu]
  rfl

/-- The first stop event while a measurement runs is stamped (R359). -/
theorem timStamp_stop {s : State} {t : Nat} (time : Int) (ha : s.timArmed t = true) (hm : s.flag (F.TIM_CFG_MODE t) = false)
    (hr : (s.tim t).ready = none) (hl : (s.tim t).lastStop = none) (hx : (s.tim t).running = true) :
    exec (.timStamp t time false true) s = .next ((s.onTim t (fun x => x.seen time false true)).timStop t
      (s.timStampOf t (s.f (F.TIM_STOP_SRC_SRC t)) (s.f (F.TIM_STOP_SRC_INDEX t)) time)) := by
  show execTimStamp t time false true s = _
  simp [execTimStamp, ha, hm, hr, hl, hx]
  rfl

/-- The first event of a FREQ source is stamped (R363). -/
theorem timStamp_gate {s : State} {t : Nat} (time : Int) (ha : s.timArmed t = true) (hm : s.flag (F.TIM_CFG_MODE t) = true)
    (hr : (s.tim t).ready = none) (hl : (s.tim t).lastStart = none) :
    exec (.timStamp t time true false) s = .next ((s.onTim t (fun x => x.seen time true false)).timGateEvent t
      (s.timStampOf t (s.f (F.TIM_START_SRC_SRC t)) (s.f (F.TIM_START_SRC_INDEX t)) time)) := by
  show execTimStamp t time true false s = _
  simp [execTimStamp, ha, hm, hr, hl]
  rfl

/-- A measurement has begun at its start stamp, in holdover or not (R359, R367). -/
def Tim.begun (x : Tim) (p : Nat) (holdover : Bool) : Tim :=
  { x with running := true, start := p, ivl := [], flags := setBitTo x.flags 1 (bitAt x.flags 1 || holdover) }

/-- The gate has opened at t_0 (R363, R367). -/
def Tim.opened (x : Tim) (p : Nat) (holdover : Bool) : Tim :=
  { x with running := true, start := p, prev := p, events := 1, n := 1, flags := setBitTo x.flags 1 holdover }

/-- A start begins a measurement where none runs. -/
theorem timStart_of_idle {s : State} {t : Nat} (p : Nat) (h : (s.tim t).running = false) :
    s.timStart t p = (s.setTim t ((s.tim t).begun p (s.flag F.TIM_TB_STATUS_HOLDOVER))).setF (F.TIM_STATUS_STOPS t) 0 := by
  simp [State.timStart, h, Tim.begun]

/-- A start is counted where a measurement runs (R360). -/
theorem timStart_of_running {s : State} {t : Nat} (p : Nat) (h : (s.tim t).running = true) :
    s.timStart t p = s.setF (F.TIM_STATUS_START_OVR t) (satAdd 15 (s.f (F.TIM_STATUS_START_OVR t)) 1) := by
  simp [State.timStart, h]

/-- The first event of a source opens the gate. -/
theorem timGateEvent_of_idle {s : State} {t : Nat} (p : Nat) (h : (s.tim t).running = false) :
    s.timGateEvent t p = s.setTim t ((s.tim t).opened p (s.flag F.TIM_TB_STATUS_HOLDOVER)) := by
  simp [State.timGateEvent, h, Tim.opened]

/-- A counted stop's interval joins the measurement, and the statistics where STAT_STOP takes it (R361, R362). -/
def Tim.counted (x : Tim) (want d : Nat) : Tim :=
  let y := { x with ivl := x.ivl ++ [Nat.min d (2 ^ 31 - 1)], flags := setBitTo x.flags 2 (bitAt x.flags 2 || decide (2 ^ 31 - 1 < d)) }
  if want = 0 ∨ want = x.ivl.length + 1 then y.take (Nat.min d (2 ^ 31 - 1)) else y

theorem Tim.counted_spec (x : Tim) (want d : Nat) : (x.counted want d).ivl = x.ivl ++ [Nat.min d (2 ^ 31 - 1)] ∧
    (x.counted want d).running = x.running ∧ (x.counted want d).ready = x.ready := by
  unfold Tim.counted; dsimp only
  split <;> exact ⟨rfl, rfl, rfl⟩

/-- A stop after the hold-off that is not the last of its measurement (R359). -/
theorem timStop_of_counted {s : State} {t p : Nat} (hlo : s.f (F.TIM_HOLDOFF_SU t) ≤ (p + 2 ^ 64 - (s.tim t).start) % 2 ^ 64)
    (hhi : (p + 2 ^ 64 - (s.tim t).start) % 2 ^ 64 < 2 ^ 63) (ht : s.f (F.TIM_TIMEOUT_US t) = 0)
    (hk : (s.tim t).ivl.length + 1 < max 1 (s.f (F.TIM_CFG_NSTOP t))) :
    s.timStop t p = ((s.setTim t ((s.tim t).counted (s.f (F.TIM_CFG_STAT_STOP t)) ((p + 2 ^ 64 - (s.tim t).start) % 2 ^ 64))).setF
      (F.TIM_STATUS_STOPS t) ((s.tim t).ivl.length + 1)).timDeliver t (Nat.min ((p + 2 ^ 64 - (s.tim t).start) % 2 ^ 64) (2 ^ 31 - 1)) := by
  unfold State.timStop Tim.counted; dsimp only
  rw [if_neg (by omega), if_neg (Nat.ne_of_lt hk)]

/-- An interval delivered to the bay's engines reaches nothing else. -/
theorem timDeliver_keep {β : Type} (v : State → β) (hv : ∀ s e g, v (State.onAcq s e g) = v s) (s : State) (t i : Nat) :
    v (s.timDeliver t i) = v s := by
  refine eachOf_keep v _ (fun e u => ?_) _ s
  split
  · unfold State.acqArrive
    split
    · exact hv ..
    · rfl
  · rfl

/-! ### The end of a measurement, and of the gate (R359, R363) -/

/-- A measurement has ended: a missing stop is marked, and the set is complete after the last of n (R362, R365). -/
def Tim.ended (x : Tim) (want n : Nat) : Tim :=
  let miss := if want = 0 then decide (x.ivl = []) else decide (x.ivl.length < want)
  let y := { x with running := false, done := x.done + 1, flags := setBitTo x.flags 3 (bitAt x.flags 3 || miss) }
  if y.done < n then y else { y with ready := some y.intervalResult }

theorem Tim.ended_spec (x : Tim) (want n : Nat) :
    (x.ended want n).running = false ∧ (x.ended want n).done = x.done + 1 ∧ (n ≤ x.done + 1 → (x.ended want n).ready.isSome = true) := by
  unfold Tim.ended; dsimp only
  split
  · exact ⟨rfl, rfl, fun h => by omega⟩
  · exact ⟨rfl, rfl, fun _ => rfl⟩

theorem timMeasureEnd_eq (s : State) (t : Nat) :
    s.timMeasureEnd t = (s.setF (F.TIM_STATUS_STOPS t) 0).setTim t ((s.tim t).ended (s.f (F.TIM_CFG_STAT_STOP t)) (s.f (F.TIM_N_N t))) := by
  have hn : (s.setF (F.TIM_STATUS_STOPS t) 0).f (F.TIM_N_N t) = s.f (F.TIM_N_N t) :=
    f_wr_ne _ _ _ (by simp only [F.TIM_N_N, F.TIM_STATUS_STOPS, Reg.TIM_N, Reg.TIM_STATUS]; omega)
  unfold State.timMeasureEnd Tim.ended; dsimp only
  rw [hn]
  split <;> rfl

theorem exec_timMeasureTimeout (s : State) (t : Nat) : exec (.timMeasureTimeout t) s =
    .next (if s.timArmed t && (s.tim t).running && !s.flag (F.TIM_CFG_MODE t) && decide (s.f (F.TIM_TIMEOUT_US t) ≠ 0) then s.timMeasureEnd t
      else s) := rfl

theorem exec_timGateClose (s : State) (t : Nat) : exec (.timGateClose t) s =
    .next (if s.timArmed t && (s.tim t).running && s.flag (F.TIM_CFG_MODE t) then s.timGateEnd t else s) := rfl

/-! ### Writing a set (R365) -/

/-- The set's number is counted, and the TIM latch of every context is set. -/
def State.timCounted (s : State) (t : Nat) : State :=
  (s.wr (Reg.TIM_RES_SEQ t) (s.rd (Reg.TIM_RES_SEQ t) + 1)).each 16 (fun c s => s.onCtx c (fun x => { x with tim := setBitTo x.tim t true }))

/-- The set as it is written: with OVERWRITE where the one before was not latched. -/
def Tim.written (x : Tim) (r : TimResult) : TimResult := { r with flags := setBitTo r.flags 0 (!x.latched) }

/-- With REC_EN a record is written. -/
def State.timFiled (s : State) (t : Nat) (r : TimResult) : State :=
  if (s.timCounted t).flag (F.TIM_CFG_REC_EN t) then (s.timCounted t).timRecord t r r.flags else s.timCounted t

/-- The set stands in the TIM, whose accumulators are clear, and its interrupt source counts it. -/
def State.timPlaced (s : State) (t : Nat) (r : TimResult) : State :=
  ((s.timFiled t r).onTim t (fun x => { x.clear with res := r, latched := false })).irq (0x78 + t)

theorem timWrite_of_none {s : State} {t : Nat} (h : (s.tim t).ready = none) : s.timWrite t = s := by
  simp [State.timWrite, h]

theorem timWrite_of_some {s : State} {t : Nat} {r : TimResult} (h : (s.tim t).ready = some r) :
    s.timWrite t = if (s.timPlaced t ((s.tim t).written r)).flag (F.TIM_CFG_REPEAT t) then s.timPlaced t ((s.tim t).written r)
      else (s.timPlaced t ((s.tim t).written r)).setF (F.TIM_STATUS_STATE t) 2 := by
  unfold State.timWrite
  rw [h]
  rfl

section counted
variable (s : State) (t : Nat)

theorem timCounted_keep {β : Type} (v : State → β) (hw : ∀ s a x, v (State.wr s a x) = v s) (hc : ∀ s c g, v (State.onCtx s c g) = v s) :
    v (s.timCounted t) = v s :=
  (each_keep v _ (fun _ _ => hc ..) 16 _).trans (hw ..)

theorem timCounted_rd (a : Nat) : (s.timCounted t).rd a = (s.wr (Reg.TIM_RES_SEQ t) (s.rd (Reg.TIM_RES_SEQ t) + 1)).rd a := by
  unfold State.timCounted
  exact each_keep (fun s => s.rd a) _ (fun _ _ => onCtx_rd ..) 16 _

theorem timCounted_latch (c : Nat) (hc : c < 16) : bitAt ((s.timCounted t).ctx c).tim t = true := by
  unfold State.timCounted
  rw [ctx_each_onCtx, if_pos hc]
  exact bitAt_setBitTo_same ..

end counted

theorem timFiled_same (s : State) (t : Nat) (r : TimResult) : SameForTims (s.timCounted t) (s.timFiled t r) := by
  unfold State.timFiled
  split
  · exact sameForTims_timRecord ..
  · exact .refl _

/-- What a written set leaves: the TIM with the set, the count one up, every latch set, and no other register of the block, no byte
and no channel changed. -/
structure TimSetPlaced (s u : State) (t : Nat) (r : TimResult) : Prop where
  tim : u.tim t = { (s.tim t).clear with res := r, latched := false }
  seq : u.rd (Reg.TIM_RES_SEQ t) = s.rd (Reg.TIM_RES_SEQ t) + 1
  regs : ∀ a, 0xD0000 ≤ a → a < 0xD4000 → a ≠ Reg.TIM_RES_SEQ t → u.rd a = s.rd a
  latches : ∀ c, c < 16 → bitAt (u.ctx c).tim t = true
  mem : u.mem = s.mem
  chans : u.chans = s.chans

theorem timPlaced_spec (s : State) {t : Nat} (r : TimResult) (ht : t < 4) : TimSetPlaced s (s.timPlaced t r) t r := by
  have filed := timFiled_same s t r
  have counted : SameForTims ((s.timFiled t r).onTim t (fun x => { x.clear with res := r, latched := false })) (s.timPlaced t r) :=
    sameForTims_irq _ (by omega)
  have htim : (s.timFiled t r).tim t = s.tim t := by
    rw [filed.tim]
    exact timCounted_keep s t (fun s => s.tim t) (fun _ _ _ => rfl) (fun _ _ _ => rfl)
  have hrd : ∀ a, 0xD0000 ≤ a → a < 0xD4000 →
      (s.timPlaced t r).rd a = (s.wr (Reg.TIM_RES_SEQ t) (s.rd (Reg.TIM_RES_SEQ t) + 1)).rd a := fun a h1 h2 => by
    rw [counted.regs a h1 h2, onTim_rd, filed.regs a h1 h2, timCounted_rd]
  refine ⟨?_, ?_, fun a h1 h2 hne => ?_, fun c hc => ?_, ?_, ?_⟩
  · rw [counted.tim, tim_onTim_same, htim]
  · rw [hrd _ (by unfold Reg.TIM_RES_SEQ; omega) (by unfold Reg.TIM_RES_SEQ; omega), rd_wr_same]
  · rw [hrd a h1 h2, rd_wr_ne _ _ hne]
  · rw [counted.latches, onTim_ctx, filed.latches]
    exact timCounted_latch s t c hc
  · rw [counted.mem, onTim_mem, filed.mem]
    exact timCounted_keep s t State.mem (fun _ _ _ => rfl) (fun _ _ _ => rfl)
  · rw [counted.chans, onTim_chans, filed.chans]
    exact timCounted_keep s t State.chans (fun _ _ _ => rfl) (fun _ _ _ => rfl)

/-- A field of another register of the TIM reads as it did. -/
theorem TimSetPlaced.f {s u : State} {t : Nat} {r : TimResult} (h : TimSetPlaced s u t r) (g : RF) (h1 : 0xD0000 ≤ g.addr)
    (h2 : g.addr < 0xD4000) (h3 : g.addr ≠ Reg.TIM_RES_SEQ t) : u.f g = s.f g := by
  simp only [State.f, h.regs g.addr h1 h2 h3]

/-- STATUS and CFG are among them. -/
theorem TimSetPlaced.f_status {s u : State} {t : Nat} {r : TimResult} (h : TimSetPlaced s u t r) (ht : t < 4) (g : RF)
    (hg : g.addr = Reg.TIM_STATUS t ∨ g.addr = Reg.TIM_CFG t) : u.f g = s.f g := by
  unfold Reg.TIM_STATUS Reg.TIM_CFG at hg
  exact h.f g (by omega) (by omega) (by unfold Reg.TIM_RES_SEQ; omega)

end Sys2Proof.Machine

/-! SUPPORT. The results of a TIM, and O34 from the cases of its commands (13_time_interval.md R358 to R370). -/
namespace Sys2Proof.Machine

/-! ### The latching read (R366) -/

/-- The readout registers of a set, but for the intervals. -/
def State.timReadout (s : State) (t : Nat) (r : TimResult) : State :=
  (((((((((((s.wr (Reg.TIM_RES_N t) (BitVec.ofNat 32 r.n)).wr (Reg.TIM_RES_MEAN_LO t) (BitVec.ofNat 32 r.mean)).wr
    (Reg.TIM_RES_MEAN_HI t) (BitVec.ofNat 32 (r.mean / 2 ^ 32))).wr (Reg.TIM_RES_SDEV t) (BitVec.ofNat 32 r.sdev)).wr
    (Reg.TIM_RES_MIN t) (BitVec.ofNat 32 r.min)).wr (Reg.TIM_RES_MAX t) (BitVec.ofNat 32 r.max)).wr
    (Reg.TIM_RES_PERIOD_LO t) (BitVec.ofNat 32 r.period)).wr (Reg.TIM_RES_PERIOD_HI t) (BitVec.ofNat 32 (r.period / 2 ^ 32))).wr
    (Reg.TIM_RES_FREQ_LO t) (BitVec.ofNat 32 r.freq)).wr (Reg.TIM_RES_FREQ_HI t) (BitVec.ofNat 32 (r.freq / 2 ^ 32))).wr
    (Reg.TIM_RES_EVENTS t) (BitVec.ofNat 32 r.events)).wr (Reg.TIM_RES_FLAGS t) (BitVec.ofNat 32 r.flags)

/-- The readout registers, and the intervals behind them. -/
theorem timLatch_eq (s : State) (t : Nat) :
    s.timLatch t = ((List.range 15).foldl (fun u i => u.wr (Reg.TIM_IVL t (i + 1)) (BitVec.ofNat 32 ((s.tim t).res.ivl.getD i 0)))
      (s.timReadout t (s.tim t).res)).onTim t (fun x => { x with latched := true }) := rfl

theorem timLatch_rd_ivl (s : State) (t : Nat) {i : Nat} (hi : i < 15) :
    (s.timLatch t).rd (Reg.TIM_IVL t (i + 1)) = BitVec.ofNat 32 ((s.tim t).res.ivl.getD i 0) := by
  have distinct : Function.Injective (fun i => Reg.TIM_IVL t (i + 1)) := fun i j h => by
    simp only [Reg.TIM_IVL] at h; omega
  rw [timLatch_eq, onTim_rd]
  exact rd_foldl_wr_mem _ (fun i => BitVec.ofNat 32 ((s.tim t).res.ivl.getD i 0)) distinct _ (List.mem_range.2 hi) _

/-- The registers below the intervals. -/
theorem timLatch_rd (s : State) (t : Nat) {a : Nat} (h : a < Reg.TIM_IVL t 1) :
    (s.timLatch t).rd a = (s.timReadout t (s.tim t).res).rd a := by
  rw [timLatch_eq, onTim_rd]
  exact rd_foldl_wr_ne _ _ a _ (fun i _ => by simp only [Reg.TIM_IVL] at *; omega) _

theorem timReadout_reads (s : State) (t : Nat) (r : TimResult) :
    (s.timReadout t r).rd (Reg.TIM_RES_N t) = BitVec.ofNat 32 r.n ∧ (s.timReadout t r).rd (Reg.TIM_RES_MEAN_LO t) = BitVec.ofNat 32 r.mean ∧
      (s.timReadout t r).rd (Reg.TIM_RES_SDEV t) = BitVec.ofNat 32 r.sdev ∧ (s.timReadout t r).rd (Reg.TIM_RES_MIN t) = BitVec.ofNat 32 r.min ∧
      (s.timReadout t r).rd (Reg.TIM_RES_MAX t) = BitVec.ofNat 32 r.max ∧ (s.timReadout t r).rd (Reg.TIM_RES_FLAGS t) = BitVec.ofNat 32 r.flags ∧
      (s.timReadout t r).rd (Reg.TIM_RES_MEAN_HI t) = BitVec.ofNat 32 (r.mean / 2 ^ 32) ∧
      (s.timReadout t r).rd (Reg.TIM_RES_PERIOD_LO t) = BitVec.ofNat 32 r.period ∧
      (s.timReadout t r).rd (Reg.TIM_RES_PERIOD_HI t) = BitVec.ofNat 32 (r.period / 2 ^ 32) ∧
      (s.timReadout t r).rd (Reg.TIM_RES_FREQ_LO t) = BitVec.ofNat 32 r.freq ∧
      (s.timReadout t r).rd (Reg.TIM_RES_FREQ_HI t) = BitVec.ofNat 32 (r.freq / 2 ^ 32) := by
  unfold State.timReadout
  simp [rd_wr, Reg.TIM_RES_N, Reg.TIM_RES_MEAN_LO, Reg.TIM_RES_MEAN_HI, Reg.TIM_RES_SDEV, Reg.TIM_RES_MIN, Reg.TIM_RES_MAX,
    Reg.TIM_RES_PERIOD_LO, Reg.TIM_RES_PERIOD_HI, Reg.TIM_RES_FREQ_LO, Reg.TIM_RES_FREQ_HI, Reg.TIM_RES_EVENTS, Reg.TIM_RES_FLAGS]

/-- What neither a register write nor a change of a TIM reaches, a latching read leaves as it was. -/
theorem timLatch_keep {β : Type} (v : State → β) (hw : ∀ s a x, v (State.wr s a x) = v s) (ht : ∀ s t g, v (State.onTim s t g) = v s)
    (s : State) (t : Nat) : v (s.timLatch t) = v s := by
  rw [timLatch_eq, ht, foldl_wr_keep v hw]
  simp only [State.timReadout, hw]

theorem timLatch_latched (s : State) (t : Nat) : ((s.timLatch t).tim t).latched = true := by
  rw [timLatch_eq, tim_onTim_same]

theorem exec_timResSeqRead_peek (s : State) (t : Nat) :
    exec (.timResSeqRead t true) s = .next (s.emit (.answer (Reg.TIM_RES_SEQ t) (s.rd (Reg.TIM_RES_SEQ t)).toNat)) := rfl

theorem exec_timResSeqRead_latch (s : State) (t : Nat) :
    exec (.timResSeqRead t false) s = .next ((s.timLatch t).emit (.answer (Reg.TIM_RES_SEQ t) (s.rd (Reg.TIM_RES_SEQ t)).toNat)) := rfl

/-! ### Writing a set, and STOP (R365, R370) -/

/-- A written set leaves the TIM ARMED under REPEAT and else DONE. -/
theorem timWrite_spec {s : State} {t : Nat} {r : TimResult} (ht : t < 4) (ha : s.timArmed t = true) (h : (s.tim t).ready = some r) :
    TimSetPlaced s (s.timPlaced t ((s.tim t).written r)) t ((s.tim t).written r) ∧
      s.timWrite t = (if s.flag (F.TIM_CFG_REPEAT t) then s.timPlaced t ((s.tim t).written r)
        else (s.timPlaced t ((s.tim t).written r)).setF (F.TIM_STATUS_STATE t) 2) ∧
      (s.timPlaced t ((s.tim t).written r)).timArmed t = true := by
  have placed := timPlaced_spec s ((s.tim t).written r) ht
  refine ⟨placed, ?_, ?_⟩
  · have repeats : (s.timPlaced t ((s.tim t).written r)).flag (F.TIM_CFG_REPEAT t) = s.flag (F.TIM_CFG_REPEAT t) := by
      simp only [State.flag, placed.f_status ht (F.TIM_CFG_REPEAT t) (.inr rfl)]
    rw [timWrite_of_some h, repeats]
  · rw [timArmed_iff] at *
    rw [placed.f_status ht _ (.inl rfl), ha]

theorem exec_timResultWrite (s : State) (t : Nat) : exec (.timResultWrite t) s = .next (if s.timArmed t then s.timWrite t else s) := rfl

/-- TIM_STATUS shows STATE and CAUSE as written. -/
theorem state_setF_state (s : State) (t v : Nat) (hv : v < 8) : (s.setF (F.TIM_STATUS_STATE t) v).f (F.TIM_STATUS_STATE t) = v :=
  (f_setF_same s _ v (by simp [F.TIM_STATUS_STATE])).trans (Nat.mod_eq_of_lt hv)

theorem cause_setF_cause (s : State) (t v : Nat) (hv : v < 16) : (s.setF (F.TIM_STATUS_CAUSE t) v).f (F.TIM_STATUS_CAUSE t) = v :=
  (f_setF_same s _ v (by simp [F.TIM_STATUS_CAUSE])).trans (Nat.mod_eq_of_lt hv)

theorem cause_setF_state (s : State) (t v : Nat) : (s.setF (F.TIM_STATUS_STATE t) v).f (F.TIM_STATUS_CAUSE t) = s.f (F.TIM_STATUS_CAUSE t) :=
  f_setF_ne s _ _ v (by simp [F.TIM_STATUS_STATE]) (by simp [F.TIM_STATUS_STATE, F.TIM_STATUS_CAUSE])

theorem state_setF_cause (s : State) (t v : Nat) : (s.setF (F.TIM_STATUS_CAUSE t) v).f (F.TIM_STATUS_STATE t) = s.f (F.TIM_STATUS_STATE t) :=
  f_setF_ne s _ _ v (by simp [F.TIM_STATUS_CAUSE]) (by simp [F.TIM_STATUS_STATE, F.TIM_STATUS_CAUSE])

/-- What STOP leaves of an ARMED TIM (R370): DONE with cause HOST, the measurement gone, the sets written so far counted. -/
structure TimHalted (u : State) (t : Nat) (seq : Word) (mem : List Host.Cell) (chans : SMap Chan) : Prop where
  state : u.f (F.TIM_STATUS_STATE t) = 2
  cause : u.f (F.TIM_STATUS_CAUSE t) = 1
  seq : u.rd (Reg.TIM_RES_SEQ t) = seq
  running : (u.tim t).running = false
  mem : u.mem = mem
  chans : u.chans = chans

/-- An ARMED TIM that is stopped. -/
theorem timStopped_halted {s : State} {t : Nat} (h : s.timArmed t = true) :
    TimHalted (s.timStopped t 1) t (s.rd (Reg.TIM_RES_SEQ t)) s.mem s.chans := by
  have hs : Reg.TIM_RES_SEQ t ≠ Reg.TIM_STATUS t := (TIM_STATUS_ne_TIM_RES_SEQ t).symm
  rw [timStopped_of_armed s t 1 h]
  refine ⟨?_, ?_, ?_, ?_, ?_, ?_⟩
  · rw [onTim_f, state_setF_state _ _ _ (by decide)]
  · rw [onTim_f, cause_setF_state, cause_setF_cause _ _ _ (by decide)]
  · rw [onTim_rd, rd_setF_ne _ _ _ hs, rd_setF_ne _ _ _ hs]
  · rw [tim_onTim_same]; rfl
  · rw [onTim_mem, setF_mem, setF_mem]
  · rw [onTim_chans, setF_chans, setF_chans]

/-- A TIM that its last set has made DONE takes the cause. -/
theorem done_halted {s : State} {t : Nat} (hr : (s.tim t).running = false) :
    TimHalted ((s.setF (F.TIM_STATUS_STATE t) 2).setF (F.TIM_STATUS_CAUSE t) 1) t (s.rd (Reg.TIM_RES_SEQ t)) s.mem s.chans := by
  have hs : Reg.TIM_RES_SEQ t ≠ Reg.TIM_STATUS t := (TIM_STATUS_ne_TIM_RES_SEQ t).symm
  refine ⟨?_, cause_setF_cause _ _ _ (by decide), ?_, ?_, ?_, ?_⟩
  · rw [state_setF_cause, state_setF_state _ _ _ (by decide)]
  · rw [rd_setF_ne _ _ _ hs, rd_setF_ne _ _ _ hs]
  · rw [setF_tim, setF_tim, hr]
  · rw [setF_mem, setF_mem]
  · rw [setF_chans, setF_chans]

/-- The meaning of STOP at an ARMED TIM: a complete set first. -/
def State.timHalt (q : State) (t : Nat) : State :=
  if (q.timWrite t).timArmed t then (q.timWrite t).timStopped t 1 else (q.timWrite t).setF (F.TIM_STATUS_CAUSE t) 1

theorem timHalt_halted {q : State} {t : Nat} (ht : t < 4) (ha : q.timArmed t = true) :
    TimHalted (q.timHalt t) t (q.rd (Reg.TIM_RES_SEQ t) + (if (q.tim t).ready = none then 0 else 1)) q.mem q.chans := by
  unfold State.timHalt
  cases hr : (q.tim t).ready with
  | none =>
    rw [timWrite_of_none hr, if_pos ha, if_pos rfl]
    simpa using timStopped_halted ha
  | some r =>
    obtain ⟨placed, write, armed⟩ := timWrite_spec ht ha hr
    rw [if_neg (show some r ≠ none by simp), ← placed.seq, ← placed.mem, ← placed.chans, write]
    by_cases hrep : q.flag (F.TIM_CFG_REPEAT t) = true
    · rw [if_pos hrep, if_pos armed]
      exact timStopped_halted armed
    · rw [if_neg hrep, if_neg (by simp [State.timArmed, state_setF_state])]
      exact done_halted (by rw [placed.tim]; rfl)

theorem timStop_ignored {s : State} {t : Nat} {w : BusWrite} (hw : Admitted s (Reg.TIM_CTRL t) w)
    (h : (stored s (Reg.TIM_CTRL t) w).timArmed t = false) : exec (.timStop t w) s = .next (stored s (Reg.TIM_CTRL t) w) := by
  show execTimStop t w s = _
  rw [stored] at *
  rw [execTimStop, onWrite_of_admitted _ _ _ _ hw, if_neg (by simp [h])]

theorem timStop_halts {s : State} {t : Nat} {w : BusWrite} (hw : Admitted s (Reg.TIM_CTRL t) w) (hb : w.bit 1 = true)
    (h : (stored s (Reg.TIM_CTRL t) w).timArmed t = true) : exec (.timStop t w) s = .next ((stored s (Reg.TIM_CTRL t) w).timHalt t) := by
  show execTimStop t w s = _
  rw [stored] at *
  rw [execTimStop, onWrite_of_admitted _ _ _ _ hw, if_pos (by simp [getLsbD_eq_bit, hb, h])]
  rfl

/-! ### The clauses of O34 -/

section clauses
variable {s : State} {m : Nat}

/-- ARM that a check refuses changes RESULT alone. -/
theorem reaches_timArm_refused {w : BusWrite} (hw : Admitted s (Reg.TIM_CTRL m) w) (hb : w.bit 0 = true)
    (h : (stored s (Reg.TIM_CTRL m) w).f (F.TIM_STATUS_STATE m) = 0 ∨ (stored s (Reg.TIM_CTRL m) w).f (F.TIM_STATUS_STATE m) = 2)
    (hr : (stored s (Reg.TIM_CTRL m) w).timArmResult m ≠ 1) :
    Reaches (.timArm m w) s (fun t => t.f (F.TIM_STATUS_RESULT m) = (stored s (Reg.TIM_CTRL m) w).timArmResult m ∧
      OnlyRegs [Reg.TIM_STATUS m] (stored s (Reg.TIM_CTRL m) w) t ∧ SameBeyondRegs (stored s (Reg.TIM_CTRL m) w) t) := by
  refine reaches_of_exec (timArm_refused hw hb h hr) ⟨?_, onlyRegs_setF _ _ _ _ List.mem_cons_self, sameBeyondRegs_setF ..⟩
  have hlt := timArmResult_lt (stored s (Reg.TIM_CTRL m) w) m
  exact (f_setF_same _ _ _ (by simp [F.TIM_STATUS_RESULT])).trans (Nat.mod_eq_of_lt (Nat.lt_trans hlt (by simp [F.TIM_STATUS_RESULT])))

/-- ARM that passes clears the TIM and enters ARMED. -/
theorem reaches_timArm_passed {w : BusWrite} (hw : Admitted s (Reg.TIM_CTRL m) w) (hb : w.bit 0 = true)
    (h : (stored s (Reg.TIM_CTRL m) w).f (F.TIM_STATUS_STATE m) = 0 ∨ (stored s (Reg.TIM_CTRL m) w).f (F.TIM_STATUS_STATE m) = 2)
    (hr : (stored s (Reg.TIM_CTRL m) w).timArmResult m = 1) :
    Reaches (.timArm m w) s (fun t => t.f (F.TIM_STATUS_RESULT m) = 1 ∧ t.f (F.TIM_STATUS_STATE m) = 1 ∧ t.f (F.TIM_STATUS_CAUSE m) = 0 ∧
      t.rd (Reg.TIM_RES_SEQ m) = 0 ∧ t.rd (Reg.TIM_MISSED m) = 0 ∧ (t.tim m).running = false ∧ (t.tim m).ready = none ∧
      (t.tim m).res = (s.tim m).res ∧
      OnlyRegs [Reg.TIM_STATUS m, Reg.TIM_RES_SEQ m, Reg.TIM_MISSED m] (stored s (Reg.TIM_CTRL m) w) t ∧
      t.mem = (stored s (Reg.TIM_CTRL m) w).mem) := by
  obtain ⟨result, state, cause, seq, missed⟩ := timArmShown_reads (stored s (Reg.TIM_CTRL m) w) m
  have kept : (stored s (Reg.TIM_CTRL m) w).tim m = s.tim m := by simp only [State.tim, stored_tims]
  refine reaches_of_exec (timArm_passed hw hb h hr) ⟨?_, ?_, ?_, ?_, ?_, ?_, ?_, ?_,
    onlyRegs_onTim (timArmShown_onlyRegs _ m) m _, timArmPassed_mem _ m⟩
  · rw [timArmPassed_f, result]
  · rw [timArmPassed_f, state]
  · rw [timArmPassed_f, cause]
  · rw [timArmPassed_rd, seq]
  · rw [timArmPassed_rd, missed]
  · rw [timArmPassed_tim]; rfl
  · rw [timArmPassed_tim]; rfl
  · rw [timArmPassed_tim, kept]; rfl

/-- The first start of an idle measurement (R359). -/
theorem reaches_timStamp_begins (time : Int) (ha : s.timArmed m = true) (hm : s.flag (F.TIM_CFG_MODE m) = false)
    (hr : (s.tim m).ready = none) (hx : (s.tim m).running = false) (hl : (s.tim m).lastStart = none) :
    Reaches (.timStamp m time true false) s (fun t => (t.tim m).running = true ∧
      (t.tim m).start = s.timStampOf m (s.f (F.TIM_START_SRC_SRC m)) (s.f (F.TIM_START_SRC_INDEX m)) time ∧
      (t.tim m).ivl = [] ∧ (t.tim m).lastStart = some time ∧ t.f (F.TIM_STATUS_STOPS m) = 0 ∧ OnlyRegs [Reg.TIM_STATUS m] s t ∧ t.mem = s.mem) := by
  have hexec := timStamp_start time ha hm hr hl
  rw [timStart_of_idle _ (by rw [tim_onTim_same]; exact hx), tim_onTim_same] at hexec
  refine reaches_of_exec hexec ⟨?_, ?_, ?_, ?_, ?_, ?_, ?_⟩
  · rw [setF_tim, tim_setTim_same]; rfl
  · rw [setF_tim, tim_setTim_same]; rfl
  · rw [setF_tim, tim_setTim_same]; rfl
  · rw [setF_tim, tim_setTim_same]; rfl
  · exact f_setF_same _ _ _ (by simp [F.TIM_STATUS_STOPS])
  · exact onlyRegs_setF _ _ _ _ List.mem_cons_self
  · rw [setF_mem, setTim_mem, onTim_mem]

/-- A start while a measurement runs (R360). -/
theorem reaches_timStamp_overrun (time : Int) (ha : s.timArmed m = true) (hm : s.flag (F.TIM_CFG_MODE m) = false)
    (hr : (s.tim m).ready = none) (hx : (s.tim m).running = true) (hl : (s.tim m).lastStart = none) :
    Reaches (.timStamp m time true false) s (fun t => t.f (F.TIM_STATUS_START_OVR m) = satAdd 15 (s.f (F.TIM_STATUS_START_OVR m)) 1 ∧
      (t.tim m).start = (s.tim m).start ∧ (t.tim m).ivl = (s.tim m).ivl ∧ OnlyRegs [Reg.TIM_STATUS m] s t ∧ t.mem = s.mem) := by
  have hexec := timStamp_start time ha hm hr hl
  rw [timStart_of_running _ (by rw [tim_onTim_same]; exact hx), onTim_f] at hexec
  refine reaches_of_exec hexec ⟨?_, ?_, ?_, ?_, ?_⟩
  · rw [f_setF_same _ _ _ (by simp [F.TIM_STATUS_START_OVR])]
    exact Nat.mod_eq_of_lt (Nat.lt_of_le_of_lt (Nat.min_le_left ..) (by simp [F.TIM_STATUS_START_OVR]))
  · rw [setF_tim, tim_onTim_same]; rfl
  · rw [setF_tim, tim_onTim_same]; rfl
  · exact onlyRegs_setF _ _ _ _ List.mem_cons_self
  · rw [setF_mem, onTim_mem]

/-- A start too close to the last (R358). -/
theorem reaches_timStamp_missed {time u : Int} (ha : s.timArmed m = true) (hm : s.flag (F.TIM_CFG_MODE m) = false)
    (hr : (s.tim m).ready = none) (hl : (s.tim m).lastStart = some u) (hu : time - u < 10486) :
    Reaches (.timStamp m time true false) s (fun t => t.f (F.TIM_MISSED m) = satAdd 0xFFFFFFFF (s.f (F.TIM_MISSED m)) 1 ∧
      (t.tim m).running = (s.tim m).running ∧ (t.tim m).start = (s.tim m).start ∧ OnlyRegs [Reg.TIM_MISSED m] s t ∧ t.mem = s.mem) := by
  refine reaches_of_exec (timStamp_missed ha hm hr hl hu) ⟨?_, ?_, ?_, ?_, ?_⟩
  · rw [onTim_f, f_satInc_same _ _ (by simp [F.TIM_MISSED])]
    simp [F.TIM_MISSED]
  · rw [tim_onTim_same, satInc_tim]; rfl
  · rw [tim_onTim_same, satInc_tim]; rfl
  · exact onlyRegs_onTim (onlyRegs_setF _ _ (F.TIM_MISSED m) _ List.mem_cons_self) m _
  · rw [onTim_mem, satInc_mem]

/-- A stop past the hold-off, with more to come (R359, R361). -/
theorem reaches_timStamp_stop {time : Int} {d : Nat} (ha : s.timArmed m = true) (hm : s.flag (F.TIM_CFG_MODE m) = false)
    (hr : (s.tim m).ready = none) (hx : (s.tim m).running = true) (hl : (s.tim m).lastStop = none) (ht : s.f (F.TIM_TIMEOUT_US m) = 0)
    (hk : (s.tim m).ivl.length + 1 < max 1 (s.f (F.TIM_CFG_NSTOP m)))
    (hd : d = (s.timStampOf m (s.f (F.TIM_STOP_SRC_SRC m)) (s.f (F.TIM_STOP_SRC_INDEX m)) time + 2 ^ 64 - (s.tim m).start) % 2 ^ 64)
    (hlo : s.f (F.TIM_HOLDOFF_SU m) ≤ d) (hhi : d < 2 ^ 63) :
    Reaches (.timStamp m time false true) s (fun t => (t.tim m).ivl = (s.tim m).ivl ++ [min d (2 ^ 31 - 1)] ∧ (t.tim m).running = true ∧
      t.f (F.TIM_STATUS_STOPS m) = (s.tim m).ivl.length + 1 ∧ (t.tim m).ready = none ∧ OnlyRegs [Reg.TIM_STATUS m] s t ∧ t.mem = s.mem) := by
  have hn : s.f (F.TIM_CFG_NSTOP m) < 2 ^ 4 := bitsAt_lt ..
  have hexec := timStamp_stop time ha hm hr hl hx
  have seen : (s.onTim m (fun x => x.seen time false true)).tim m = (s.tim m).seen time false true := tim_onTim_same ..
  obtain ⟨ivl, running, ready⟩ := Tim.counted_spec ((s.tim m).seen time false true) (s.f (F.TIM_CFG_STAT_STOP m)) d
  have count := timStop_of_counted (s := s.onTim m (fun x => x.seen time false true)) (by rw [seen]; exact hd ▸ hlo)
    (by rw [seen]; exact hd ▸ hhi) ht (by rw [seen]; exact hk)
  rw [count, seen] at hexec
  have tim : ∀ u i, (State.timDeliver u m i).tim m = u.tim m := fun u i => timDeliver_keep (fun u => u.tim m) (fun _ _ _ => rfl) u m i
  have rd : ∀ u i a, (State.timDeliver u m i).rd a = u.rd a := fun u i a => timDeliver_keep (fun u => u.rd a) (fun _ _ _ => onAcq_rd ..) u m i
  have f : ∀ u i r, (State.timDeliver u m i).f r = u.f r := fun u i r => timDeliver_keep (fun u => u.f r) (fun _ _ _ => onAcq_f ..) u m i
  have mem : ∀ u i, (State.timDeliver u m i).mem = u.mem := fun u i => timDeliver_keep State.mem (fun _ _ _ => onAcq_mem ..) u m i
  subst hd
  refine reaches_of_exec hexec ⟨?_, ?_, ?_, ?_, fun a ha => ?_, ?_⟩
  · rw [tim, setF_tim, tim_setTim_same]; exact ivl
  · rw [tim, setF_tim, tim_setTim_same]; exact running.trans hx
  · rw [f, f_setF_same _ _ _ (by simp [F.TIM_STATUS_STOPS])]
    exact Nat.mod_eq_of_lt (by simp only [F.TIM_STATUS_STOPS, Tim.seen]; omega)
  · rw [tim, setF_tim, tim_setTim_same]; exact ready.trans hr
  · rw [rd, onlyRegs_setF _ [Reg.TIM_STATUS m] _ _ List.mem_cons_self a ha, setTim_rd, onTim_rd]
  · rw [mem, setF_mem, setTim_mem, onTim_mem]

/-- The first event of a FREQ source (R363). -/
theorem reaches_timStamp_opens (time : Int) (ha : s.timArmed m = true) (hm : s.flag (F.TIM_CFG_MODE m) = true)
    (hr : (s.tim m).ready = none) (hx : (s.tim m).running = false) (hl : (s.tim m).lastStart = none) :
    Reaches (.timStamp m time true false) s (fun t => (t.tim m).running = true ∧ (t.tim m).events = 1 ∧ (t.tim m).n = 1 ∧
      t.regs = s.regs ∧ t.mem = s.mem) := by
  have hexec := timStamp_gate time ha hm hr hl
  rw [timGateEvent_of_idle _ (by rw [tim_onTim_same]; exact hx), tim_onTim_same] at hexec
  refine reaches_of_exec hexec ⟨?_, ?_, ?_, ?_, ?_⟩
  · rw [tim_setTim_same]; rfl
  · rw [tim_setTim_same]; rfl
  · rw [tim_setTim_same]; rfl
  · rw [setTim_regs, onTim_regs]
  · rw [setTim_mem, onTim_mem]

/-- The timeout of a measurement ends it (R359). -/
theorem reaches_timMeasureTimeout
    (h : (s.timArmed m && (s.tim m).running && !s.flag (F.TIM_CFG_MODE m) && decide (s.f (F.TIM_TIMEOUT_US m) ≠ 0)) = true) :
    Reaches (.timMeasureTimeout m) s (fun t => (t.tim m).running = false ∧ t.f (F.TIM_STATUS_STOPS m) = 0 ∧
      (t.tim m).done = (s.tim m).done + 1 ∧ (s.f (F.TIM_N_N m) ≤ (s.tim m).done + 1 → (t.tim m).ready.isSome = true) ∧
      OnlyRegs [Reg.TIM_STATUS m] s t ∧ t.mem = s.mem) := by
  have hexec := exec_timMeasureTimeout s m
  rw [if_pos h, timMeasureEnd_eq] at hexec
  obtain ⟨running, done, ready⟩ := Tim.ended_spec (s.tim m) (s.f (F.TIM_CFG_STAT_STOP m)) (s.f (F.TIM_N_N m))
  refine reaches_of_exec hexec ⟨?_, ?_, ?_, fun hn => ?_, fun a ha => ?_, ?_⟩
  · rw [tim_setTim_same, running]
  · rw [setTim_f, f_setF_same _ _ _ (by simp [F.TIM_STATUS_STOPS]), Nat.zero_mod]
  · rw [tim_setTim_same, done]
  · rw [tim_setTim_same, ready hn]
  · rw [setTim_rd, onlyRegs_setF _ [Reg.TIM_STATUS m] _ _ List.mem_cons_self a ha]
  · rw [setTim_mem, setF_mem]

/-- The gate's end makes the fit (R363, R364). -/
theorem reaches_timGateClose (h : (s.timArmed m && (s.tim m).running && s.flag (F.TIM_CFG_MODE m)) = true) :
    Reaches (.timGateClose m) s (fun t => (t.tim m).running = false ∧
      (t.tim m).ready = some ((s.tim m).freqResult (2 ^ s.f (F.TIM_CFG_PS m))) ∧ t.regs = s.regs ∧ t.mem = s.mem) := by
  have hexec := exec_timGateClose s m
  rw [if_pos h, State.timGateEnd] at hexec
  refine reaches_of_exec hexec ⟨?_, ?_, onTim_regs .., onTim_mem ..⟩
  · rw [tim_onTim_same]
  · rw [tim_onTim_same]

/-- A complete set is written (R365). -/
theorem reaches_timResultWrite {r : TimResult} (hlt : m < 4) (ha : s.timArmed m = true) (hr : (s.tim m).ready = some r) :
    Reaches (.timResultWrite m) s (fun t => t.rd (Reg.TIM_RES_SEQ m) = s.rd (Reg.TIM_RES_SEQ m) + 1 ∧
      (t.tim m).res = { r with flags := setBitTo r.flags 0 (!(s.tim m).latched) } ∧ (t.tim m).ready = none ∧ (t.tim m).latched = false ∧
      (∀ c, c < 16 → bitAt (t.ctx c).tim m = true) ∧ t.f (F.TIM_STATUS_STATE m) = (if s.flag (F.TIM_CFG_REPEAT m) then 1 else 2) ∧
      t.mem = s.mem) := by
  obtain ⟨placed, write, armed⟩ := timWrite_spec hlt ha hr
  have hexec := exec_timResultWrite s m
  rw [if_pos ha, write] at hexec
  by_cases hrep : s.flag (F.TIM_CFG_REPEAT m) = true
  · rw [if_pos hrep] at hexec ⊢
    exact reaches_of_exec hexec ⟨placed.seq, by rw [placed.tim]; rfl, by rw [placed.tim]; rfl, by rw [placed.tim], placed.latches,
      (timArmed_iff _ m).1 armed, placed.mem⟩
  · rw [if_neg hrep] at hexec ⊢
    refine reaches_of_exec hexec ⟨?_, ?_, ?_, ?_, ?_, state_setF_state _ m 2 (by decide), ?_⟩
    · rw [rd_setF_ne _ _ _ (TIM_STATUS_ne_TIM_RES_SEQ m).symm, placed.seq]
    · rw [setF_tim, placed.tim]; rfl
    · rw [setF_tim, placed.tim]; rfl
    · rw [setF_tim, placed.tim]
    · intro c hc
      rw [setF_ctx]
      exact placed.latches c hc
    · rw [setF_mem, placed.mem]

/-- The latching read (R366). -/
theorem reaches_timResSeqRead_latch (s : State) (m : Nat) :
    Reaches (.timResSeqRead m false) s (fun t => t.out = s.out ++ [.answer (Reg.TIM_RES_SEQ m) (s.rd (Reg.TIM_RES_SEQ m)).toNat] ∧
      t.rd (Reg.TIM_RES_N m) = BitVec.ofNat 32 (s.tim m).res.n ∧ t.rd (Reg.TIM_RES_MEAN_LO m) = BitVec.ofNat 32 (s.tim m).res.mean ∧
      t.rd (Reg.TIM_RES_SDEV m) = BitVec.ofNat 32 (s.tim m).res.sdev ∧ t.rd (Reg.TIM_RES_MIN m) = BitVec.ofNat 32 (s.tim m).res.min ∧
      t.rd (Reg.TIM_RES_MAX m) = BitVec.ofNat 32 (s.tim m).res.max ∧ t.rd (Reg.TIM_RES_FLAGS m) = BitVec.ofNat 32 (s.tim m).res.flags ∧
      t.rd (Reg.TIM_RES_MEAN_HI m) = BitVec.ofNat 32 ((s.tim m).res.mean / 2 ^ 32) ∧
      t.rd (Reg.TIM_RES_PERIOD_LO m) = BitVec.ofNat 32 (s.tim m).res.period ∧
      t.rd (Reg.TIM_RES_PERIOD_HI m) = BitVec.ofNat 32 ((s.tim m).res.period / 2 ^ 32) ∧
      t.rd (Reg.TIM_RES_FREQ_LO m) = BitVec.ofNat 32 (s.tim m).res.freq ∧
      t.rd (Reg.TIM_RES_FREQ_HI m) = BitVec.ofNat 32 ((s.tim m).res.freq / 2 ^ 32) ∧
      (∀ i, i < 15 → t.rd (Reg.TIM_IVL m (i + 1)) = BitVec.ofNat 32 ((s.tim m).res.ivl.getD i 0)) ∧
      (t.tim m).latched = true ∧ t.mem = s.mem) := by
  obtain ⟨n, mean, sdev, least, greatest, flags, meanHi, period, periodHi, freq, freqHi⟩ := timReadout_reads s m (s.tim m).res
  have out : (s.timLatch m).out = s.out := timLatch_keep State.out (fun _ _ _ => wr_out ..) (fun _ _ _ => onTim_out ..) s m
  have mem : (s.timLatch m).mem = s.mem := timLatch_keep State.mem (fun _ _ _ => wr_mem ..) (fun _ _ _ => onTim_mem ..) s m
  refine reaches_of_exec (exec_timResSeqRead_latch s m) ?_
  simp (disch := simp only [Reg.TIM_RES_N, Reg.TIM_RES_MEAN_LO, Reg.TIM_RES_MEAN_HI, Reg.TIM_RES_SDEV, Reg.TIM_RES_MIN, Reg.TIM_RES_MAX,
    Reg.TIM_RES_PERIOD_LO, Reg.TIM_RES_PERIOD_HI, Reg.TIM_RES_FREQ_LO, Reg.TIM_RES_FREQ_HI, Reg.TIM_RES_FLAGS, Reg.TIM_IVL]; omega)
    only [emit_rd, timLatch_rd]
  exact ⟨by rw [emit_out, out], n, mean, sdev, least, greatest, flags, meanHi, period, periodHi, freq, freqHi,
    fun i hi => timLatch_rd_ivl s m hi, by rw [emit_tim, timLatch_latched], by rw [emit_mem, mem]⟩

end clauses

end Sys2Proof.Machine

namespace Sys2Proof

open Sys2Proof.Machine

/-- Settles O34, clause by clause: each command of a TIM has an equation per case, and a written set's record reaches nothing of the TIM. -/
theorem intervalMeasurement : Obligations.IntervalMeasurement := by
  unfold Obligations.IntervalMeasurement
  intro s m hm
  refine ⟨fun w hw hb => ⟨?_, ?_, ?_⟩, fun w hw hb => ⟨?_, ?_⟩, ?_, fun time ha hi hr => ⟨?_, ?_, ?_, ?_⟩,
    ?_, ?_, ?_, ?_, ?_, ?_, ?_, ?_, ?_⟩
  · exact fun h => reaches_of_exec (timArm_ignored hw h) rfl
  · exact fun h hr => reaches_timArm_refused hw hb h hr
  · exact fun h hr => reaches_timArm_passed hw hb h hr
  · exact fun h => reaches_of_exec (timStop_ignored hw h) rfl
  · intro h
    have halted := timHalt_halted hm h
    have kept : (stored s (Reg.TIM_CTRL m) w).tim m = s.tim m := by simp only [State.tim, stored_tims]
    rw [kept] at halted
    exact reaches_of_exec (timStop_halts hw hb h) ⟨halted.state, halted.cause, halted.seq, halted.running, halted.mem, halted.chans⟩
  · exact fun time start stop h => reaches_of_exec (timStamp_unarmed time start stop h) rfl
  · exact fun hx hl => reaches_timStamp_begins time ha hi hr hx hl
  · exact fun hx hl => reaches_timStamp_overrun time ha hi hr hx hl
  · exact fun u hl hu => reaches_timStamp_missed ha hi hr hl hu
  · exact fun hx hl ht hk hlo hhi => reaches_timStamp_stop ha hi hr hx hl ht hk rfl hlo hhi
  · exact fun time ha hi hr hx hl => reaches_timStamp_opens time ha hi hr hx hl
  · exact fun h => reaches_of_exec (exec_timMeasureTimeout s m) (if_neg (by rw [h]; decide))
  · exact reaches_timMeasureTimeout
  · exact fun h => reaches_of_exec (exec_timGateClose s m) (if_neg (by rw [h]; decide))
  · exact reaches_timGateClose
  · rintro (h | h)
    · exact reaches_of_exec (exec_timResultWrite s m) (if_neg (by rw [h]; decide))
    · exact reaches_of_exec (exec_timResultWrite s m) (by rw [timWrite_of_none h, ite_self])
  · exact fun r ha hr => reaches_timResultWrite hm ha hr
  · exact reaches_of_exec (exec_timResSeqRead_peek s m) rfl
  · exact reaches_timResSeqRead_latch s m

end Sys2Proof

/-! SUPPORT. The lane block of BAR0 and the fabric ports: what a write of a lane register stores, what an interrupt leaves of the
registers beyond the chip's own, and what the shared operations of a port leave of the state (14_weafy_lanes.md). -/
namespace Sys2Proof.Machine

/-! ### Writes of the lane block (R609) -/

/-- No inventory step is on a lane, and the lane block has no gate (R598, R605). -/
theorem istWrite_lnk (s : State) {a : Nat} (h : blockOf a = .lnk) : s.istWrite a = s := by
  unfold State.istWrite
  split
  · rfl
  · simp [h]

theorem useGate_lnk (s : State) {a : Nat} (m : Master) (h : blockOf a = .lnk) : s.useGate a m = s := by
  have ha : a ≠ Reg.TIM_XO_OFF ∧ a ≠ Reg.TIM_XO_AGE :=
    ⟨fun e => absurd (e ▸ h) (by decide), fun e => absurd (e ▸ h) (by decide)⟩
  simp [State.useGate, gated, h, ha]

theorem onPlain_lnk {s : State} {a : Nat} {w : BusWrite} (act : State → State) (h : blockOf a = .lnk) (hw : AdmittedPlain s a w) :
    s.onPlain a w act = act s := by
  obtain ⟨hbar, hboot, hpower, hgate, hwhole⟩ := hw
  rw [onPlain_of_admitted s a w act hbar hboot hpower hgate hwhole, istWrite_lnk s h, useGate_lnk s w.master h]

/-- A register without locked fields is denied whole or takes each bit by its access code. -/
theorem judge_unlocked (s : State) {r : RegRow} (a : Nat) (w : BusWrite) (hwl : r.wl = 0#32) :
    (s.judge r a w).1 ≠ some 5 ∧ ((s.judge r a w).1 = none → (s.judge r a w).2 = r.apply (s.rd a) w.data false) := by
  have lock : ∀ b, r.apply (s.rd a) w.data b = r.apply (s.rd a) w.data false := fun b => by simp [RegRow.apply, hwl]
  unfold State.judge
  simp only [lock, hwl, BitVec.and_zero, ne_eq, not_true_eq_false, decide_false, Bool.and_false, Bool.false_eq_true, if_false]
  repeat' split
  all_goals simp

/-- An admitted write of a lane register without locked fields stores each bit by its access code, and does nothing else. -/
theorem stored_lnk {s : State} {a : Nat} {w : BusWrite} {r : RegRow} (hb : blockOf a = .lnk) (hr : rowOf a = some r)
    (hwl : r.wl = 0#32) (hwo : r.wo1 = 0#32) (hw : Admitted s a w) : stored s a w = s.wr a (r.apply (s.rd a) w.data false) := by
  obtain ⟨no5, value⟩ := judge_unlocked s a w hwl
  unfold stored
  unfold Admitted at hw
  unfold State.busWrite at hw ⊢
  rw [istWrite_lnk s hb, hr] at *
  split at hw
  · cases hw
  · dsimp only at hw ⊢
    split at hw
    · split at hw <;> cases hw
    · rename_i hbar hwritable
      rw [if_neg hbar, if_neg hwritable]
      split at hw
      · rename_i v hj
        rw [hj] at value
        obtain rfl : v = _ := value rfl
        simp only [hwo, if_true]
        exact useGate_lnk _ _ hb
      · rename_i v hj
        exact absurd (congrArg Prod.fst hj) no5
      · cases hw

/-! ### What an interrupt leaves beyond the chip's own registers -/

/-- The pending bits of the 64 vectors and the counts of the sources lie below 0x40000 (Table 23-1). -/
theorem signal_rd_beyond (s : State) {v a : Nat} (hv : v < 64) (ha : 0x40000 ≤ a) : (s.signal v).rd a = s.rd a := by
  unfold State.signal; split
  · rfl
  · exact rd_setFlag_ne _ _ _ (by unfold Reg.HST_MSIX_PBA; dsimp only; omega)

theorem irq_rd_beyond (s : State) {n a : Nat} (hn : n < 0x400) (ha : 0x40000 ≤ a) : (s.irq n).rd a = s.rd a := by
  have count : a ≠ Reg.IRQ_SRC_CNT n := by unfold Reg.IRQ_SRC_CNT; omega
  unfold State.irq; dsimp only
  split
  · rfl
  · split
    · exact (signal_rd_beyond _ (bitsAt_lt _ 0 6) ha).trans (rd_setF_ne _ _ _ count)
    · exact rd_setF_ne _ _ _ count

theorem degradedIrq_quiet (s s0 : State) : (s.degradedIrq s0).quiet = s.quiet := by
  unfold State.degradedIrq; split
  · exact irq_quiet ..
  · rfl

theorem degradedIrq_rd (s s0 : State) {a : Nat} (ha : 0x40000 ≤ a) : (s.degradedIrq s0).rd a = s.rd a := by
  unfold State.degradedIrq; split
  · exact irq_rd_beyond s (by decide) ha
  · rfl

/-! ### The state of a port -/

theorem LNK_PORT_STATUS_ge (p : Nat) : 0x40000 ≤ Reg.LNK_PORT_STATUS p := by unfold Reg.LNK_PORT_STATUS; omega

theorem port_of_quiet {s t : State} (h : t.quiet = s.quiet) (p : Nat) : t.port p = s.port p := by
  simp only [State.port, ports_of_quiet h]

theorem fence_of_fcl {s t : State} (h : t.fcl = s.fcl) (u : Nat) : t.fence u = s.fence u := by
  simp only [State.fence, h]

theorem portState_of_rd {s t : State} {p : Nat} (h : t.rd (Reg.LNK_PORT_STATUS p) = s.rd (Reg.LNK_PORT_STATUS p)) :
    t.portState p = s.portState p := by
  simp only [State.portState, State.f, F.LNK_PORT_STATUS_STATE, h]

theorem setPortState_quiet (s : State) (p v : Nat) : (s.setPortState p v).quiet = s.quiet := by
  unfold State.setPortState; split
  · rfl
  · rw [irq_quiet, setF_quiet]

/-- A port's state just set reads as set (Table 14-8). -/
theorem portState_setPortState (s : State) {p v : Nat} (hp : p < 4) (hv : v < 8) : (s.setPortState p v).portState p = v := by
  unfold State.setPortState; split
  · assumption
  · rw [portState_of_rd (irq_rd_beyond _ (by omega) (LNK_PORT_STATUS_ge p)), State.portState, f_setF_same _ _ _ (by simp [F.LNK_PORT_STATUS_STATE])]
    exact Nat.mod_eq_of_lt hv

/-! ### The ladder, the fence and the retrain of a port -/

theorem portLadder_rd (s : State) (p step a : Nat) : (s.portLadder p step).rd a = s.rd a := rfl
theorem portLadder_mem (s : State) (p step : Nat) : (s.portLadder p step).mem = s.mem := rfl
theorem portLadder_fcl (s : State) (p step : Nat) : (s.portLadder p step).fcl = s.fcl := rfl
theorem port_portLadder (s : State) (p step : Nat) :
    (s.portLadder p step).port p = { s.port p with step := step, partnerMax := none, accepts := 0, badLanes := none } :=
  port_onPort_same ..

/-- What no field of a register, no part of the library and no port holds, a port's discard leaves alone (R387). -/
theorem portDiscard_keep {β : Type} (v : State → β) (hf : ∀ s r x, v (State.setF s r x) = v s) (hl : ∀ s g, v (State.onLib s g) = v s)
    (hp : ∀ s p g, v (State.onPort s p g) = v s) (s : State) (p : Nat) : v (s.portDiscard p) = v s := by
  unfold State.portDiscard State.showCredit
  refine (eachOf_keep v (fun k s => State.setF s _ _) (fun _ _ => hf ..) (List.range 4) _).trans ?_
  exact (hp ..).trans (eachOf_keep v _ (fun _ _ => hl ..) _ s)

/-- A port is fenced: it reads FENCED, outside the ladder (R387). -/
theorem portFence_spec (s : State) {p : Nat} (hp : p < 4) : (s.portFence p).portState p = 4 ∧ ((s.portFence p).port p).step = 0 ∧
    (s.portFence p).mem = s.mem ∧ (s.portFence p).fcl = s.fcl := by
  unfold State.portFence; extract_lets t
  have kept : t.mem = s.mem ∧ t.fcl = s.fcl := by
    simp only [t]; split
    · exact ⟨portDiscard_keep State.mem (fun _ _ _ => rfl) (fun _ _ => rfl) (fun _ _ _ => rfl) s p,
        portDiscard_keep State.fcl (fun _ _ _ => rfl) (fun _ _ => rfl) (fun _ _ _ => rfl) s p⟩
    · exact ⟨rfl, rfl⟩
  have quiet := setPortState_quiet t p 4
  refine ⟨?_, ?_, ?_, ?_⟩
  · rw [portState_of_rd (portLadder_rd ..), portState_setPortState t hp (by decide)]
  · rw [port_portLadder]
  · rw [portLadder_mem, mem_of_quiet quiet, kept.1]
  · rw [portLadder_fcl, fcl_of_quiet quiet, kept.2]

/-- A retrain takes a port to TRAINING at step 2 with its frames (R386). -/
theorem portRetrain_spec (s : State) {p : Nat} (hp : p < 4) : (s.portRetrain p).portState p = 1 ∧ ((s.portRetrain p).port p).step = 2 ∧
    ((s.portRetrain p).port p).queue = (s.port p).queue ∧ (s.portRetrain p).mem = s.mem ∧ (s.portRetrain p).fcl = s.fcl := by
  have quiet := setPortState_quiet s p 1
  unfold State.portRetrain
  refine ⟨?_, ?_, ?_, ?_, ?_⟩
  · rw [portState_of_rd (portLadder_rd ..), portState_of_rd (onPort_rd ..), portState_setPortState s hp (by decide)]
  · rw [port_portLadder]
  · rw [port_portLadder, port_onPort_same, port_of_quiet quiet]
  · rw [portLadder_mem, onPort_mem, mem_of_quiet quiet]
  · rw [portLadder_fcl, onPort_fcl, fcl_of_quiet quiet]

/-! ### The unit of a port (R523) -/

theorem unitKind_port {p : Nat} (hp : p < 4) : unitKind (unitCode 0xA p) = 0xA := by unfold unitKind unitCode; omega
theorem unitIndex_port {p : Nat} (hp : p < 4) : unitIndex (unitCode 0xA p) = p := by unfold unitIndex unitCode; omega

theorem fenced_port (s : State) {p : Nat} (hp : p < 4) : s.fenced (unitCode 0xA p) = (s.fence (unitCode 0xA p)).isSome := by
  rw [State.fenced, unitKind_port hp, if_neg (by decide)]

/-- The fence of a port by the host (R386, Table 19-3). -/
theorem fenceUnit_port (s : State) {p : Nat} (hp : p < 4) (h : s.fenced (unitCode 0xA p) = false) :
    s.fenceUnit (unitCode 0xA p) 0x0C true =
      ((s.setFence (unitCode 0xA p) (some { cause := 0x0C })).portFence p).degradedIrq s := by
  unfold State.fenceUnit State.fenceEffect
  rw [unitKind_port hp, unitIndex_port hp, h]
  rfl

end Sys2Proof.Machine

/-! SUPPORT. The commands of the fabric ports, case by case (14_weafy_lanes.md R386, R387, R395). -/
namespace Sys2Proof.Machine

/-! ### LNK_PORT_CTRL -/

/-- A field of one bit is that bit of its register. -/
theorem flag_eq_getLsbD (s : State) (r : RF) (h : r.width = 1) : s.flag r = (s.rd r.addr).getLsbD r.lo := by
  rw [← BitVec.testBit_toNat, ← bitAt_eq, Bool.eq_iff_iff]
  simp [State.flag, State.f, bitsAt, bitAt, h]

theorem blockOf_LNK_PORT_CTRL {p : Nat} (hp : p < 4) : blockOf (Reg.LNK_PORT_CTRL p) = .lnk := by
  have all : ∀ p < 4, blockOf (Reg.LNK_PORT_CTRL p) = .lnk := by decide
  exact all p hp

theorem rowOf_LNK_PORT_CTRL {p : Nat} (hp : p < 4) :
    rowOf (Reg.LNK_PORT_CTRL p) = some ⟨0x90000, [(4, 0x400)], 0x80000000, 0, 0x7, 0, 0, 0⟩ := by
  have all : ∀ p < 4, rowOf (Reg.LNK_PORT_CTRL p) = some ⟨0x90000, [(4, 0x400)], 0x80000000, 0, 0x7, 0, 0, 0⟩ := by decide +kernel
  exact all p hp

section ctrl
variable {s : State} {p : Nat} {w : BusWrite}

/-- EN takes the written bit. -/
theorem stored_portEnable (hp : p < 4) (hw : Admitted s (Reg.LNK_PORT_CTRL p) w) :
    (stored s (Reg.LNK_PORT_CTRL p) w).flag (F.LNK_PORT_CTRL_EN p) = w.bit 31 := by
  rw [flag_eq_getLsbD _ _ rfl, stored_lnk (blockOf_LNK_PORT_CTRL hp) (rowOf_LNK_PORT_CTRL hp) rfl rfl hw, ← getLsbD_eq_bit]
  simp [F.LNK_PORT_CTRL_EN, RegRow.apply]

/-- The fence of a port taken back (R387). -/
def State.portCleared (q : State) (p : Nat) : State :=
  (((q.setFence (unitCode 0xA p) none).setPortState p 0).portLadder p (b2n (q.flag (F.LNK_PORT_CTRL_EN p)))).degradedIrq q

/-- What a request of FENCE and one of RETRAIN come to (R386, Table 2-17): the act, or RESULT 2. -/
def State.portFenceAsked (q : State) (p : Nat) : State :=
  if q.portServiceOk p && decide (q.fenceCount 0xA + b2n (!q.portRetraining p) ≤ 2) then q.fenceUnit (unitCode 0xA p) 0x0C true
  else q.setF (F.LNK_PORT_STATUS_RESULT p) 2
def State.portRetrainAsked (q : State) (p : Nat) : State :=
  if q.portServiceOk p && decide (q.fenceCount 0xA + 1 ≤ 2) then q.portRetrain p else q.setF (F.LNK_PORT_STATUS_RESULT p) 2

variable (hw : Admitted s (Reg.LNK_PORT_CTRL p) w)
  (hen : (stored s (Reg.LNK_PORT_CTRL p) w).flag (F.LNK_PORT_CTRL_EN p) = s.flag (F.LNK_PORT_CTRL_EN p))
include hw hen

/-- A write that leaves EN as it is takes CLEAR, FENCE and RETRAIN in this order, each in the states that have it. -/
theorem portCtrl_of_enable_kept :
    s.portCtrl p w =
      let q := stored s (Reg.LNK_PORT_CTRL p) w
      let q := if w.bit 2 && decide (q.portState p = 4) then q.portCleared p else q
      let q := if w.bit 1 && decide (q.portState p ≠ 4) then q.portFenceAsked p else q
      if w.bit 0 && decide (q.portState p = 2) then q.portRetrainAsked p else q := by
  unfold State.portCtrl
  dsimp only
  rw [onWrite_of_admitted _ _ _ _ hw]
  unfold stored at *
  generalize (s.busWrite (Reg.LNK_PORT_CTRL p) w).1 = q at *
  rw [← hen]
  simp only [Bool.and_not_self, Bool.not_and_self, Bool.false_and, Bool.false_eq_true, if_false, getLsbD_eq_bit]
  rfl

/-- The requests one by one: a write with one of the three bits makes that request, in a state that has it. -/
theorem portCtrl_retrain (h0 : w.bit 0 = true) (h1 : w.bit 1 = false) (h2 : w.bit 2 = false) (hup :
      (stored s (Reg.LNK_PORT_CTRL p) w).portState p = 2) :
    s.portCtrl p w = (stored s (Reg.LNK_PORT_CTRL p) w).portRetrainAsked p := by
  simp [portCtrl_of_enable_kept hw hen, h0, h1, h2, hup]

theorem portCtrl_fence (h0 : w.bit 0 = false) (h1 : w.bit 1 = true) (h2 : w.bit 2 = false) (hst :
      (stored s (Reg.LNK_PORT_CTRL p) w).portState p ≠ 4) :
    s.portCtrl p w = (stored s (Reg.LNK_PORT_CTRL p) w).portFenceAsked p := by
  simp [portCtrl_of_enable_kept hw hen, h0, h1, h2, hst]

theorem portCtrl_clear (h0 : w.bit 0 = false) (h1 : w.bit 1 = false) (h2 : w.bit 2 = true) (hst :
      (stored s (Reg.LNK_PORT_CTRL p) w).portState p = 4) :
    s.portCtrl p w = (stored s (Reg.LNK_PORT_CTRL p) w).portCleared p := by
  simp [portCtrl_of_enable_kept hw hen, h0, h1, h2, hst]

/-- CLEAR outside FENCED, or none of the bits, does no more than the write. -/
theorem portCtrl_none (h0 : w.bit 0 = false) (h1 : w.bit 1 = false)
    (h2 : w.bit 2 = false ∨ (stored s (Reg.LNK_PORT_CTRL p) w).portState p ≠ 4) :
    s.portCtrl p w = stored s (Reg.LNK_PORT_CTRL p) w := by
  rcases h2 with h2 | h2 <;> simp [portCtrl_of_enable_kept hw hen, h0, h1, h2]

end ctrl

/-- The three commands are one write (R386, R387). -/
theorem exec_portCommand {c : Instr} {p : Nat} {w : BusWrite} (hc : c ∈ [.lnkPortRetrain p w, .lnkPortFence p w, .lnkPortClear p w])
    (s : State) : exec c s = .next (s.portCtrl p w) := by
  simp only [List.mem_cons, List.not_mem_nil, or_false] at hc
  obtain rfl | rfl | rfl := hc <;> rfl

/-! ### What each request leaves -/

/-- A refused request shows RESULT 2 and does no more. -/
theorem portRefused_spec (q : State) (p : Nat) : (q.setF (F.LNK_PORT_STATUS_RESULT p) 2).f (F.LNK_PORT_STATUS_RESULT p) = 2 ∧
    OnlyRegs [Reg.LNK_PORT_STATUS p] q (q.setF (F.LNK_PORT_STATUS_RESULT p) 2) ∧
    SameBeyondRegs q (q.setF (F.LNK_PORT_STATUS_RESULT p) 2) :=
  ⟨f_setF_same _ _ _ (by simp [F.LNK_PORT_STATUS_RESULT]), onlyRegs_setF _ _ _ _ List.mem_cons_self, sameBeyondRegs_setF ..⟩

/-- A fenced port reads FENCED, outside the ladder. -/
theorem portFenceUnit_spec (q : State) {p : Nat} (hp : p < 4) (h : q.fenced (unitCode 0xA p) = false) :
    let t := q.fenceUnit (unitCode 0xA p) 0x0C true
    t.fenced (unitCode 0xA p) = true ∧ t.portState p = 4 ∧ (t.port p).step = 0 ∧ t.mem = q.mem := by
  dsimp only
  rw [fenceUnit_port q hp h]
  generalize hx : q.setFence (unitCode 0xA p) (some { cause := 0x0C }) = x
  obtain ⟨state, step, mem, fcl⟩ := portFence_spec x hp
  have quiet := degradedIrq_quiet (x.portFence p) q
  refine ⟨?_, ?_, ?_, ?_⟩
  · rw [fenced_port _ hp, fence_of_fcl (fcl_of_quiet quiet), fence_of_fcl fcl, ← hx, fence_setFence_same]; rfl
  · rw [portState_of_rd (degradedIrq_rd _ _ (LNK_PORT_STATUS_ge p)), state]
  · rw [port_of_quiet quiet, step]
  · rw [mem_of_quiet quiet, mem, ← hx, setFence_mem]

/-- A port taken out of its fence is DOWN, at the ladder's first step where it is enabled. -/
theorem portCleared_spec (q : State) {p : Nat} (hp : p < 4) :
    (q.portCleared p).fenced (unitCode 0xA p) = false ∧ (q.portCleared p).portState p = 0 ∧
      ((q.portCleared p).port p).step = b2n (q.flag (F.LNK_PORT_CTRL_EN p)) ∧ (q.portCleared p).mem = q.mem := by
  unfold State.portCleared
  generalize hx : q.setFence (unitCode 0xA p) none = x
  generalize b2n (q.flag (F.LNK_PORT_CTRL_EN p)) = step
  have quiet := degradedIrq_quiet ((x.setPortState p 0).portLadder p step) q
  have down := setPortState_quiet x p 0
  refine ⟨?_, ?_, ?_, ?_⟩
  · rw [fenced_port _ hp, fence_of_fcl (fcl_of_quiet quiet), fence_of_fcl (portLadder_fcl ..), fence_of_fcl (fcl_of_quiet down), ← hx,
      fence_setFence_same]; rfl
  · rw [portState_of_rd (degradedIrq_rd _ _ (LNK_PORT_STATUS_ge p)), portState_of_rd (portLadder_rd ..), portState_setPortState x hp (by decide)]
  · rw [port_of_quiet quiet, port_portLadder]
  · rw [mem_of_quiet quiet, portLadder_mem, mem_of_quiet down, ← hx, setFence_mem]

/-! ### The counters (R395) -/

theorem blockOf_portCount {p k : Nat} (hp : p < 4) (hk : k < 6) : blockOf (Reg.LNK_PORT_CRC p + 4 * k) = .lnk := by
  have all : ∀ p < 4, ∀ k < 6, blockOf (Reg.LNK_PORT_CRC p + 4 * k) = .lnk := by decide
  exact all p hp k hk

theorem exec_lnkPortCountWrite {s : State} {p k : Nat} {w : BusWrite} (hp : p < 4) (hk : k < 6)
    (hw : AdmittedPlain s (Reg.LNK_PORT_CRC p + 4 * k) w) :
    exec (.lnkPortCountWrite p k w) s = .next (s.wr (Reg.LNK_PORT_CRC p + 4 * k) 0) := by
  show execLnkPortCountWrite p k w s = _
  rw [execLnkPortCountWrite, if_pos hk, onPlain_lnk _ (blockOf_portCount hp hk) hw]

end Sys2Proof.Machine

namespace Sys2Proof

open Sys2Proof.Machine

/-- Each request of LNK_PORT_CTRL by its own equation, and the counters. -/
theorem portCommands_hold : Clause.PortCommands := by
  refine ⟨fun s p w c hp hc hw hen => ?_, fun s p k w hp hk hw => ?_⟩
  · have enable := stored_portEnable hp hw
    have kept := enable.trans hen
    have reaches : ∀ {t : State} {P : State → Prop}, s.portCtrl p w = t → P t → Reaches c s P := fun ht hP =>
      reaches_of_exec (ht ▸ exec_portCommand hc s) hP
    refine ⟨fun h0 h1 h2 hup => ⟨fun ok => ?_, fun no => ?_⟩, fun h0 h1 h2 hst hf => ⟨fun ok => ?_, fun no => ?_⟩,
      fun h0 h1 h2 hst => ?_, fun h0 h1 h2 => ?_⟩
    · exact reaches ((portCtrl_retrain hw kept h0 h1 h2 hup).trans (if_pos ok)) (portRetrain_spec _ hp)
    · exact reaches ((portCtrl_retrain hw kept h0 h1 h2 hup).trans (if_neg (ne_true_of_eq_false no))) (portRefused_spec _ p)
    · exact reaches ((portCtrl_fence hw kept h0 h1 h2 hst).trans (if_pos ok)) (portFenceUnit_spec _ hp hf)
    · exact reaches ((portCtrl_fence hw kept h0 h1 h2 hst).trans (if_neg (ne_true_of_eq_false no))) (portRefused_spec _ p)
    · exact reaches (portCtrl_clear hw kept h0 h1 h2 hst) (enable ▸ portCleared_spec _ hp)
    · exact reaches (portCtrl_none hw kept h0 h1 h2) rfl
  · exact reaches_of_exec (exec_lnkPortCountWrite hp hk hw)
      ⟨rd_wr_same .., onlyRegs_wr _ _ _ _ List.mem_cons_self, sameBeyondRegs_wr ..⟩

end Sys2Proof

/-! SUPPORT. The commands of the DUT lanes, case by case (14_weafy_lanes.md R396, R400, R402, R404). -/
namespace Sys2Proof.Machine

/-! ### A lane beside its registers -/

@[simp] theorem dlane_onDlane_same (s : State) (j : Nat) (g : DutLane → DutLane) : (s.onDlane j g).dlane j = g (s.dlane j) :=
  SMap.get_put_same ..
@[simp] theorem wr_dlane (s : State) (a : Nat) (v : Word) (j : Nat) : (s.wr a v).dlane j = s.dlane j := rfl
@[simp] theorem setF_dlane (s : State) (r : RF) (v j : Nat) : (s.setF r v).dlane j = s.dlane j := rfl
@[simp] theorem setFlag_dlane (s : State) (r : RF) (b : Bool) (j : Nat) : (s.setFlag r b).dlane j = s.dlane j := rfl
@[simp] theorem emit_dlane (s : State) (o : Out) (j : Nat) : (s.emit o).dlane j = s.dlane j := rfl

/-! ### The slip search (R402) -/

theorem blockOf_LNK_DL_SEARCH {j : Nat} (hj : j < 16) : blockOf (Reg.LNK_DL_SEARCH j) = .lnk := by
  have all : ∀ j < 16, blockOf (Reg.LNK_DL_SEARCH j) = .lnk := by decide
  exact all j hj

theorem rowOf_LNK_DL_SEARCH {j : Nat} (hj : j < 16) :
    rowOf (Reg.LNK_DL_SEARCH j) = some ⟨0x92014, [(16, 0x100)], 0xfffffff, 0, 0x80000000, 0, 0, 0⟩ := by
  have all : ∀ j < 16, rowOf (Reg.LNK_DL_SEARCH j) = some ⟨0x92014, [(16, 0x100)], 0xfffffff, 0, 0x80000000, 0, 0, 0⟩ := by
    decide +kernel
  exact all j hj

section search
variable {s : State} {j : Nat} {w : BusWrite}

/-- GO stays for its meaning to act on. -/
theorem stored_searchGo (hj : j < 16) (hw : Admitted s (Reg.LNK_DL_SEARCH j) w) :
    (stored s (Reg.LNK_DL_SEARCH j) w).flag (F.LNK_DL_SEARCH_GO j) = s.flag (F.LNK_DL_SEARCH_GO j) := by
  rw [flag_eq_getLsbD _ _ rfl, flag_eq_getLsbD _ _ rfl, stored_lnk (blockOf_LNK_DL_SEARCH hj) (rowOf_LNK_DL_SEARCH hj) rfl rfl hw]
  simp [F.LNK_DL_SEARCH_GO, RegRow.apply]

/-- Where a search may start: the receiver is RAW or FOLIO and its clock recovery is locked. -/
def State.searchable (q : State) (j : Nat) : Prop :=
  q.f (F.LNK_DL_CFG_RX_MODE j) ∈ [1, 6] ∧ q.flag (F.LNK_DL_STATUS_CDR_LOCK j) = true

/-- A search starts from the slip in force, or is refused with RESULT 4. -/
theorem lnkDlSearch_eq (hj : j < 16) (hw : Admitted s (Reg.LNK_DL_SEARCH j) w) (hb : w.bit 31 = true)
    (hgo : s.flag (F.LNK_DL_SEARCH_GO j) = false) :
    let q := stored s (Reg.LNK_DL_SEARCH j) w
    (q.searchable j → exec (.lnkDlSearch j w) s =
      .next ((q.onDlane j (fun x => { x with slipBefore := q.f (F.LNK_DL_SLIP_SLIP j) })).setFlag (F.LNK_DL_SEARCH_GO j) true)) ∧
    (¬ q.searchable j → exec (.lnkDlSearch j w) s = .next (q.setF (F.LNK_DL_SEARCH_RESULT j) 4)) := by
  have go := (stored_searchGo hj hw).trans hgo
  show (_ → execLnkDlSearch j w s = _) ∧ (_ → execLnkDlSearch j w s = _)
  rw [execLnkDlSearch, onWrite_of_admitted _ _ _ _ hw]
  unfold stored at *
  rw [if_pos (by simp [getLsbD_eq_bit, hb, go])]
  exact ⟨fun h => by rw [if_pos (by simpa [State.searchable] using h)],
    fun h => by rw [if_neg (by simpa [State.searchable] using h)]⟩

/-- The search ends at a slip with a result. -/
def State.searchEnded (s : State) (j slip result : Nat) : State :=
  ((s.setFlag (F.LNK_DL_SEARCH_GO j) false).setF (F.LNK_DL_SLIP_SLIP j) slip).setF (F.LNK_DL_SEARCH_RESULT j) result

theorem LNK_DL_SLIP_ne_SEARCH (j : Nat) : Reg.LNK_DL_SLIP j ≠ Reg.LNK_DL_SEARCH j := by unfold Reg.LNK_DL_SLIP Reg.LNK_DL_SEARCH; omega

theorem searchEnded_spec (s : State) (j : Nat) {slip result : Nat} (hs : slip < 4096) (hr : result < 8) :
    (s.searchEnded j slip result).flag (F.LNK_DL_SEARCH_GO j) = false ∧ (s.searchEnded j slip result).f (F.LNK_DL_SEARCH_RESULT j) = result ∧
      (s.searchEnded j slip result).f (F.LNK_DL_SLIP_SLIP j) = slip ∧ (s.searchEnded j slip result).mem = s.mem := by
  have hne := LNK_DL_SLIP_ne_SEARCH j
  unfold State.searchEnded
  refine ⟨?_, ?_, ?_, ?_⟩
  · rw [flag_setF_ne _ _ _ _ (by simp [F.LNK_DL_SEARCH_RESULT]) (by simp [F.LNK_DL_SEARCH_RESULT, F.LNK_DL_SEARCH_GO]),
      flag_setF_ne _ _ _ _ (by simp [F.LNK_DL_SLIP_SLIP]) (.inl hne.symm),
      flag_setFlag_same _ _ _ (by simp [F.LNK_DL_SEARCH_GO]) (by simp [F.LNK_DL_SEARCH_GO])]
  · rw [f_setF_same _ _ _ (by simp [F.LNK_DL_SEARCH_RESULT])]
    exact Nat.mod_eq_of_lt (by simp only [F.LNK_DL_SEARCH_RESULT]; omega)
  · rw [f_setF_ne _ _ _ _ (by simp [F.LNK_DL_SEARCH_RESULT]) (.inl hne), f_setF_same _ _ _ (by simp [F.LNK_DL_SLIP_SLIP])]
    exact Nat.mod_eq_of_lt (by simp only [F.LNK_DL_SLIP_SLIP]; omega)
  · rw [setF_mem, setF_mem, setFlag_mem]

theorem searchDone_idle (found : Option Nat) (noData : Bool) (h : s.flag (F.LNK_DL_SEARCH_GO j) = false) :
    exec (.searchDone j found noData) s = .next s := by
  show execSearchDone j found noData s = _
  rw [execSearchDone, if_pos (by simp [h])]

/-- A slip found within MAX stays. -/
theorem searchDone_found {k : Nat} (h : s.flag (F.LNK_DL_SEARCH_GO j) = true) (hk : k ≤ s.f (F.LNK_DL_SEARCH_MAX j)) :
    exec (.searchDone j (some k) false) s = .next (s.searchEnded j k 1) := by
  have kept : (s.setFlag (F.LNK_DL_SEARCH_GO j) false).f (F.LNK_DL_SEARCH_MAX j) = s.f (F.LNK_DL_SEARCH_MAX j) :=
    f_setF_ne _ _ _ _ (by simp [F.LNK_DL_SEARCH_GO]) (by simp [F.LNK_DL_SEARCH_GO, F.LNK_DL_SEARCH_MAX])
  show execSearchDone j (some k) false s = _
  rw [execSearchDone, if_neg (by simp [h])]
  dsimp only
  rw [kept, if_pos ⟨hk, rfl⟩, State.searchEnded]

/-- Without one the slip before the search returns. -/
theorem searchDone_none (noData : Bool) (h : s.flag (F.LNK_DL_SEARCH_GO j) = true) :
    exec (.searchDone j none noData) s = .next (s.searchEnded j (s.dlane j).slipBefore (if noData then 3 else 2)) := by
  show execSearchDone j none noData s = _
  rw [execSearchDone, if_neg (by simp [h])]
  dsimp only
  rw [setFlag_dlane, State.searchEnded]

end search

/-! ### The counts (R404) -/

theorem blockOf_LNK_DL_ERR {j : Nat} (hj : j < 16) : blockOf (Reg.LNK_DL_ERR j) = .lnk := by
  have all : ∀ j < 16, blockOf (Reg.LNK_DL_ERR j) = .lnk := by decide
  exact all j hj

theorem exec_lnkDlErrWrite {s : State} {j : Nat} {w : BusWrite} (hj : j < 16) (hw : AdmittedPlain s (Reg.LNK_DL_ERR j) w) :
    exec (.lnkDlErrWrite j w) s = .next ((s.onDlane j (fun x => { x with bits := 0, errs := 0 })).wr (Reg.LNK_DL_ERR j) 0) := by
  show execLnkDlErrWrite j w s = _
  rw [execLnkDlErrWrite, onPlain_lnk _ (blockOf_LNK_DL_ERR hj) hw]

/-- The counts of a read latched: n bits, e mismatches, and whether the bits had wrapped. -/
def State.countsLatched (s : State) (j n e : Nat) (wrap : Bool) : State :=
  (((((s.onDlane j (fun x => { x with bits := n, errs := e, wrap := false })).setF (F.LNK_DL_BITS_HI_HI j) (n / 2 ^ 32)).setFlag
    (F.LNK_DL_BITS_HI_WRAP j) wrap).wr (Reg.LNK_DL_BITS_LO j) (BitVec.ofNat 32 n)).wr (Reg.LNK_DL_ERR j) (BitVec.ofNat 32 e)).emit
    (.answer (Reg.LNK_DL_BITS_LO j) (n % 2 ^ 32))

theorem exec_lnkDlBitsRead (s : State) (j bits errs : Nat) : exec (.lnkDlBitsRead j bits errs) s =
    .next (s.countsLatched j (((s.dlane j).bits + bits) % 2 ^ 48)
      (if s.flag (F.LNK_DL_SEARCH_GO j) || (s.dlane j).stopped then (s.dlane j).errs else satAdd 0xFFFFFFFF (s.dlane j).errs errs)
      ((s.dlane j).wrap || decide (2 ^ 48 ≤ (s.dlane j).bits + bits))) := rfl

theorem LNK_DL_BITS_HI_ne_LO (j : Nat) : Reg.LNK_DL_BITS_HI j ≠ Reg.LNK_DL_BITS_LO j := by
  unfold Reg.LNK_DL_BITS_HI Reg.LNK_DL_BITS_LO; omega
theorem LNK_DL_BITS_HI_ne_ERR (j : Nat) : Reg.LNK_DL_BITS_HI j ≠ Reg.LNK_DL_ERR j := by
  unfold Reg.LNK_DL_BITS_HI Reg.LNK_DL_ERR; omega

theorem countsLatched_dlane (s : State) (j n e : Nat) (wrap : Bool) :
    (s.countsLatched j n e wrap).dlane j = { s.dlane j with bits := n, errs := e, wrap := false } := by
  simp [State.countsLatched]

/-- Of the upper bits' register, the fields read as latched. -/
theorem countsLatched_hi (s : State) (j e : Nat) (wrap : Bool) {n : Nat} (hn : n < 2 ^ 48) :
    (s.countsLatched j n e wrap).f (F.LNK_DL_BITS_HI_HI j) = n / 2 ^ 32 ∧
      (s.countsLatched j n e wrap).flag (F.LNK_DL_BITS_HI_WRAP j) = wrap := by
  have after : ∀ (t : State) (r : RF) (u v : Word) (o : Out), r.addr = Reg.LNK_DL_BITS_HI j →
      (((t.wr (Reg.LNK_DL_BITS_LO j) u).wr (Reg.LNK_DL_ERR j) v).emit o).f r = t.f r := fun t r u v o hr => by
    rw [emit_f, f_wr_ne _ _ _ (hr ▸ LNK_DL_BITS_HI_ne_ERR j), f_wr_ne _ _ _ (hr ▸ LNK_DL_BITS_HI_ne_LO j)]
  unfold State.countsLatched
  constructor
  · rw [after _ _ _ _ _ rfl, State.setFlag, f_setF_ne _ _ _ _ (by simp [F.LNK_DL_BITS_HI_WRAP])
      (by simp [F.LNK_DL_BITS_HI_WRAP, F.LNK_DL_BITS_HI_HI]), f_setF_same _ _ _ (by simp [F.LNK_DL_BITS_HI_HI])]
    exact Nat.mod_eq_of_lt (by simp only [F.LNK_DL_BITS_HI_HI]; omega)
  · rw [State.flag, after _ _ _ _ _ rfl]
    exact flag_setFlag_same _ _ _ (by simp [F.LNK_DL_BITS_HI_WRAP]) (by simp [F.LNK_DL_BITS_HI_WRAP])

theorem countsLatched_err (s : State) (j n e : Nat) (wrap : Bool) :
    (s.countsLatched j n e wrap).rd (Reg.LNK_DL_ERR j) = BitVec.ofNat 32 e := by
  rw [State.countsLatched, emit_rd, rd_wr_same]

theorem countsLatched_out (s : State) (j n e : Nat) (wrap : Bool) :
    (s.countsLatched j n e wrap).out = s.out ++ [.answer (Reg.LNK_DL_BITS_LO j) (n % 2 ^ 32)] := by
  rw [State.countsLatched, emit_out, wr_out, wr_out, setFlag_out, setF_out, onDlane_out]

theorem countsLatched_mem (s : State) (j n e : Nat) (wrap : Bool) : (s.countsLatched j n e wrap).mem = s.mem := by
  rw [State.countsLatched, emit_mem, wr_mem, wr_mem, setFlag_mem, setF_mem, onDlane_mem]

theorem countsLatched_onlyRegs (s : State) (j n e : Nat) (wrap : Bool) :
    OnlyRegs [Reg.LNK_DL_BITS_LO j, Reg.LNK_DL_BITS_HI j, Reg.LNK_DL_ERR j] s (s.countsLatched j n e wrap) := by
  intro a ha
  simp only [List.mem_cons, List.not_mem_nil, or_false, not_or] at ha
  obtain ⟨hlo, hhi, herr⟩ := ha
  rw [State.countsLatched, emit_rd, rd_wr_ne _ _ herr, rd_wr_ne _ _ hlo, rd_setFlag_ne _ _ _ hhi, rd_setF_ne _ _ _ hhi, onDlane_rd]

/-! ### The locks (R396, R400) -/

/-- A flag of LNK_DL_STATUS set or cleared: it reads so, and nothing else changes. -/
theorem dlStatus_setFlag_spec (s : State) (j : Nat) (r : RF) (b : Bool) (ha : r.addr = Reg.LNK_DL_STATUS j) (hr : r.lo + r.width ≤ 32)
    (hw : r.width ≠ 0) : (s.setFlag r b).flag r = b ∧ OnlyRegs [Reg.LNK_DL_STATUS j] s (s.setFlag r b) ∧ SameBeyondRegs s (s.setFlag r b) :=
  ⟨flag_setFlag_same s r b hr hw, onlyRegs_setF _ _ _ _ (by rw [ha]; exact List.mem_cons_self), sameBeyondRegs_setF ..⟩

theorem exec_cdrLock (s : State) (j : Nat) :
    exec (.cdrLock j) s = .next (if s.domOn (46 + j / 8) then s.setFlag (F.LNK_DL_STATUS_CDR_LOCK j) true else s) := rfl

theorem exec_prbsLock (s : State) (j : Nat) (lock : Bool) : exec (.prbsLock j lock) s =
    .next (if decide (s.f (F.LNK_DL_CFG_RX_MODE j) ∈ [2, 3, 4, 5]) && s.domOn (46 + j / 8) then s.setFlag (F.LNK_DL_STATUS_PRBS_LOCK j) lock
      else s) := rfl

/-- A lost lock clears CDR_LOCK and, on a FOLIO receiver, sets UNLOCK (R400). -/
theorem exec_cdrLockLost (s : State) (j : Nat) : exec (.cdrLockLost j) s =
    .next (let t := s.setFlag (F.LNK_DL_STATUS_CDR_LOCK j) false
      if s.f (F.LNK_DL_CFG_RX_MODE j) = 6 then t.setFlag (F.LNK_DL_STATUS_UNLOCK j) true else t) := by
  have mode : (s.setFlag (F.LNK_DL_STATUS_CDR_LOCK j) false).f (F.LNK_DL_CFG_RX_MODE j) = s.f (F.LNK_DL_CFG_RX_MODE j) :=
    f_wr_ne _ _ _ (by simp only [F.LNK_DL_CFG_RX_MODE, F.LNK_DL_STATUS_CDR_LOCK, Reg.LNK_DL_CFG, Reg.LNK_DL_STATUS]; omega)
  show execCdrLockLost j s = _
  unfold execCdrLockLost
  dsimp only
  rw [mode]

theorem reaches_cdrLockLost (s : State) (j : Nat) : Reaches (.cdrLockLost j) s (fun t => t.flag (F.LNK_DL_STATUS_CDR_LOCK j) = false ∧
    (s.f (F.LNK_DL_CFG_RX_MODE j) = 6 → t.flag (F.LNK_DL_STATUS_UNLOCK j) = true) ∧ OnlyRegs [Reg.LNK_DL_STATUS j] s t ∧
    SameBeyondRegs s t) := by
  obtain ⟨off, regs, beyond⟩ := dlStatus_setFlag_spec s j (F.LNK_DL_STATUS_CDR_LOCK j) false rfl
    (by simp [F.LNK_DL_STATUS_CDR_LOCK]) (by simp [F.LNK_DL_STATUS_CDR_LOCK])
  refine reaches_of_exec (exec_cdrLockLost s j) ?_
  dsimp only
  split
  · obtain ⟨on, regs', beyond'⟩ := dlStatus_setFlag_spec (s.setFlag (F.LNK_DL_STATUS_CDR_LOCK j) false) j (F.LNK_DL_STATUS_UNLOCK j) true
      rfl (by simp [F.LNK_DL_STATUS_UNLOCK]) (by simp [F.LNK_DL_STATUS_UNLOCK])
    refine ⟨?_, fun _ => on, regs.trans regs', beyond.trans beyond'⟩
    rw [flag_setFlag_ne _ _ _ _ (by simp [F.LNK_DL_STATUS_UNLOCK]) (by simp [F.LNK_DL_STATUS_UNLOCK, F.LNK_DL_STATUS_CDR_LOCK]), off]
  · exact ⟨off, fun h => absurd h ‹_›, regs, beyond⟩

end Sys2Proof.Machine

namespace Sys2Proof

open Sys2Proof.Machine

theorem dutLanes_hold : Clause.DutLanes := by
  intro s j hj
  refine ⟨fun w hw hb hgo => ⟨fun able => ?_, fun unable => ?_⟩, fun found noData h => ?_, fun h => ⟨fun k hk => ?_, fun noData hs => ?_⟩,
    fun w hw => ?_, fun bits errs => ?_, fun on => ?_, ?_, fun lock mode on => ?_, fun off lock => ⟨?_, ?_⟩⟩
  · refine reaches_of_exec ((lnkDlSearch_eq hj hw hb hgo).1 able) ⟨?_, ?_, ?_, ?_⟩
    · exact flag_setFlag_same _ _ _ (by simp [F.LNK_DL_SEARCH_GO]) (by simp [F.LNK_DL_SEARCH_GO])
    · rw [setFlag_dlane, dlane_onDlane_same]
    · exact onlyRegs_setF _ _ _ _ List.mem_cons_self
    · rw [setFlag_mem, onDlane_mem]
  · refine reaches_of_exec ((lnkDlSearch_eq hj hw hb hgo).2 unable) ⟨?_, ?_, ?_, sameBeyondRegs_setF ..⟩
    · exact f_setF_same _ _ _ (by simp [F.LNK_DL_SEARCH_RESULT])
    · rw [flag_setF_ne _ _ _ _ (by simp [F.LNK_DL_SEARCH_RESULT]) (by simp [F.LNK_DL_SEARCH_RESULT, F.LNK_DL_SEARCH_GO]),
        stored_searchGo hj hw, hgo]
    · exact onlyRegs_setF _ _ _ _ List.mem_cons_self
  · exact reaches_of_exec (searchDone_idle found noData h) rfl
  · have bound : s.f (F.LNK_DL_SEARCH_MAX j) < 2 ^ 12 := bitsAt_lt ..
    exact reaches_of_exec (searchDone_found h hk) (searchEnded_spec s j (by omega) (by decide))
  · exact reaches_of_exec (searchDone_none noData h) (searchEnded_spec s j hs (by split <;> decide))
  · refine reaches_of_exec (exec_lnkDlErrWrite hj hw) ⟨rd_wr_same .., ?_, ?_, ?_, ?_⟩
    · rw [wr_dlane, dlane_onDlane_same]
    · rw [wr_dlane, dlane_onDlane_same]
    · exact onlyRegs_wr _ _ _ _ List.mem_cons_self
    · rw [wr_mem, onDlane_mem]
  · have hn : ((s.dlane j).bits + bits) % 2 ^ 48 < 2 ^ 48 := Nat.mod_lt _ (by decide)
    obtain ⟨hi, wrap⟩ := countsLatched_hi s j
      (if s.flag (F.LNK_DL_SEARCH_GO j) || (s.dlane j).stopped then (s.dlane j).errs else satAdd 0xFFFFFFFF (s.dlane j).errs errs)
      ((s.dlane j).wrap || decide (2 ^ 48 ≤ (s.dlane j).bits + bits)) hn
    refine reaches_of_exec (exec_lnkDlBitsRead s j bits errs)
      ⟨by rw [countsLatched_dlane], by rw [countsLatched_dlane], countsLatched_out .., hi, wrap, fun hgo hrun => ?_,
        countsLatched_onlyRegs s j _ _ _, countsLatched_mem ..⟩
    rw [countsLatched_err, hgo, hrun]; rfl
  · exact reaches_of_exec ((exec_cdrLock s j).trans (by rw [if_pos on]))
      (dlStatus_setFlag_spec s j _ true rfl (by simp [F.LNK_DL_STATUS_CDR_LOCK]) (by simp [F.LNK_DL_STATUS_CDR_LOCK]))
  · exact reaches_cdrLockLost s j
  · exact reaches_of_exec ((exec_prbsLock s j lock).trans (by rw [if_pos (by simp only [mode, on, decide_true, Bool.and_self])]))
      (dlStatus_setFlag_spec s j _ lock rfl (by simp [F.LNK_DL_STATUS_PRBS_LOCK]) (by simp [F.LNK_DL_STATUS_PRBS_LOCK]))
  · exact reaches_of_exec (exec_cdrLock s j) (by rw [off]; rfl)
  · exact reaches_of_exec (exec_prbsLock s j lock) (by rw [off, Bool.and_false]; rfl)

/-- Settles O36: each request of a port and each command of a DUT lane has an equation per case, and what it leaves is read off the equation. -/
theorem laneCommands : Obligations.LaneCommands := ⟨portCommands_hold, dutLanes_hold⟩

end Sys2Proof

/-! SUPPORT. The rings of the host port: what a write to a ring, its messages and the requests to a host's ORIGIN leave of what the host
gave (16_host_rings_and_dma.md R440, R441, R448 to R452). -/
namespace Sys2Proof.Machine

/-! ### What the host gave -/

/-- The host's side of the rings is as it was: each ring's configuration, its last doorbell and the host's count; and so are the
stacks' bytes. -/
structure HostSideKept (s t : State) : Prop where
  mem : t.mem = s.mem
  host : ∀ k, (t.ring k).host = (s.ring k).host
  cfg : ∀ k, t.rd (Reg.HST_RING_CFG k) = s.rd (Reg.HST_RING_CFG k)
  db : ∀ k, t.rd (Reg.HST_RING_DB k) = s.rd (Reg.HST_RING_DB k)

theorem HostSideKept.refl (s : State) : HostSideKept s s := ⟨rfl, fun _ => rfl, fun _ => rfl, fun _ => rfl⟩

theorem HostSideKept.trans {s t u : State} (h : HostSideKept s t) (g : HostSideKept t u) : HostSideKept s u :=
  ⟨g.mem.trans h.mem, fun k => (g.host k).trans (h.host k), fun k => (g.cfg k).trans (h.cfg k), fun k => (g.db k).trans (h.db k)⟩

theorem hostSideKept_of_eq {s t : State} (mem : t.mem = s.mem) (hp : t.hp = s.hp) (regs : t.regs = s.regs) : HostSideKept s t := by
  refine ⟨mem, fun k => ?_, fun k => ?_, fun k => ?_⟩
  · rw [State.ring, State.ring, hp]
  · rw [State.rd, State.rd, regs]
  · rw [State.rd, State.rd, regs]

theorem HostSideKept.ringRuns {s t : State} (h : HostSideKept s t) (k : Nat) : t.ringRuns k = s.ringRuns k := by
  unfold State.ringRuns State.flag State.f F.HST_RING_CFG_EN; dsimp only
  rw [h.cfg]

theorem HostSideKept.doorbell {s t : State} (h : HostSideKept s t) (k : Nat) : t.f (F.HST_RING_DB_DB k) = s.f (F.HST_RING_DB_DB k) := by
  simp only [State.f, F.HST_RING_DB_DB, h.db]

/-- A register that is no ring's configuration and no ring's doorbell. -/
def besideHostSide (a : Nat) : Prop := ∀ k, Reg.HST_RING_CFG k ≠ a ∧ Reg.HST_RING_DB k ≠ a

theorem besideHostSide_ptr (r : Nat) : besideHostSide (Reg.HST_RING_PTR r) := fun k => by
  simp only [Reg.HST_RING_CFG, Reg.HST_RING_DB, Reg.HST_RING_PTR]; omega
theorem besideHostSide_status (r : Nat) : besideHostSide (Reg.HST_RING_STATUS r) := fun k => by
  simp only [Reg.HST_RING_CFG, Reg.HST_RING_DB, Reg.HST_RING_STATUS]; omega
theorem besideHostSide_pba {j : Nat} (hj : j < 2) : besideHostSide (Reg.HST_MSIX_PBA j) := fun k => by
  simp only [Reg.HST_RING_CFG, Reg.HST_RING_DB, Reg.HST_MSIX_PBA]; omega
theorem besideHostSide_originStatus {h : Nat} (hh : h < 16) : besideHostSide (Reg.HST_ORIGIN_STATUS h) := fun k => by
  simp only [Reg.HST_RING_CFG, Reg.HST_RING_DB, Reg.HST_ORIGIN_STATUS]; omega

theorem hostSideKept_setF (s : State) {f : RF} (v : Nat) (h : besideHostSide f.addr) : HostSideKept s (s.setF f v) :=
  ⟨rfl, fun _ => rfl, fun k => rd_setF_ne _ _ _ (h k).1, fun k => rd_setF_ne _ _ _ (h k).2⟩

theorem hostSideKept_onRing (s : State) (r : Nat) {g : Ring → Ring} (hg : (g (s.ring r)).host = (s.ring r).host) :
    HostSideKept s (s.onRing r g) := by
  refine ⟨rfl, fun k => ?_, fun _ => rfl, fun _ => rfl⟩
  by_cases hk : k = r
  · rw [hk, ring_onRing_same, hg]
  · rw [ring_onRing_ne s g hk]

/-! ### Writing entries -/

/-- A write to host memory is only sent (R462). -/
theorem hostStore_eq (base : Nat) (bad : Nat → Bool) : ∀ (fuel a : Nat) (bs : List Byte) (s : State),
    ∃ l, s.hostStore base bad fuel a bs = { s with out := l }
  | 0, _, _, s => ⟨s.out, rfl⟩
  | _ + 1, _, [], s => ⟨s.out, rfl⟩
  | fuel + 1, a, b :: bs, s => by
    obtain ⟨l, hl⟩ := hostStore_eq base bad fuel (a + tlpLen s.mps a (b :: bs).length) ((b :: bs).drop (tlpLen s.mps a (b :: bs).length))
      (s.emit (.hostWrite a ((b :: bs).take (tlpLen s.mps a (b :: bs).length))
        ((List.range (tlpLen s.mps a (b :: bs).length)).any (fun i => bad (a - base + i)))))
    exact ⟨l, hl⟩

theorem hostPut_hostSideKept (s : State) (a : Nat) (bs : List Byte) : HostSideKept s (s.hostPut a bs) := by
  obtain ⟨l, hl⟩ := hostStore_eq a (fun _ => false) bs.length a bs s
  rw [State.hostPut, hl]
  exact hostSideKept_of_eq rfl rfl rfl

theorem hostPut_lib (s : State) (a : Nat) (bs : List Byte) : (s.hostPut a bs).lib = s.lib := by
  obtain ⟨l, hl⟩ := hostStore_eq a (fun _ => false) bs.length a bs s
  rw [State.hostPut, hl]

/-- A message of a vector below 64 is sent, or pending in one of the two PBA registers (R451). -/
theorem signal_hostSideKept (s : State) {v : Nat} (hv : v < 64) : HostSideKept s (s.signal v) := by
  unfold State.signal; split
  · exact hostSideKept_of_eq rfl rfl rfl
  · exact hostSideKept_setF s _ (besideHostSide_pba (by omega))

theorem ringSignal_hostSideKept (s : State) (r : Nat) : HostSideKept s (s.ringSignal r) :=
  (hostSideKept_onRing s r rfl).trans (signal_hostSideKept _ (bitsAt_lt _ 0 6))

theorem ringSignal_lib (s : State) (r : Nat) : (s.ringSignal r).lib = s.lib := by
  rw [State.ringSignal, signal_lib, onRing_lib]

theorem ringShow_hostSideKept (s : State) (r : Nat) : HostSideKept s (s.ringShow r) :=
  (hostSideKept_setF s _ (besideHostSide_status r)).trans (hostSideKept_setF _ _ (besideHostSide_status r))

theorem ringShow_lib (s : State) (r : Nat) : (s.ringShow r).lib = s.lib := by
  rw [State.ringShow, setF_lib, setF_lib]

theorem ringWrite_hostSideKept (s : State) (r : Nat) (bs : List Byte) (now : Bool) : HostSideKept s (s.ringWrite r bs now) := by
  unfold State.ringWrite; extract_lets c bs' p q
  have kept : HostSideKept s q := (hostPut_hostSideKept s _ _).trans <| (hostSideKept_setF p _ (besideHostSide_ptr r)).trans <|
    (hostSideKept_onRing _ r rfl).trans (ringShow_hostSideKept _ r)
  split
  · exact kept.trans (ringSignal_hostSideKept q r)
  · exact kept

theorem ringWrite_lib (s : State) (r : Nat) (bs : List Byte) (now : Bool) : (s.ringWrite r bs now).lib = s.lib := by
  unfold State.ringWrite; dsimp only
  split
  · rw [ringSignal_lib, ringShow_lib, onRing_lib, setF_lib, hostPut_lib]
  · rw [ringShow_lib, onRing_lib, setF_lib, hostPut_lib]

/-- The backlog leaves (R448): the host's side and the library stay. -/
theorem ringFlush_spec (r : Nat) : ∀ (fuel : Nat) (s : State), HostSideKept s (s.ringFlush r fuel) ∧ (s.ringFlush r fuel).lib = s.lib := by
  intro fuel
  induction fuel with
  | zero => exact fun s => ⟨.refl s, rfl⟩
  | succ fuel ih =>
    intro s
    unfold State.ringFlush
    split
    · exact ⟨.refl s, rfl⟩
    · rename_i bs now rest _
      split
      · obtain ⟨kept, lib⟩ := ih (((s.onRing r (fun x => { x with backlog := rest })).ringWrite r bs now).ringShow r)
        exact ⟨(hostSideKept_onRing s r rfl).trans <| (ringWrite_hostSideKept _ r bs now).trans <|
            (ringShow_hostSideKept _ r).trans kept,
          by rw [lib, ringShow_lib, ringWrite_lib, onRing_lib]⟩
      · exact ⟨.refl s, rfl⟩

/-! ### Requests that wait (R452) -/

theorem onReq_hostSideKept (s : State) (tag : Nat) (g : OriginReq → OriginReq) : HostSideKept s (s.onReq tag g) :=
  hostSideKept_of_eq rfl rfl rfl

/-- A request to a host's ORIGIN becomes an entry of a REQUEST ring, or waits (R452). -/
theorem sendRequest_hostSideKept (s : State) {q : OriginReq} (hq : 2 ≤ q.addr / 2 ^ 50) : HostSideKept s (s.sendRequest q) := by
  have shown : HostSideKept s (s.showOrigin (bitsAt q.addr 46 4)) :=
    hostSideKept_setF s _ (besideHostSide_originStatus (bitsAt_lt _ 46 4))
  unfold State.sendRequest
  split
  · omega
  · omega
  · dsimp only; split
    · exact shown.trans <| (ringWrite_hostSideKept ..).trans (onReq_hostSideKept ..)
    · exact shown.trans (onReq_hostSideKept ..)

theorem eachOf_hostSideKept {α : Type} {act : α → State → State} : ∀ (l : List α) (s : State),
    (∀ a ∈ l, ∀ t, HostSideKept t (act a t)) → HostSideKept s (s.eachOf l act) := by
  intro l
  induction l with
  | nil => exact fun s _ => .refl s
  | cons a l ih =>
    intro s h
    exact (h a List.mem_cons_self s).trans (ih _ (fun b hb => h b (List.mem_cons_of_mem a hb)))

/-- Waiting requests of host origins are written as entries free. -/
theorem originRetry_hostSideKept (s : State) (r : Nat) (hosts : ∀ q ∈ s.lib.reqs, q.waiting = true → 2 ≤ q.addr / 2 ^ 50) :
    HostSideKept s (s.originRetry r) := by
  refine eachOf_hostSideKept _ s (fun q hq t => ?_)
  obtain ⟨mem, picked⟩ := List.mem_filter.1 hq
  split
  · exact sendRequest_hostSideKept t (hosts q mem (Bool.and_eq_true _ _ ▸ picked).1)
  · exact .refl t

/-! ### A ring stops (R446) -/

theorem ringStop_spec (s : State) (r : Nat) {cause : Nat} (hc : cause < 256) : (s.ringStop r cause).ringRuns r = false ∧
    (s.ringStop r cause).f (F.HST_RING_STATUS_STOP r) = cause ∧
    (s.ringStop r cause).f (F.HST_RING_DB_DB r) = s.f (F.HST_RING_DB_DB r) ∧ (s.ringStop r cause).hp = s.hp ∧
    (s.ringStop r cause).mem = s.mem := by
  have cfg : Reg.HST_RING_CFG r ≠ Reg.HST_RING_STATUS r := (besideHostSide_status r r).1
  have db : Reg.HST_RING_DB r ≠ Reg.HST_RING_STATUS r := (besideHostSide_status r r).2
  have cfgdb : Reg.HST_RING_DB r ≠ Reg.HST_RING_CFG r := by simp only [Reg.HST_RING_CFG, Reg.HST_RING_DB]; omega
  unfold State.ringStop State.ringRuns
  refine ⟨?_, ?_, ?_, by rw [setF_hp, setF_hp, setFlag_hp], by rw [setF_mem, setF_mem, setFlag_mem]⟩
  · rw [flag_setF_ne _ _ _ _ (by simp [F.HST_RING_STATUS_STATE]) (.inl cfg), flag_setF_ne _ _ _ _ (by simp [F.HST_RING_STATUS_STOP]) (.inl cfg)]
    exact flag_setFlag_same _ _ _ (by simp [F.HST_RING_CFG_EN]) (by simp [F.HST_RING_CFG_EN])
  · rw [f_setF_ne _ _ _ _ (by simp [F.HST_RING_STATUS_STATE]) (by simp [F.HST_RING_STATUS_STATE, F.HST_RING_STATUS_STOP]),
      f_setF_same _ _ _ (by simp [F.HST_RING_STATUS_STOP])]
    exact Nat.mod_eq_of_lt hc
  · rw [f_setF_ne _ _ _ _ (by simp [F.HST_RING_STATUS_STATE]) (.inl db), f_setF_ne _ _ _ _ (by simp [F.HST_RING_STATUS_STOP]) (.inl db)]
    exact f_setF_ne _ _ _ _ (by simp [F.HST_RING_CFG_EN]) (.inl cfgdb)

end Sys2Proof.Machine

/-! SUPPORT. DOORBELL, case by case, and O42 (16_host_rings_and_dma.md R441). -/
namespace Sys2Proof.Machine

/-- The state that shows the doorbell and has done no more. -/
def State.rung (s : State) (r v : Nat) : State := s.setF (F.HST_RING_DB_DB r) (v % 65536)

theorem rung_f (s : State) (r v : Nat) {x : RF} (h : x.addr ≠ Reg.HST_RING_DB r) : (s.rung r v).f x = s.f x := f_wr_ne _ _ _ h

theorem rung_doorbell (s : State) (r v : Nat) : (s.rung r v).f (F.HST_RING_DB_DB r) = v % 65536 := by
  rw [State.rung, f_setF_same _ _ _ (by simp [F.HST_RING_DB_DB])]
  exact Nat.mod_mod _ _

theorem rung_mem (s : State) (r v : Nat) : (s.rung r v).mem = s.mem := setF_mem ..
theorem rung_lib (s : State) (r v : Nat) : (s.rung r v).lib = s.lib := setF_lib ..
theorem rung_hp (s : State) (r v : Nat) : (s.rung r v).hp = s.hp := setF_hp ..
theorem rung_ringKind (s : State) (r v : Nat) : (s.rung r v).ringKind r = s.ringKind r :=
  rung_f s r v (by simp [F.HST_RING_CFG_KIND, Reg.HST_RING_CFG, Reg.HST_RING_DB])
theorem rung_ringCount (s : State) (r v : Nat) : (s.rung r v).ringCount r = s.ringCount r :=
  rung_f s r v (by simp [F.HST_RING_PTR_PTR, Reg.HST_RING_PTR, Reg.HST_RING_DB])
theorem rung_ringEntries (s : State) (r v : Nat) : (s.rung r v).ringEntries r = s.ringEntries r :=
  congrArg (2 ^ ·) (rung_f s r v (by simp [F.HST_RING_CFG_SIZE_LOG2, Reg.HST_RING_CFG, Reg.HST_RING_DB]))
theorem rung_ringRuns (s : State) (r v : Nat) : (s.rung r v).ringRuns r = s.ringRuns r := by
  simp only [State.ringRuns, State.flag, rung_f s r v (x := F.HST_RING_CFG_EN r) (by simp [F.HST_RING_CFG_EN, Reg.HST_RING_CFG, Reg.HST_RING_DB])]

/-- A tail taken: the host's count, and the re-reads of the entry begin anew (R441, R445). -/
def State.tailTaken (s : State) (r v : Nat) : State := (s.rung r v).onRing r (fun x => { x with host := v % 65536, rereads := 0 })

/-- A head taken: the host's count, then the entries that wait for the ones it frees (R441, R448, R452). -/
def State.headTaken (s : State) (r v : Nat) : State :=
  let q := (s.rung r v).onRing r (fun x => { x with host := v % 65536 })
  (q.ringFlush r (q.ring r).backlog.length).originRetry r

theorem exec_doorbell_ignored {s : State} {r v : Nat} (h : s.mode = .cold ∨ s.mode = .standby ∨ s.ringRuns r = false) :
    exec (.doorbell r v) s = .next s :=
  congrArg Host.Outcome.next (if_pos h)

/-- A doorbell of a running ring, by the ring's kind and how far ahead the count lies. -/
theorem exec_doorbell {s : State} {r v : Nat} (hc : s.mode ≠ .cold) (hs : s.mode ≠ .standby) (on : s.ringRuns r = true) :
    exec (.doorbell r v) s = .next (
    if s.ringKind r = 0 then
      if s.ringEntries r < (v % 65536 + 65536 - s.ringCount r) % 65536 then (s.rung r v).ringStop r 2
      else s.tailTaken r v
    else if s.ringEntries r < (s.ringCount r + 65536 - v % 65536) % 65536 then (s.rung r v).ringStop r 2
    else s.headTaken r v) := by
  have runs : ¬ (s.mode = .cold ∨ s.mode = .standby ∨ s.ringRuns r = false) := by simp [hc, hs, on]
  rw [← rung_ringKind s r v, ← rung_ringCount s r v, ← rung_ringEntries s r v]
  exact congrArg Host.Outcome.next (if_neg runs)

/-- What a taken tail leaves. -/
theorem tailTaken_spec (s : State) (r v : Nat) :
    ((s.tailTaken r v).ring r).host = v % 65536 ∧ (s.tailTaken r v).f (F.HST_RING_DB_DB r) = v % 65536 ∧
      OnlyRegs [Reg.HST_RING_DB r] s (s.tailTaken r v) ∧ (s.tailTaken r v).mem = s.mem := by
  unfold State.tailTaken
  refine ⟨?_, ?_, fun a ha => ?_, ?_⟩
  · rw [ring_onRing_same]
  · rw [onRing_f, rung_doorbell]
  · rw [onRing_rd]; exact onlyRegs_setF s _ (F.HST_RING_DB_DB r) _ List.mem_cons_self a ha
  · rw [onRing_mem, rung_mem]

/-- What a taken head leaves. -/
theorem headTaken_spec (s : State) (r v : Nat) (on : s.ringRuns r = true)
    (hosts : ∀ q ∈ s.lib.reqs, q.waiting = true → 2 ≤ q.addr / 2 ^ 50) :
    ((s.headTaken r v).ring r).host = v % 65536 ∧ (s.headTaken r v).f (F.HST_RING_DB_DB r) = v % 65536 ∧
      (s.headTaken r v).ringRuns r = true ∧ (s.headTaken r v).mem = s.mem := by
  unfold State.headTaken; extract_lets q
  obtain ⟨flushed, lib⟩ := ringFlush_spec r (q.ring r).backlog.length q
  have kept := flushed.trans (originRetry_hostSideKept _ r (by rw [lib, onRing_lib, rung_lib]; exact hosts))
  refine ⟨?_, ?_, ?_, ?_⟩
  · rw [kept.host, ring_onRing_same]
  · rw [kept.doorbell, onRing_f, rung_doorbell]
  · rw [kept.ringRuns, State.ringRuns, onRing_flag]; exact (rung_ringRuns s r v).trans on
  · rw [kept.mem, onRing_mem, rung_mem]

/-- What a count too far ahead leaves: the ring stopped with STOP = DOORBELL. -/
theorem rungStop_spec (s : State) (r v : Nat) :
    ((s.rung r v).ringStop r 2).ringRuns r = false ∧ ((s.rung r v).ringStop r 2).f (F.HST_RING_STATUS_STOP r) = 2 ∧
      ((s.rung r v).ringStop r 2).f (F.HST_RING_DB_DB r) = v % 65536 ∧ ((s.rung r v).ringStop r 2).hp = s.hp ∧
      ((s.rung r v).ringStop r 2).mem = s.mem := by
  obtain ⟨stopped, stop, shown, hp, mem⟩ := ringStop_spec (s.rung r v) r (cause := 2) (by decide)
  exact ⟨stopped, stop, shown.trans (rung_doorbell s r v), hp.trans (rung_hp s r v), mem.trans (rung_mem s r v)⟩

end Sys2Proof.Machine

namespace Sys2Proof

open Sys2Proof.Machine

/-- Settles O42: an equation for the ignored doorbell and one for the others; each end (tail taken, head taken, ring stopped) has
its own lemma of what it leaves. -/
theorem doorbells : Obligations.Doorbells := by
  intro s r v _
  refine ⟨fun off => reaches_of_exec (exec_doorbell_ignored off) rfl, fun hc hs on => ?_⟩
  have rings := exec_doorbell (v := v) hc hs on
  refine ⟨fun submit within => ?_, fun other within hosts => ?_, fun ahead => ?_⟩
  · rw [if_pos submit, if_neg (Nat.not_lt.2 within)] at rings
    exact reaches_of_exec rings (tailTaken_spec s r v)
  · rw [if_neg other, if_neg (Nat.not_lt.2 within)] at rings
    exact reaches_of_exec rings (headTaken_spec s r v on hosts)
  · by_cases submit : s.ringKind r = 0
    · rw [if_pos submit] at ahead rings
      rw [if_pos ahead] at rings
      exact reaches_of_exec rings (rungStop_spec s r v)
    · rw [if_neg submit] at ahead rings
      rw [if_pos ahead] at rings
      exact reaches_of_exec rings (rungStop_spec s r v)

end Sys2Proof

/-! SUPPORT. What a boundary instruction of the test access port needs of the operations of a Safe entry: none of them changes the TAP, the
stored mode or a channel's PATH but where Safe entry itself does (02_modes_and_startup.md R47, R50, 03_pin_channels.md R86). -/
namespace Sys2Proof.Machine

/-! ### The pin side -/

/-- What a boundary instruction acts on: the TAP, whether Cold is in force, the stored mode, and every channel's PATH. -/
@[ext] structure PinSide where
  tap : Tap
  cold : Bool
  mode : Nat
  path : Nat → Nat

/-- The pin side of a state. -/
def State.pinSide (s : State) : PinSide where
  tap := s.tap
  cold := s.sys.cold
  mode := s.f F.SYS_MODE_MODE
  path ch := s.f (F.CHN_CTRL_PATH ch)

/-- A register that is neither SYS_MODE nor any channel's CHN_CTRL. -/
def besidePins (a : Nat) : Prop := a ≠ Reg.SYS_MODE ∧ ∀ ch, a ≠ Reg.CHN_CTRL ch

/-- SYS_MODE and every CHN_CTRL lie at multiples of 64. -/
theorem besidePins_of_mod {a : Nat} (h : a % 64 ≠ 0) : besidePins a := by
  refine ⟨fun e => h (by rw [e]; rfl), fun ch e => h ?_⟩
  simp only [e, Reg.CHN_CTRL, chnBase, bayBase]; omega

/-- The chip's registers above SYS_MODE lie below every channel's (Table 23-1). -/
theorem besidePins_chip {a : Nat} (h : Reg.SYS_MODE < a) (hlt : a < 0x180000) : besidePins a := by
  refine ⟨Nat.ne_of_gt h, fun ch e => ?_⟩
  simp only [e, Reg.CHN_CTRL, chnBase, bayBase] at hlt; omega

/-- A slice's own registers lie below the channels of its bay. -/
theorem besidePins_slice (b : Nat) : besidePins (Reg.LDG_SLICE_STATUS b) := by
  refine ⟨?_, fun ch => ?_⟩
  · simp only [Reg.LDG_SLICE_STATUS, Reg.SYS_MODE, bayBase]; omega
  · simp only [Reg.LDG_SLICE_STATUS, Reg.CHN_CTRL, chnBase, bayBase]; omega

/-- A field's write, seen from the pin side. -/
theorem setF_pinSide_eq (s : State) (r : RF) (v : Nat) {p : PinSide} (tap : s.tap = p.tap) (cold : s.sys.cold = p.cold)
    (mode : (s.setF r v).f F.SYS_MODE_MODE = p.mode) (path : ∀ ch, (s.setF r v).f (F.CHN_CTRL_PATH ch) = p.path ch) :
    (s.setF r v).pinSide = p :=
  PinSide.ext tap cold mode (funext path)

theorem wr_pinSide (s : State) {a : Nat} (v : Word) (h : besidePins a) : (s.wr a v).pinSide = s.pinSide :=
  PinSide.ext rfl rfl (f_wr_ne s _ v h.1.symm) (funext fun ch => f_wr_ne s _ v (h.2 ch).symm)

theorem setF_pinSide (s : State) {r : RF} (v : Nat) (h : besidePins r.addr) : (s.setF r v).pinSide = s.pinSide := wr_pinSide s _ h
theorem setFlag_pinSide (s : State) {r : RF} (b : Bool) (h : besidePins r.addr) : (s.setFlag r b).pinSide = s.pinSide := wr_pinSide s _ h
theorem satInc_pinSide (s : State) {r : RF} (h : besidePins r.addr) : (s.satInc r).pinSide = s.pinSide := wr_pinSide s _ h

theorem CHN_CTRL_ne_SYS_MODE (ch : Nat) : Reg.CHN_CTRL ch ≠ Reg.SYS_MODE := by
  simp only [Reg.CHN_CTRL, Reg.SYS_MODE, chnBase, bayBase]; omega

/-- The other fields of SYS_MODE lie above MODE (Table 2-3). -/
theorem setF_pinSide_sysMode (s : State) {r : RF} (v : Nat) (addr : r.addr = Reg.SYS_MODE) (lo : 4 ≤ r.lo) (hi : r.lo + r.width ≤ 32) :
    (s.setF r v).pinSide = s.pinSide :=
  setF_pinSide_eq s r v rfl rfl (f_setF_ne s r _ v hi (.inr (.inl lo)))
    (fun ch => f_setF_ne s r _ v hi (.inl (addr ▸ CHN_CTRL_ne_SYS_MODE ch)))

/-- The stored mode is written. -/
theorem setF_pinSide_mode (s : State) {v : Nat} (hv : v < 16) : (s.setF F.SYS_MODE_MODE v).pinSide = { s.pinSide with mode := v } := by
  refine setF_pinSide_eq s F.SYS_MODE_MODE v rfl rfl ?_ (fun ch => ?_)
  · exact (f_setF_same s F.SYS_MODE_MODE v (by decide)).trans (Nat.mod_eq_of_lt hv)
  · exact f_setF_ne s F.SYS_MODE_MODE _ v (by decide) (.inl (CHN_CTRL_ne_SYS_MODE ch))

/-! ### What writes no register -/

theorem noTarget_pinSide (s : State) : ({ s with sys := { s.sys with target := none } } : State).pinSide = s.pinSide := rfl
theorem noTest_pinSide (s : State) :
    ({ s with sys := { s.sys with target := none, testNow := none, testsLeft := [] } } : State).pinSide = s.pinSide := rfl
theorem setEntry_pinSide (s : State) (k : Nat) (e : FaultEntry) : (s.setEntry k e).pinSide = s.pinSide := rfl
theorem setStream_pinSide (s : State) (k : Nat) (x : Stream) : (s.setStream k x).pinSide = s.pinSide := rfl
theorem setSiteCount_pinSide (s : State) (k : Nat) (x : SiteCount) : (s.setSiteCount k x).pinSide = s.pinSide := rfl
theorem onCtx_pinSide (s : State) (c : Nat) (g : Ctx → Ctx) : (s.onCtx c g).pinSide = s.pinSide := rfl
theorem setChan_pinSide (s : State) (ch : Nat) (x : Chan) : (s.setChan ch x).pinSide = s.pinSide := rfl
theorem onChan_pinSide (s : State) (ch : Nat) (g : Chan → Chan) : (s.onChan ch g).pinSide = s.pinSide := rfl
theorem onPmu_pinSide (s : State) (ch : Nat) (g : Pmu → Pmu) : (s.onPmu ch g).pinSide = s.pinSide := rfl
theorem onAcq_pinSide (s : State) (e : Nat) (g : Acq → Acq) : (s.onAcq e g).pinSide = s.pinSide := rfl
theorem onTim_pinSide (s : State) (t : Nat) (g : Tim → Tim) : (s.onTim t g).pinSide = s.pinSide := rfl
theorem onCal_pinSide (s : State) (b : Nat) (g : Cal → Cal) : (s.onCal b g).pinSide = s.pinSide := rfl
theorem onDlane_pinSide (s : State) (j : Nat) (g : DutLane → DutLane) : (s.onDlane j g).pinSide = s.pinSide := rfl

/-! ### Loops over some of the indices -/

theorem eachOf_keep_mem {α β : Type} (v : State → β) {act : α → State → State} : ∀ {l : List α},
    (∀ a ∈ l, ∀ s, v (act a s) = v s) → ∀ s, v (s.eachOf l act) = v s := by
  intro l
  induction l with
  | nil => exact fun _ _ => rfl
  | cons a l ih =>
    intro h s
    exact (ih (fun b hb => h b (List.mem_cons_of_mem a hb)) _).trans (h a List.mem_cons_self s)

theorem each_keep_lt {β : Type} (v : State → β) {act : Nat → State → State} {n : Nat} (h : ∀ i < n, ∀ s, v (act i s) = v s) (s : State) :
    v (s.each n act) = v s :=
  eachOf_keep_mem v (l := List.range n) (fun i hi => h i (List.mem_range.1 hi)) s

theorem each_succ (s : State) (n : Nat) (act : Nat → State → State) : s.each (n + 1) act = act n (s.each n act) := by
  simp only [State.each, List.range_succ, List.foldl_append, List.foldl_cons, List.foldl_nil]

/-! ### Interrupts and faults -/

theorem signal_pinSide (s : State) {v : Nat} (hv : v < 64) : (s.signal v).pinSide = s.pinSide := by
  unfold State.signal; split
  · rfl
  · exact setFlag_pinSide s true (besidePins_chip (by simp only [Reg.SYS_MODE, Reg.HST_MSIX_PBA]; omega)
      (by simp only [Reg.HST_MSIX_PBA]; omega))

theorem irq_pinSide (s : State) {n : Nat} (hn : n < 0x400) : (s.irq n).pinSide = s.pinSide := by
  have count : ∀ v, (s.setF (F.IRQ_SRC_CNT_COUNT n) v).pinSide = s.pinSide := fun v =>
    setF_pinSide s v (besidePins_chip (by simp only [F.IRQ_SRC_CNT_COUNT, Reg.SYS_MODE, Reg.IRQ_SRC_CNT]; omega)
      (by simp only [F.IRQ_SRC_CNT_COUNT, Reg.IRQ_SRC_CNT]; omega))
  unfold State.irq; dsimp only
  split
  · rfl
  · split
    · exact (signal_pinSide _ (bitsAt_lt _ 0 6)).trans (count _)
    · exact count _

theorem modeIrq_pinSide (s s0 : State) : (s.modeIrq s0).pinSide = s.pinSide := by
  unfold State.modeIrq; split
  · rfl
  · exact irq_pinSide s (by decide)

theorem modeResult_pinSide (s : State) (seq r : Nat) : (s.modeResult seq r).pinSide = s.pinSide := by
  unfold State.modeResult
  rw [irq_pinSide _ (by decide), setF_pinSide_sysMode _ _ rfl (by decide) (by decide), setF_pinSide_sysMode _ _ rfl (by decide) (by decide)]

theorem logRecord_pinSide (s : State) (kind cls unit cause mode : Nat) (esc : Bool) (detail reset boot : Nat) :
    (s.logRecord kind cls unit cause mode esc detail reset boot).pinSide = s.pinSide := by
  unfold State.logRecord; extract_lets n
  split
  · exact satInc_pinSide s (besidePins_chip (by decide) (by decide))
  · rename_i flags body slot a w s1 s2 _
    have queued : s2.pinSide = s.pinSide := rfl
    split
    · exact (irq_pinSide s2 (by decide)).trans queued
    · exact queued

/-- A fault of one of the four classes is entered (R534). -/
theorem enter_pinSide (s : State) (u cause : Nat) {cls : Nat} (detail : Nat) (cond : Condition) (esc : Bool) (h : cls < 4) :
    (s.enter u cause cls detail cond esc).pinSide = s.pinSide := by
  unfold State.enter; extract_lets q
  have listed : ∀ k e, (q.setEntry k e).pinSide = s.pinSide := fun k e => (setEntry_pinSide q k e).trans (irq_pinSide s (by omega))
  split
  · extract_lets e t
    split
    · exact (logRecord_pinSide ..).trans (listed _ _)
    · exact listed _ _
  · split
    · extract_lets t
      split
      · exact (logRecord_pinSide ..).trans (listed _ _)
      · exact listed _ _
    · exact (satInc_pinSide _ (r := F.FCL_LOST_LOST) (besidePins_chip (by decide) (by decide))).trans (listed _ _)

/-! ### Records of the Ledger -/

theorem takeSeq_pinSide (s : State) (k : Nat) : (s.takeSeq k).2.pinSide = s.pinSide :=
  wr_pinSide s _ (besidePins_of_mod (by simp only [Reg.LDG_STR_SEQ, bayBase]; omega))

theorem lose_pinSide (s : State) (k : Nat) : (s.lose k).pinSide = s.pinSide :=
  (setStream_pinSide ..).trans <| satInc_pinSide s (r := F.LDG_STR_LOST_LOST (k / 21) (k % 21))
    (besidePins_of_mod (by simp only [F.LDG_STR_LOST_LOST, Reg.LDG_STR_LOST, bayBase]; omega))

theorem requestHalt_pinSide (s : State) (c : Nat) : (s.requestHalt c).pinSide = s.pinSide := by
  unfold State.requestHalt State.haltRegistered
  split
  · split <;> rfl
  · rfl

theorem overQuota_pinSide (s : State) {site : Nat} (c : Nat) (h : site < 64) : (s.overQuota site c).pinSide = s.pinSide := by
  have status : ∀ (t : State) (r : RF) (b : Bool), r.addr = Reg.LDG_SITE_STATUS site → (t.setFlag r b).pinSide = t.pinSide :=
    fun t r b hr => setFlag_pinSide t b (besidePins_of_mod (by simp only [hr, Reg.LDG_SITE_STATUS, bayBase]; omega))
  have counted : ((s.setFlag (F.LDG_SITE_STATUS_OVER site) true).irq (0x80 + site)).pinSide = s.pinSide :=
    (irq_pinSide _ (by omega)).trans (status s _ true rfl)
  unfold State.overQuota; dsimp only
  split
  · rfl
  · split
    · exact (requestHalt_pinSide ..).trans ((status _ (F.LDG_SITE_STATUS_QSTOP site) true rfl).trans counted)
    · exact counted

theorem backlog_pinSide (s : State) {k : Nat} (kind : Nat) (h : k < 21 * 8) : (s.backlog k kind).pinSide = s.pinSide := by
  have stream := (setFlag_pinSide (s.lose k) (r := F.LDG_STR_STATUS_BACKLOG (k / 21) (k % 21)) true
    (besidePins_of_mod (by simp only [F.LDG_STR_STATUS_BACKLOG, Reg.LDG_STR_STATUS, bayBase]; omega))).trans (lose_pinSide s k)
  unfold State.backlog; dsimp only
  split
  · exact stream
  · exact (enter_pinSide _ _ _ _ _ _ (by decide)).trans <| (irq_pinSide _ (by omega)).trans <|
      (setFlag_pinSide _ true (besidePins_slice (k / 21))).trans stream

theorem takeRecord_pinSide (s : State) (k kind flags leaf ctx site : Nat) (payload : List Byte) :
    (s.takeRecord k kind flags leaf ctx site payload).pinSide = s.pinSide := by
  unfold State.takeRecord; dsimp only
  rw [setStream_pinSide, takeSeq_pinSide]
  split
  · rfl
  · exact takeSeq_pinSide ..

/-- A record of a stream of one of the bays is stored, dropped or lost (R272, R292, R297). -/
theorem record_pinSide (s : State) {k : Nat} (kind flags leaf ctx site : Nat) (payload : List Byte) (h : k < 21 * 8) :
    (s.record k kind flags leaf ctx site payload).pinSide = s.pinSide := by
  have seq := takeSeq_pinSide s k
  unfold State.record; extract_lets b len fl
  generalize (if isGeneral kind then 126976 else 4096) = room
  split
  · exact (lose_pinSide _ k).trans seq
  · split
    · rename_i dropped
      have hsite : site < 64 := by simp at dropped; omega
      rw [overQuota_pinSide _ _ hsite, setStream_pinSide, setSiteCount_pinSide, seq]
    · split
      · exact (lose_pinSide _ k).trans seq
      · split
        · exact (backlog_pinSide _ kind h).trans seq
        · exact takeRecord_pinSide ..

/-! ### Contexts -/

theorem addDue_pinSide (s : State) (c n : Nat) (d : Due) : (s.addDue c n d).pinSide = s.pinSide := rfl

theorem invalidate_pinSide (s : State) (c reason : Nat) : (s.invalidate c reason).pinSide = s.pinSide := by
  refine eachOf_keep_mem State.pinSide (fun site mem t => record_pinSide t _ _ _ _ _ _ ?_) s
  have : site < 64 := List.mem_range.1 (List.mem_filter.1 (List.mem_filter.1 mem).1).1
  unfold strOfSite; omega

theorem latchRunEnd_pinSide (s : State) (c : Nat) : (s.latchRunEnd c).pinSide = s.pinSide :=
  eachOf_keep State.pinSide _ (fun _ _ => setSiteCount_pinSide ..) (s.sitesOf c) s

theorem ctxEvent_pinSide (s : State) {c : Nat} (kind n : Nat) (payload : List Byte) (hc : c < 16) :
    (s.ctxEvent c kind n payload).pinSide = s.pinSide := by
  have stream : strOfCtx c < 21 * 8 := by unfold strOfCtx; omega
  unfold State.ctxEvent State.event; dsimp only
  split
  · exact (record_pinSide _ _ _ _ _ _ _ stream).trans (latchRunEnd_pinSide s c)
  · exact record_pinSide _ _ _ _ _ _ _ stream

theorem markStop_pinSide (s : State) (c cn leaf addr : Nat) : (s.markStop c cn leaf addr).pinSide = s.pinSide := by
  have beside : ∀ o, o % 64 ≠ 0 → besidePins (ctxBase c + o) := fun o ho =>
    besidePins_of_mod (by simp only [ctxBase, bayBase]; omega)
  exact (setF_pinSide _ _ (beside 0x5c (by decide))).trans <| (wr_pinSide _ _ (beside 0x58 (by decide))).trans <|
    (wr_pinSide _ _ (beside 0x54 (by decide))).trans (wr_pinSide s _ (beside 0x50 (by decide)))

theorem besidePins_RDR_STATUS (c : Nat) : besidePins (Reg.RDR_STATUS c) :=
  besidePins_of_mod (by simp only [Reg.RDR_STATUS, ctxBase, bayBase]; omega)

theorem breakSyncs_pinSide (s : State) (c : Nat) : (s.breakSyncs c).pinSide = s.pinSide := by
  refine each_keep State.pinSide _ (fun c' t => ?_) 16 s
  split
  · split
    · split <;> rfl
    · rfl
  · rfl

theorem setCtxState_pinSide (s : State) {c : Nat} (st : CtxState) (hc : c < 16) : (s.setCtxState c st).pinSide = s.pinSide := by
  have stored := setF_pinSide s (r := F.RDR_STATUS_STATE c) st.code (besidePins_RDR_STATUS c)
  have counted : ∀ n < 0x400, ((s.setF (F.RDR_STATUS_STATE c) st.code).irq n).pinSide = s.pinSide := fun n hn =>
    (irq_pinSide _ hn).trans stored
  unfold State.setCtxState; extract_lets t u v
  have hu : u.pinSide = s.pinSide := by
    simp only [u]; split
    · exact stored
    · split
      · exact counted _ (by omega)
      · exact counted _ (by omega)
      · exact counted _ (by omega)
      · exact stored
  have hv : v.pinSide = s.pinSide := (modeIrq_pinSide u s).trans hu
  split
  · exact (breakSyncs_pinSide ..).trans hv
  · exact (breakSyncs_pinSide ..).trans hv
  · exact (breakSyncs_pinSide ..).trans hv
  · exact hv

/-- A context stopped with its pins due later keeps the pin side: RUN_END, the status, the state (Table 6-8). -/
theorem stopCtx_pinSide (s : State) {c n : Nat} (code : Nat) (hc : c < 16) (hn : n ≠ 0) : (s.stopCtx c code n).pinSide = s.pinSide := by
  unfold State.stopCtx; dsimp only
  rw [if_neg hn, addDue_pinSide, setCtxState_pinSide _ _ hc]
  exact (onCtx_pinSide ..).trans <| (setF_pinSide _ code (besidePins_RDR_STATUS c)).trans <| (ctxEvent_pinSide _ _ _ _ hc).trans (markStop_pinSide ..)

/-! ### Channels -/

theorem discard_pinSide (s : State) (ch : Nat) (boundary : Int) : (s.discard ch boundary).pinSide = s.pinSide := by
  unfold State.discard; extract_lets x gone cut t strobes u
  have shown : u.pinSide = s.pinSide := setFlag_pinSide t true
    (besidePins_of_mod (by simp only [F.EDG_STATUS_DISCARD, Reg.EDG_STATUS, chnBase, bayBase]; omega))
  split
  · exact setChan_pinSide ..
  · split
    · exact (eachOf_keep State.pinSide _ (fun _ _ => onCtx_pinSide ..) strobes u).trans shown
    · exact shown

theorem disconnect_pinSide (s : State) (ch : Nat) : (s.disconnect ch).pinSide = s.pinSide := by
  unfold State.disconnect; dsimp only
  split
  · exact (onChan_pinSide ..).trans (discard_pinSide ..)
  · exact (onChan_pinSide ..).trans (discard_pinSide ..)

theorem pmuStop_pinSide (s : State) (ch : Nat) : (s.pmuStop ch).pinSide = s.pinSide := rfl

theorem fltRestart_pinSide (s : State) (ch : Nat) : (s.fltRestart ch).pinSide = s.pinSide := by
  unfold State.fltRestart; split
  · exact (setF_pinSide _ (r := F.FLT_GD_GD ch) _
      (besidePins_of_mod (by simp only [F.FLT_GD_GD, Reg.FLT_GD, bayBase]; omega))).trans (onPmu_pinSide ..)
  · rfl

/-- An inventory step that is abandoned (R605). -/
theorem istDrop_pinSide (s : State) (p : IstStep → Bool) : (s.istDrop p).pinSide = s.pinSide := by
  unfold State.istDrop
  split
  · rfl
  · split
    · rfl
    · dsimp only
      rw [satInc_pinSide _ (besidePins_chip (by decide) (by decide)), setFlag_pinSide _ _ (besidePins_chip (by decide) (by decide))]
      split <;> rfl

theorem connect_pinSide (s : State) (ch : Nat) : (s.connect ch).pinSide = s.pinSide :=
  (onChan_pinSide ..).trans (istDrop_pinSide ..)

theorem syncConn_pinSide (s : State) (ch : Nat) : (s.syncConn ch).pinSide = s.pinSide := by
  unfold State.syncConn; extract_lets want x
  split
  · split
    · rfl
    · exact disconnect_pinSide ..
  · split
    · rfl
    · split
      · exact connect_pinSide ..
      · exact onChan_pinSide ..

/-! ### Measuring units and calibrations -/

theorem acqRecord_pinSide (s : State) (e sub tstate detail w0 w1 w2 a b : Nat) (extra : List Byte) (n : Nat) :
    (s.acqRecord e sub tstate detail w0 w1 w2 a b extra n).pinSide = s.pinSide := by
  have bay : s.f (F.ACQ_CFG_SBAY e) < 2 ^ 2 := bitsAt_lt ..
  have stream : s.f (F.ACQ_CFG_STREAM_T e) < 2 ^ 5 := bitsAt_lt ..
  exact record_pinSide s _ _ _ _ _ _ (by unfold streamKey; omega)

theorem acqMinMax_pinSide (s : State) (e tstate : Nat) : (s.acqMinMax e tstate).pinSide = s.pinSide := by
  unfold State.acqMinMax; dsimp only
  rw [onAcq_pinSide]
  split
  · rfl
  · exact acqRecord_pinSide ..

theorem acqDone_pinSide (s : State) {e : Nat} (cause : Nat) (smp : Option (Nat × Nat)) (he : e < 8) :
    (s.acqDone e cause smp).pinSide = s.pinSide := by
  have status : ∀ (t : State) (r : RF) (v : Nat), r.addr = Reg.ACQ_STATUS e → (t.setF r v).pinSide = t.pinSide := fun t r v hr =>
    setF_pinSide t v (besidePins_of_mod (by simp only [hr, Reg.ACQ_STATUS, engBase, bayBase]; omega))
  unfold State.acqDone State.acqShow State.setFlag; dsimp only
  rw [irq_pinSide _ (by omega), status _ (F.ACQ_STATUS_HOLDOFF e) _ rfl, status _ (F.ACQ_STATUS_MASK e) _ rfl,
    status _ (F.ACQ_STATUS_SEG e) _ rfl, status _ (F.ACQ_STATUS_STATE e) _ rfl, status _ (F.ACQ_STATUS_CAUSE e) _ rfl]
  exact (onAcq_pinSide ..).trans <| (acqRecord_pinSide ..).trans (acqMinMax_pinSide ..)

theorem acqStop_pinSide (s : State) {e : Nat} (cause : Nat) (he : e < 8) : (s.acqStop e cause).pinSide = s.pinSide := by
  unfold State.acqStop; split
  · exact acqDone_pinSide s cause none he
  · rfl

theorem timStopped_pinSide (s : State) (t cause : Nat) : (s.timStopped t cause).pinSide = s.pinSide := by
  have status : besidePins (Reg.TIM_STATUS t) := besidePins_of_mod (by unfold Reg.TIM_STATUS; omega)
  unfold State.timStopped; split
  · exact (onTim_pinSide ..).trans <| (setF_pinSide _ 2 status).trans (setF_pinSide s cause status)
  · rfl

theorem calEnd_pinSide (s : State) (b r : Nat) : (s.calEnd b r).pinSide = s.pinSide := by
  have status : besidePins (Reg.CAL_BAY_STATUS b) := besidePins_of_mod (by unfold Reg.CAL_BAY_STATUS; omega)
  have result : ∀ t : State, (t.calResult b r).pinSide = t.pinSide := by
    intro t
    unfold State.calResult; dsimp only
    split
    · exact (setFlag_pinSide _ false (besidePins_of_mod (by decide))).trans (setF_pinSide t r status)
    · exact setF_pinSide t r status
  unfold State.calEnd
  split
  · rfl
  · dsimp only
    rw [result, each_keep State.pinSide _ (fun i t => syncConn_pinSide t _)]
    exact (setF_pinSide _ 0 status).trans (onCal_pinSide ..)

theorem dlStop_pinSide (s : State) (g : Nat) : (s.dlStop g).pinSide = s.pinSide :=
  each_keep State.pinSide _ (fun _ _ => onDlane_pinSide ..) 8 s

end Sys2Proof.Machine

/-! SUPPORT. Safe as a boundary instruction of the test access port enters it, the scans, and O58 (22_debug_and_in_service_test.md
R590 to R594). -/
namespace Sys2Proof.Machine

/-! ### Safe entry with every PATH at NONE (R86, R593) -/

/-- Safe is in force exactly where Cold is not and the stored mode is Safe: no context's state changes it (R41). -/
theorem mode_eq_safe_iff (s : State) : s.mode = .safe ↔ s.sys.cold = false ∧ s.heldMode = .safe := by
  unfold State.mode
  cases s.sys.cold
  · rw [if_neg Bool.false_ne_true]
    by_cases idle : s.heldMode = .idle
    · rw [if_pos idle]
      refine iff_of_false (fun h => ?_) (fun h => nomatch idle.symm.trans h.2)
      split at h
      · cases h
      · split at h
        · cases h
        · split at h
          · cases h
          · cases h
    · rw [if_neg idle]
      exact ⟨fun h => ⟨rfl, h⟩, fun h => h.2⟩
  · rw [if_pos rfl]
    exact iff_of_false (fun h => nomatch h) (fun h => nomatch h.1)

theorem cold_of_mode_ne {s : State} (h : s.mode ≠ .cold) : s.sys.cold = false := by
  unfold State.mode at h
  cases hc : s.sys.cold
  · rfl
  · simp [hc] at h

theorem Mode.ofCode_eq_safe_iff (n : Nat) : Mode.ofCode n = .safe ↔ n = 11 := by
  constructor
  · intro h
    unfold Mode.ofCode at h
    split at h <;> simp_all
  · rintro rfl; rfl

theorem CHN_CTRL_injective {k ch : Nat} (h : Reg.CHN_CTRL k = Reg.CHN_CTRL ch) : k = ch := by
  simp only [Reg.CHN_CTRL, chnBase, bayBase] at h; omega

/-- A pin side with the PATH of every channel below n at NONE. -/
def PinSide.pathsOff (p : PinSide) (n : Nat) : PinSide := { p with path := fun ch => if ch < n then 0 else p.path ch }

theorem PinSide.pathsOff_zero (p : PinSide) : p.pathsOff 0 = p := by simp [PinSide.pathsOff]

/-- One more PATH at NONE. -/
theorem pathOff_pinSide {s : State} {p : PinSide} {ch : Nat} (h : s.pinSide = p.pathsOff ch) :
    (s.setF (F.CHN_CTRL_PATH ch) 0).pinSide = p.pathsOff (ch + 1) := by
  have within : (F.CHN_CTRL_PATH ch).lo + (F.CHN_CTRL_PATH ch).width ≤ 32 := by simp [F.CHN_CTRL_PATH]
  refine setF_pinSide_eq s (F.CHN_CTRL_PATH ch) 0 (congrArg PinSide.tap h :) (congrArg PinSide.cold h :) ?_ (fun k => ?_)
  · exact (f_setF_ne s (F.CHN_CTRL_PATH ch) _ 0 within (.inl (CHN_CTRL_ne_SYS_MODE ch).symm)).trans (congrArg PinSide.mode h)
  · have before : s.f (F.CHN_CTRL_PATH k) = if k < ch then 0 else p.path k := congrFun (congrArg PinSide.path h) k
    change (s.setF (F.CHN_CTRL_PATH ch) 0).f (F.CHN_CTRL_PATH k) = if k < ch + 1 then 0 else p.path k
    by_cases hk : k = ch
    · rw [hk, f_setF_same s (F.CHN_CTRL_PATH ch) 0 within, if_pos (Nat.lt_succ_self ch), Nat.zero_mod]
    · rw [f_setF_ne s (F.CHN_CTRL_PATH ch) _ 0 within (.inl fun e => hk (CHN_CTRL_injective e)), before]
      simp only [show k < ch + 1 ↔ k < ch by omega]

/-- A loop whose turns each set their channel's PATH to NONE, and keep the pin side else. -/
theorem each_pathOff_pinSide {act : Nat → State → State} (h : ∀ ch s, (act ch s).pinSide = (s.setF (F.CHN_CTRL_PATH ch) 0).pinSide)
    (s : State) (n : Nat) : (s.each n act).pinSide = s.pinSide.pathsOff n := by
  induction n with
  | zero => exact (PinSide.pathsOff_zero _).symm
  | succ n ih => rw [each_succ, h, pathOff_pinSide ih]

theorem preempt_pinSide (s : State) : s.preempt.pinSide = s.pinSide := by
  unfold State.preempt; dsimp only; split
  · exact (noTarget_pinSide _).trans <| (modeResult_pinSide _ _ _).trans <|
      setF_pinSide_sysMode s (r := F.SYS_MODE_BUSY) (b2n false) rfl (by decide) (by decide)
  · rfl

/-- A pin side in Safe. -/
def PinSide.inSafe (p : PinSide) : PinSide := { p with mode := Mode.safe.code }

/-- A pin side released to the boundary register: in Safe, the PATH of every channel at NONE. -/
def PinSide.released (p : PinSide) : PinSide := p.inSafe.pathsOff 256

/-- What a state with a released pin side shows. -/
theorem released_spec {s t : State} (h : t.pinSide = s.pinSide.released) (cold : s.mode ≠ .cold) :
    t.tap = s.tap ∧ t.mode = .safe ∧ ∀ ch, ch < 256 → t.f (F.CHN_CTRL_PATH ch) = 0 := by
  refine ⟨(congrArg PinSide.tap h :), (mode_eq_safe_iff t).2 ⟨?_, ?_⟩, fun ch hch => ?_⟩
  · exact (congrArg PinSide.cold h :).trans (cold_of_mode_ne cold)
  · exact (Mode.ofCode_eq_safe_iff _).2 (congrArg PinSide.mode h :)
  · exact (congrFun (congrArg PinSide.path h) ch :).trans (if_pos hch)

theorem inSafe_of_safe {s : State} (h : s.mode = .safe) : s.pinSide.inSafe = s.pinSide := by
  have stored : s.f F.SYS_MODE_MODE = 11 := (Mode.ofCode_eq_safe_iff _).1 ((mode_eq_safe_iff s).1 h).2
  exact PinSide.ext rfl rfl stored.symm rfl

/-- Safe entry from another mode, with the channels' pins left open (R50, R86). -/
theorem safeEntry_pinSide {s : State} (cold : s.mode ≠ .cold) (safe : s.mode ≠ .safe) : (s.safeEntry false).pinSide = s.pinSide.released := by
  unfold State.safeEntry
  rw [if_neg cold, if_neg safe]
  extract_lets s0 preempted invalidated sys dropped stored stopped opened acqsDone timsDone
  have hinvalidated : invalidated.pinSide = s.pinSide := by
    refine (each_keep State.pinSide _ (fun c t => ?_) 16 preempted).trans (preempt_pinSide s)
    split
    · exact invalidate_pinSide ..
    · rfl
  have hdropped : dropped.pinSide = s.pinSide := (noTest_pinSide invalidated).trans hinvalidated
  have hstored : stored.pinSide = s.pinSide.inSafe := by
    rw [modeIrq_pinSide, setF_pinSide_mode dropped (by decide), hdropped]; rfl
  have hstopped : stopped.pinSide = s.pinSide.inSafe := by
    refine (each_keep_lt State.pinSide (fun c hc t => ?_) stored).trans hstored
    split
    · exact stopCtx_pinSide t _ hc (by decide)
    · rfl
  have hopened : opened.pinSide = s.pinSide.released := by
    refine (each_pathOff_pinSide (fun ch t => ?_) stopped 256).trans (congrArg (PinSide.pathsOff · 256) hstopped)
    extract_lets late was off restarted left
    have hrestarted : restarted.pinSide = off.pinSide := by
      simp only [restarted, Bool.false_eq_true, if_false]; split
      · rfl
      · exact fltRestart_pinSide ..
    have hleft : left.pinSide = restarted.pinSide := by
      simp only [left, Bool.false_eq_true, if_false]; split
      · rfl
      · exact disconnect_pinSide ..
    exact (pmuStop_pinSide left ch).trans (hleft.trans hrestarted)
  have hacqs : acqsDone.pinSide = s.pinSide.released :=
    (each_keep_lt State.pinSide (fun e he t => acqStop_pinSide t _ he) opened).trans hopened
  have htims : timsDone.pinSide = s.pinSide.released :=
    (each_keep State.pinSide _ (fun b t => (calEnd_pinSide _ b _).trans (timStopped_pinSide t b _)) 4 acqsDone).trans hacqs
  exact (istDrop_pinSide ..).trans <| (dlStop_pinSide ..).trans <| (dlStop_pinSide ..).trans htims

/-- A boundary instruction takes the balls: Safe, and every PATH at NONE, also where Safe was in force (R593). -/
theorem tapSafe_pinSide {s : State} (cold : s.mode ≠ .cold) (boot : s.mode ≠ .boot) : s.tapSafe.pinSide = s.pinSide.released := by
  unfold State.tapSafe
  rw [if_neg (not_or.2 ⟨cold, boot⟩)]
  extract_lets was entered left
  refine (modeResult_pinSide ..).trans ?_
  by_cases safe : s.mode = .safe
  · have kept : entered.pinSide = s.pinSide := by
      simp only [entered, State.safeEntry, if_neg cold, if_pos safe]; exact preempt_pinSide s
    simp only [left, was, if_pos safe]
    refine (each_pathOff_pinSide (fun ch t => ?_) entered 256).trans ?_
    · exact (pmuStop_pinSide ..).trans (disconnect_pinSide ..)
    · rw [kept, PinSide.released, inSafe_of_safe safe]
  · simp only [left, was, if_neg safe]
    exact safeEntry_pinSide cold safe

/-! ### The scans -/

theorem tapIr_mode (s : State) (ir : Nat) : (s.tapIr ir).mode = s.mode := rfl
theorem tapIr_tap (s : State) (ir : Nat) : (s.tapIr ir).tap = { s.tap with ir := ir } := rfl

/-- The update of the boundary cells. -/
def State.loadCells (s : State) (cells : Nat) : State := { s with tap := { s.tap with cells := cells % 2 ^ 54 } }

/-- A boundary instruction has taken the balls: it stands in the instruction register, Safe is in force, every channel's PATH is NONE. -/
structure BallsTaken (ir : Nat) (q : State) : Prop where
  loaded : q.tap.ir = ir
  safe : q.mode = .safe
  path : ∀ ch, ch < 256 → q.f (F.CHN_CTRL_PATH ch) = 0

theorem tapSafe_ballsTaken {s : State} (ir : Nat) (cold : s.mode ≠ .cold) (boot : s.mode ≠ .boot) :
    BallsTaken ir (s.tapIr ir).tapSafe := by
  rw [← tapIr_mode s ir] at cold boot
  obtain ⟨tap, safe, path⟩ := released_spec (tapSafe_pinSide cold boot) cold
  exact ⟨by rw [tap, tapIr_tap], safe, path⟩

theorem loadCells_ir (q : State) (cells : Nat) : (q.loadCells cells).tap.ir = q.tap.ir := rfl
theorem loadCells_mode (q : State) (cells : Nat) : (q.loadCells cells).mode = q.mode := rfl
theorem loadCells_f (q : State) (cells : Nat) (r : RF) : (q.loadCells cells).f r = q.f r := rfl
theorem loadCells_cells (q : State) {cells : Nat} (h : cells < 2 ^ 54) : (q.loadCells cells).tap.cells = cells := Nat.mod_eq_of_lt h
theorem emit_mode (q : State) (o : Out) : (q.emit o).mode = q.mode := rfl
theorem emit_boundaryDrive (q : State) (o : Out) : (q.emit o).boundaryDrive = q.boundaryDrive := rfl
theorem emit_getLast? (q : State) (o : Out) : (q.emit o).out.getLast? = some o := by rw [emit_out, List.getLast?_concat]

theorem boundaryDrive_cells {s : State} (h : s.tap.ir = 0x00 ∨ s.tap.ir = 0x04) : s.boundaryDrive = some s.tap.cells := by
  obtain h | h := h
  · simp only [State.boundaryDrive, h]
  · simp only [State.boundaryDrive, h]

theorem boundaryDrive_highz {s : State} (h : s.tap.ir = 0x03) : s.boundaryDrive = some 0 := by
  simp only [State.boundaryDrive, h]

section
variable {s : State} (on : s.sys.unpowered = false)
include on

theorem tapOn_powered (act : State → State) : s.tapOn act = act s := by simp [State.tapOn, on]

theorem exec_tapReset : exec .tapReset s = .next { s with tap := { s.tap with ir := 0x02 } } := congrArg _ (tapOn_powered on _)

theorem exec_tapIdcode : exec .tapIdcode s = .next ((s.tapIr 0x02).emit (.answer tdoPort 0x1B2565D3)) := congrArg _ (tapOn_powered on _)

theorem exec_tapBypass : exec .tapBypass s = .next ((s.tapIr 0xFF).emit (.answer tdoPort 0)) := congrArg _ (tapOn_powered on _)

theorem exec_dapStatus : exec .dapStatus s = .next ((s.tapIr 0x11).emit (.answer tdoPort s.dbgStatus)) := congrArg _ (tapOn_powered on _)

theorem exec_tapSamplePreload (cells pins : Nat) : exec (.tapSamplePreload cells pins) s =
    .next (((s.tapIr 0x01).loadCells cells).emit (.answer tdoPort (pins % 2 ^ 54))) := congrArg _ (tapOn_powered on _)

theorem exec_tapExtest (cells pins : Nat) : exec (.tapExtest cells pins) s =
    .next (((s.tapIr 0x00).tapSafe.loadCells cells).emit (.answer tdoPort (pins % 2 ^ 54))) := congrArg _ (tapOn_powered on _)

theorem exec_tapClamp (cells : Nat) : exec (.tapClamp cells) s =
    .next (((s.tapIr 0x04).tapSafe.loadCells cells).emit (.answer tdoPort 0)) := congrArg _ (tapOn_powered on _)

theorem exec_tapHighz : exec .tapHighz s = .next ((s.tapIr 0x03).tapSafe.emit (.answer tdoPort 0)) := congrArg _ (tapOn_powered on _)

end

/-- The cells drive after the scan of EXTEST or CLAMP. -/
theorem BallsTaken.driven {q : State} {ir cells : Nat} (h : BallsTaken ir q) (hir : ir = 0x00 ∨ ir = 0x04) (hc : cells < 2 ^ 54) (o : Out) :
    ((q.loadCells cells).emit o).boundaryDrive = some cells ∧ BallsTaken ir ((q.loadCells cells).emit o) := by
  have loaded : (q.loadCells cells).tap.ir = ir := (loadCells_ir ..).trans h.loaded
  refine ⟨?_, (congrArg Tap.ir (emit_tap ..)).trans loaded, (emit_mode ..).trans ((loadCells_mode ..).trans h.safe), fun ch hch => ?_⟩
  · rw [emit_boundaryDrive, boundaryDrive_cells (by rwa [loaded]), loadCells_cells q hc]
  · rw [emit_f, loadCells_f]; exact h.path ch hch

end Sys2Proof.Machine

namespace Sys2Proof

open Sys2Proof.Machine

theorem tapQuiet_holds : Clause.TapQuiet := by
  intro s on
  refine ⟨reaches_of_exec (exec_tapReset on) rfl, reaches_of_exec (exec_tapIdcode on) ⟨rfl, emit_getLast? .., rfl, rfl⟩,
    reaches_of_exec (exec_tapBypass on) ⟨rfl, emit_getLast? .., rfl, rfl⟩,
    reaches_of_exec (exec_dapStatus on) ⟨rfl, emit_getLast? .., rfl, rfl⟩,
    fun cells pins hc hp => reaches_of_exec (exec_tapSamplePreload on cells pins) ⟨?_, ?_, rfl, rfl, rfl⟩⟩
  · exact loadCells_cells _ hc
  · rw [emit_getLast?, Nat.mod_eq_of_lt hp]

theorem tapDrives_holds : Clause.TapDrives := by
  intro s cells pins on cold boot hc hp
  refine ⟨?_, ?_, ?_⟩
  · obtain ⟨drive, taken⟩ := (tapSafe_ballsTaken 0x00 cold boot).driven (.inl rfl) hc (.answer tdoPort (pins % 2 ^ 54))
    exact reaches_of_exec (exec_tapExtest on cells pins)
      ⟨drive, by rw [emit_getLast?, Nat.mod_eq_of_lt hp], taken.safe, taken.path⟩
  · obtain ⟨drive, taken⟩ := (tapSafe_ballsTaken 0x04 cold boot).driven (.inr rfl) hc (.answer tdoPort 0)
    exact reaches_of_exec (exec_tapClamp on cells) ⟨drive, taken.safe, taken.path⟩
  · have taken := tapSafe_ballsTaken 0x03 cold boot
    exact reaches_of_exec (exec_tapHighz on)
      ⟨(emit_boundaryDrive ..).trans (boundaryDrive_highz taken.loaded), (emit_mode ..).trans taken.safe, taken.path⟩

/-- Settles O58: the quiet scans by their equations; a boundary instruction leaves the pin side released, and nothing of a Safe entry
changes the TAP. -/
theorem tapScans : Obligations.TapScans := ⟨tapQuiet_holds, tapDrives_holds⟩

end Sys2Proof
